-- ==== Sys2Proof/Word.lean ====
section
/-! DEFINITION. The byte, the unit of every frame of the ZK716 (spec 10.1 and 12.6). -/

namespace Sys2Proof

/-- One byte of a master link frame or a field ring frame. -/
abbrev Byte := BitVec 8

end Sys2Proof
end

