-- ==== Sys2Proof/Config.lean ====
section
/-! DEFINITION. What the manual leaves open: constants without a body, so that nothing proved of the
model can lean on a value of them. -/

namespace Sys2Proof

/-- R170: where one event leads several blocks to post to one link, the part fixes no order between the
blocks. The value at `n` is the `n`-th such choice. DESIGN CHOICE (log 5): a free value. -/
opaque Config.noticeOrder : Nat → Nat

/-- 10.1 gives the load-gone byte of a REPLY as 0 or 1 and R143 does not refuse another byte. What such
another byte says is free. DESIGN CHOICE (log 25). -/
opaque Config.oddLoadGone : Byte → Bool

end Sys2Proof
end

