-- ==== Sys2Proof/Syntax.lean ====
section
/-! DEFINITION. The commands of the ZK716: one constructor of `Instr` for each row of
spec/opcode_table.json, with the operands that the layouts of 10.1 and 12.6 give. Operand fields hold the
numbers as they stand on the wire; the meanings decode and check them, since most checks belong to the rule
that owns the request (12.6: "refused by the owning rule"). -/

namespace Sys2Proof

/-- The two master links; inside the part the masters appear as the owners LINE and CONSOLE (00). -/
inductive Link where
  | line
  | console
  deriving DecidableEq, Repr

/-- The two field ring branches. -/
inductive Branch where
  | a
  | b
  deriving DecidableEq, Repr

/-- The inputs sampled at power-on and at the reset pin: the encoder levels (R4), the zone lines ZN0 to ZN7
with a high line 1 (R73; high reads RUN) and the ring signal of each branch (R144). -/
structure Samples where
  encA  : Bool
  encB  : Bool
  zones : BitVec 8
  ringA : Bool
  ringB : Bool
  deriving DecidableEq, Repr

/-- The body of LOAD_GEOMETRY (12.6, R1). -/
structure GeometryFields where
  length     : Nat
  carriers   : Nat
  pitch      : Nat
  scale      : Nat
  homeTol    : Nat
  grace      : Nat
  slack      : Nat
  latency    : Nat
  vmax       : Nat
  jog        : Nat
  linkBranch : Nat
  linkNode   : Nat
  maxAge     : Nat
  deriving DecidableEq, Repr

/-- The body of WRITE_POINT (12.6, R36). -/
structure PointFields where
  tag   : Nat
  kind  : Nat
  loc   : Nat
  bias  : Int
  tol   : Nat
  zone  : Nat
  edge  : Option Nat
  entry : Option Nat
  throw : Option Nat
  side  : Option Nat
  deriving DecidableEq, Repr

/-- The body of WRITE_WINDOW (12.6, R53). -/
structure WindowFields where
  number   : Nat
  enabled  : Nat
  base     : Nat
  mask     : Nat
  mode     : Nat
  weight   : Option Nat
  nodeBase : Nat
  perms    : Nat
  deriving DecidableEq, Repr

/-- The body of SUBMIT_TRIAL (12.6, R113). -/
structure TrialFields where
  kind     : Nat
  target   : Nat
  need     : Nat
  limit    : Nat
  time     : Nat
  band     : Option Nat
  jogSpeed : Option Nat
  jogTime  : Option Nat
  deriving DecidableEq, Repr

/-- The body of LIST_POINTS (12.6, R46). -/
structure ListFields where
  start   : Nat
  count   : Nat
  kind    : Option Nat
  custody : Option Nat
  proof   : Option Nat
  deriving DecidableEq, Repr

/-- The body of CAPTURE_SET (12.6, R160). -/
structure CaptureFields where
  channel : Nat
  tag     : Nat
  first   : Nat
  count   : Nat
  double  : Nat
  target  : Option Nat
  deriving DecidableEq, Repr

/-- The body of an EVENT frame (10.1). -/
structure EventFields where
  node    : Nat
  channel : Nat
  seq     : Bool
  falling : Bool
  age     : Nat
  ref     : BitVec 32
  deriving DecidableEq, Repr

/-- The body of a REPLY frame (10.1): status DONE 1, BUSY 2, REFUSED 3, FAULT 4. -/
structure ReplyFields where
  tag      : Nat
  node     : Nat
  status   : Nat
  value    : Nat
  loadGone : Bool
  deriving DecidableEq, Repr

/-- The body of an ANNOUNCE frame (10.1). -/
structure AnnounceFields where
  node     : Nat
  kind     : Nat
  channels : Nat
  deriving DecidableEq, Repr

/-- A request of the catalogue of R169 with its body (12.6). -/
inductive Request where
  | loadGeometry (g : GeometryFields)
  | writePoint (p : PointFields)
  | deletePoint (tag : Nat)
  | clearRegister
  | writeWindow (w : WindowFields)
  | submitTrial (t : TrialFields)
  | cancelTrial (id : Nat)
  | take (tag : Nat)
  | giveBack (tag : Nat)
  | restartBranch (branch : Nat)
  | setLoopSpeed (speed : Nat)
  | setService (tag service : Nat)
  | answerAsk (tag answer : Nat)
  | discharge (carrier chute : Nat)
  | cancelDischarge (carrier : Nat)
  | clearCarrier (carrier : Nat)
  | readPoint (tag : Nat)
  | listPoints (q : ListFields)
  | readWindow (number : Nat)
  | readCarrier (carrier : Nat)
  | readTracker
  | readTrial (id : Nat)
  | readBranch (branch : Nat)
  | nodeQuery (tag item : Nat)
  | digest
  | captureSet (c : CaptureFields)
  | captureStop (channel : Nat)
  | captureOff (channel : Nat)
  | captureRead (channel count : Nat)
  | fetchNotices (max : Nat)
  deriving DecidableEq, Repr

/-- The commands: the rows of spec/opcode_table.json. A request's command is its taking from the intake
(R167); it names its link where the catalogue of R169 lets both links send it, and carries its request tag. -/
inductive Instr where
  | powerOn (x : Samples)
  | resetPin (x : Samples)
  | breakBegin (link : Link)
  | portReset (link : Link)
  | breakEnd (link : Link)
  | requestFrame (link : Link) (bytes : List Byte)
  | loadGeometry (rtag : Nat) (g : GeometryFields)
  | writePoint (rtag : Nat) (p : PointFields)
  | deletePoint (rtag tag : Nat)
  | clearRegister (rtag : Nat)
  | writeWindow (rtag : Nat) (w : WindowFields)
  | submitTrial (rtag : Nat) (t : TrialFields)
  | cancelTrial (rtag id : Nat)
  | take (rtag tag : Nat)
  | giveBack (rtag tag : Nat)
  | restartBranch (rtag branch : Nat)
  | setLoopSpeed (rtag speed : Nat)
  | setService (rtag tag service : Nat)
  | answerAsk (rtag tag answer : Nat)
  | discharge (link : Link) (rtag carrier chute : Nat)
  | cancelDischarge (link : Link) (rtag carrier : Nat)
  | clearCarrier (link : Link) (rtag carrier : Nat)
  | readPoint (link : Link) (rtag tag : Nat)
  | listPoints (link : Link) (rtag : Nat) (q : ListFields)
  | readWindow (link : Link) (rtag number : Nat)
  | readCarrier (link : Link) (rtag carrier : Nat)
  | readTracker (link : Link) (rtag : Nat)
  | readTrial (link : Link) (rtag id : Nat)
  | readBranch (link : Link) (rtag branch : Nat)
  | nodeQuery (link : Link) (rtag tag item : Nat)
  | digest (link : Link) (rtag : Nat)
  | captureSet (link : Link) (rtag : Nat) (c : CaptureFields)
  | captureStop (link : Link) (rtag channel : Nat)
  | captureOff (link : Link) (rtag channel : Nat)
  | captureRead (link : Link) (rtag channel count : Nat)
  | fetchNotices (link : Link) (rtag max : Nat)
  | encoderEvent (encA encB : Bool)
  | homeEvent
  | sampleTimerExpiry
  | zoneFenced (zone : Fin 8)
  | zoneUnfenced (zone : Fin 8)
  | ringSignalLost (branch : Branch)
  | ringSignalReturned (branch : Branch)
  | announcePeriodEnd (branch : Branch)
  | uplinkBadFrame (branch : Branch) (bytes : List Byte)
  | announceFrame (branch : Branch) (f : AnnounceFields)
  | eventFrame (branch : Branch) (f : EventFields)
  | replyFrame (branch : Branch) (f : ReplyFields)
  | downlinkFrameEnd (branch : Branch)
  | replyDeadlineExpiry (branch : Branch) (tag : Nat)
  | askTimerExpiry (tag : Nat)
  | digestWalkComplete
  | trialTimeExpiry (id : Nat)
  | pollTimerExpiry (id : Nat)
  | answerFrameSent (link : Link)
  deriving DecidableEq, Repr

end Sys2Proof
end

