-- ==== Sys2Proof/WellFormed.lean ====
section
/-! DEFINITION. A well-formed command: every operand fits the field that carries it on the wire (10.1, 12.6).
Values that fit their field but lie outside a rule's range are well formed: the owning rule refuses them. -/

namespace Sys2Proof

/-- `n` fits a field of `w` bytes. -/
abbrev fits (w n : Nat) : Bool := decide (n < 256 ^ w)

/-- `z` fits a signed field of two bytes. -/
abbrev fitsSigned (z : Int) : Bool := decide (-32768 ≤ z ∧ z ≤ 32767)

/-- An optional field's value, when present, fits `w` bytes. -/
def fitsOpt (w : Nat) : Option Nat → Bool
  | none => true
  | some n => fits w n

/-- The fields of each request body fit the widths of 12.6. -/
def Request.wellFormed : Request → Bool
  | .loadGeometry g =>
    fits 4 g.length && fits 2 g.carriers && fits 2 g.pitch && fits 4 g.scale && fits 2 g.homeTol &&
    fits 2 g.grace && fits 2 g.slack && fits 1 g.latency && fits 2 g.vmax && fits 4 g.jog &&
    fits 1 g.linkBranch && fits 1 g.linkNode && fits 2 g.maxAge
  | .writePoint p =>
    fits 2 p.tag && fits 1 p.kind && fits 4 p.loc && fitsSigned p.bias && fits 2 p.tol && fits 1 p.zone &&
    fitsOpt 1 p.edge && fitsOpt 2 p.entry && fitsOpt 2 p.throw && fitsOpt 1 p.side
  | .deletePoint tag => fits 2 tag
  | .clearRegister => true
  | .writeWindow w =>
    fits 1 w.number && fits 1 w.enabled && fits 2 w.base && fits 2 w.mask && fits 1 w.mode &&
    fitsOpt 2 w.weight && fits 1 w.nodeBase && fits 1 w.perms
  | .submitTrial t =>
    fits 1 t.kind && fits 2 t.target && fits 1 t.need && fits 1 t.limit && fits 2 t.time &&
    fitsOpt 2 t.band && fitsOpt 2 t.jogSpeed && fitsOpt 2 t.jogTime
  | .cancelTrial id => fits 1 id
  | .take tag => fits 2 tag
  | .giveBack tag => fits 2 tag
  | .restartBranch branch => fits 1 branch
  | .setLoopSpeed speed => fits 2 speed
  | .setService tag service => fits 2 tag && fits 1 service
  | .answerAsk tag answer => fits 2 tag && fits 1 answer
  | .discharge carrier chute => fits 2 carrier && fits 2 chute
  | .cancelDischarge carrier => fits 2 carrier
  | .clearCarrier carrier => fits 2 carrier
  | .readPoint tag => fits 2 tag
  | .listPoints q =>
    fits 2 q.start && fits 1 q.count && fitsOpt 1 q.kind && fitsOpt 1 q.custody && fitsOpt 1 q.proof
  | .readWindow number => fits 1 number
  | .readCarrier carrier => fits 2 carrier
  | .readTracker => true
  | .readTrial id => fits 1 id
  | .readBranch branch => fits 1 branch
  | .nodeQuery tag item => fits 2 tag && fits 1 item
  | .digest => true
  | .captureSet c =>
    fits 1 c.channel && fits 2 c.tag && fits 1 c.first && fits 1 c.count && fits 1 c.double &&
    fitsOpt 2 c.target
  | .captureStop channel => fits 1 channel
  | .captureOff channel => fits 1 channel
  | .captureRead channel count => fits 1 channel && fits 1 count
  | .fetchNotices max => fits 1 max

/-- The fields of the uplink frames fit the widths of 10.1. -/
def EventFields.wellFormed (f : EventFields) : Bool := fits 1 f.node && fits 1 f.channel && fits 2 f.age
def ReplyFields.wellFormed (f : ReplyFields) : Bool :=
  fits 1 f.tag && fits 1 f.node && fits 1 f.status && fits 2 f.value
def AnnounceFields.wellFormed (f : AnnounceFields) : Bool :=
  fits 1 f.node && fits 1 f.kind && fits 1 f.channels

/-- Every operand of the command fits its field: request tags, transaction tags and trial ids take one byte,
point tags two. -/
def Instr.wellFormed : Instr → Bool
  | .powerOn _ => true
  | .resetPin _ => true
  | .breakBegin _ => true
  | .portReset _ => true
  | .breakEnd _ => true
  | .requestFrame _ _ => true
  | .loadGeometry rtag g => fits 1 rtag && (Request.loadGeometry g).wellFormed
  | .writePoint rtag p => fits 1 rtag && (Request.writePoint p).wellFormed
  | .deletePoint rtag tag => fits 1 rtag && (Request.deletePoint tag).wellFormed
  | .clearRegister rtag => fits 1 rtag
  | .writeWindow rtag w => fits 1 rtag && (Request.writeWindow w).wellFormed
  | .submitTrial rtag t => fits 1 rtag && (Request.submitTrial t).wellFormed
  | .cancelTrial rtag id => fits 1 rtag && (Request.cancelTrial id).wellFormed
  | .take rtag tag => fits 1 rtag && (Request.take tag).wellFormed
  | .giveBack rtag tag => fits 1 rtag && (Request.giveBack tag).wellFormed
  | .restartBranch rtag branch => fits 1 rtag && (Request.restartBranch branch).wellFormed
  | .setLoopSpeed rtag speed => fits 1 rtag && (Request.setLoopSpeed speed).wellFormed
  | .setService rtag tag service => fits 1 rtag && (Request.setService tag service).wellFormed
  | .answerAsk rtag tag answer => fits 1 rtag && (Request.answerAsk tag answer).wellFormed
  | .discharge _ rtag carrier chute => fits 1 rtag && (Request.discharge carrier chute).wellFormed
  | .cancelDischarge _ rtag carrier => fits 1 rtag && (Request.cancelDischarge carrier).wellFormed
  | .clearCarrier _ rtag carrier => fits 1 rtag && (Request.clearCarrier carrier).wellFormed
  | .readPoint _ rtag tag => fits 1 rtag && (Request.readPoint tag).wellFormed
  | .listPoints _ rtag q => fits 1 rtag && (Request.listPoints q).wellFormed
  | .readWindow _ rtag number => fits 1 rtag && (Request.readWindow number).wellFormed
  | .readCarrier _ rtag carrier => fits 1 rtag && (Request.readCarrier carrier).wellFormed
  | .readTracker _ rtag => fits 1 rtag
  | .readTrial _ rtag id => fits 1 rtag && (Request.readTrial id).wellFormed
  | .readBranch _ rtag branch => fits 1 rtag && (Request.readBranch branch).wellFormed
  | .nodeQuery _ rtag tag item => fits 1 rtag && (Request.nodeQuery tag item).wellFormed
  | .digest _ rtag => fits 1 rtag
  | .captureSet _ rtag c => fits 1 rtag && (Request.captureSet c).wellFormed
  | .captureStop _ rtag channel => fits 1 rtag && (Request.captureStop channel).wellFormed
  | .captureOff _ rtag channel => fits 1 rtag && (Request.captureOff channel).wellFormed
  | .captureRead _ rtag channel count => fits 1 rtag && (Request.captureRead channel count).wellFormed
  | .fetchNotices _ rtag max => fits 1 rtag && (Request.fetchNotices max).wellFormed
  | .encoderEvent _ _ => true
  | .homeEvent => true
  | .sampleTimerExpiry => true
  | .zoneFenced _ => true
  | .zoneUnfenced _ => true
  | .ringSignalLost _ => true
  | .ringSignalReturned _ => true
  | .announcePeriodEnd _ => true
  | .uplinkBadFrame _ _ => true
  | .announceFrame _ f => f.wellFormed
  | .eventFrame _ f => f.wellFormed
  | .replyFrame _ f => f.wellFormed
  | .downlinkFrameEnd _ => true
  | .replyDeadlineExpiry _ tag => fits 1 tag
  | .askTimerExpiry tag => fits 2 tag
  | .digestWalkComplete => true
  | .trialTimeExpiry id => fits 1 id
  | .pollTimerExpiry id => fits 1 id
  | .answerFrameSent _ => true

end Sys2Proof
end

