-- ==== Sys2Proof/Machine/State.lean ====
section
/-! DEFINITION. The state of the ZK716 as plain data, block by block (00 "Block overview"), and the state right
after power-on. The state is kept in layers that follow the blocks: `Loop` is what the tracker and the zone lines
say, which every block reads and only their own events write; `Work` is the core that the cascades of one event
write (register, carriers, fires, windows, trials, drives, field ring); the route windows, the capture channels,
the digest walk and the two ports stand beside them. -/

namespace Sys2Proof.Machine

/-! ## Position Tracker and fences -/

/-- The geometry record (R1). -/
structure Geometry where
  length     : Nat
  carriers   : Nat
  pitch      : Nat
  scale      : Nat
  homeTol    : Nat
  grace      : Nat
  slack      : Nat
  latency    : Nat
  vmax       : Nat
  jog        : Nat
  linkBranch : Branch
  linkNode   : Nat
  maxAge     : Nat
  deriving DecidableEq, Repr

/-- The states of the lock machine (1.4). -/
inductive Lock where
  | noGeometry
  | seeking
  | verifying
  | locked
  | coasting
  deriving DecidableEq, Repr

/-- The causes of a LOCK notice (R18). -/
inductive LockCause where
  | geometry
  | firstHome
  | acquired
  | homeMissed
  | homeRegained
  | rejectedHomes
  | missedHomes
  | encoderFault
  | reverse
  deriving DecidableEq, Repr

/-- The motion state (R9). -/
inductive Motion where
  | stopped
  | moving
  deriving DecidableEq, Repr

/-- The Position Tracker. `homeDist` is kept in VERIFYING, LOCKED and COASTING and is 0 elsewhere (R3, R17);
`samples` holds the eight stored advances, newest first, and `current` the sample in progress (R7). -/
structure Tracker where
  geometry   : Option Geometry
  encA       : Bool
  encB       : Bool
  frac       : Nat
  lock       : Lock
  pos        : Option Nat
  homeDist   : Int
  revolution : Nat
  coast      : Nat
  rejected   : Nat
  correction : Int
  samples    : List Int
  current    : Int
  v          : Nat
  reverse    : Bool
  motion     : Motion
  still      : Nat
  steady     : Bool
  run        : Nat
  setpoint   : Nat
  deriving DecidableEq, Repr

/-- What the loop inputs say: the tracker, the fence states (R73: zone n in bit n, 1 meaning STOP) and the
model's clock in ms, 4 for each sample expiry (log 6). -/
structure Loop where
  tracker : Tracker
  fences  : BitVec 8
  clock   : Nat
  deriving DecidableEq, Repr

/-! ## Point Register and Custody Control -/

inductive PointKind where
  | sensor
  | chute
  | induct
  | zoneDrive
  deriving DecidableEq, Repr

inductive Edge where
  | rising
  | falling
  deriving DecidableEq, Repr

inductive Side where
  | left
  | right
  deriving DecidableEq, Repr

inductive Service where
  | inService
  | outOfService
  deriving DecidableEq, Repr

inductive Proof where
  | unproven
  | inTrial
  | proven
  | failed
  deriving DecidableEq, Repr

inductive TrialKind where
  | sensor
  | chute
  | zoneDrive
  | belt
  deriving DecidableEq, Repr

inductive TrialResult where
  | passed
  | failed
  | cancelled
  deriving DecidableEq, Repr

inductive FailReason where
  | failLimit
  | timeLimit
  deriving DecidableEq, Repr

/-- A field address (R56). -/
structure Route where
  branch  : Branch
  node    : Nat
  channel : Nat
  deriving DecidableEq, Repr

/-- The proof record of a point (R44). -/
structure ProofRecord where
  kind       : TrialKind
  result     : TrialResult
  reason     : Option FailReason
  hits       : Nat
  fails      : Nat
  mean       : Int
  spread     : Nat
  revolution : Nat
  deriving DecidableEq, Repr

/-- The configuration of a point (R36). -/
structure PointConfig where
  loc   : Nat
  bias  : Int
  tol   : Nat
  zone  : Nat
  edge  : Option Edge
  entry : Option Nat
  throw : Option Nat
  side  : Option Side
  deriving DecidableEq, Repr

/-- A point record (R36): its custody is LINE or CONSOLE, named as a `Link`. -/
structure Point where
  tag     : Nat
  kind    : PointKind
  config  : PointConfig
  route   : Option Route
  custody : Link
  service : Service
  proof   : Proof
  record  : Option ProofRecord
  prior   : Option Proof
  deriving DecidableEq, Repr

/-- The state of a custody ask (R65): a timer, in ms, runs only in ASKED. -/
inductive AskState where
  | asked (remaining : Nat)
  | draining
  deriving DecidableEq, Repr

structure Ask where
  tag   : Nat
  state : AskState
  deriving DecidableEq, Repr

/-! ## Carrier Table and fire list -/

inductive CarrierFault where
  | doubleLoad
  | beltFault
  | sequence
  | noReply
  deriving DecidableEq, Repr

/-- The load state of a carrier with the fields present in it (R79). -/
inductive LoadState where
  | empty
  | loaded (owner : Link) (ref : BitVec 32) (dest : Option Nat)
  | fault (reason : CarrierFault)
  deriving DecidableEq, Repr

/-- The belt record (R79, R142). -/
structure BeltRecord where
  achieved : Option Nat
  hits     : Nat
  fails    : Nat
  mean     : Int
  spread   : Nat
  deriving DecidableEq, Repr

structure Carrier where
  load  : LoadState
  proof : Proof
  prior : Option Proof
  belt  : Option BeltRecord
  deriving DecidableEq, Repr

inductive Origin where
  | lineDischarge
  | consoleDischarge
  | chuteItem
  | beltJog
  deriving DecidableEq, Repr

inductive EntryState where
  | waiting
  | sent
  deriving DecidableEq, Repr

/-- A fire list entry (R84). `ref` is the load ref held when the entry joined (R94). `seq` is the order of
joining (R84) and `orphan` says that the entry's trial has left the plan (R120): the model's own (log 26). -/
structure Entry where
  seq        : Nat
  carrier    : Nat
  chute      : Option Nat
  origin     : Origin
  owner      : Link
  trial      : Option Nat
  nominal    : Nat
  firePoint  : Nat
  misses     : Nat
  state      : EntryState
  requested  : Bool
  lastPassed : Option Int
  ref        : BitVec 32
  orphan     : Bool
  deriving DecidableEq, Repr

/-- The outcomes of a DISCHARGE_DONE (R94). -/
inductive DischargeOutcome where
  | delivered
  | beltFault
  | noReply
  | recirculated
  | cancelled
  deriving DecidableEq, Repr

/-! ## Window table -/

inductive Purpose where
  | sensorPass
  | chuteEntry
  deriving DecidableEq, Repr

/-- The verdicts, each that an event gave with the deviation d of that event (R27, R105). -/
inductive Verdict where
  | hit (d : Int)
  | early (d : Int)
  | late (d : Int)
  | miss
  | cancelled
  deriving DecidableEq, Repr

/-- An observation window (R101). -/
structure Window where
  sensor  : Nat
  carrier : Nat
  xexp    : Nat
  te      : Nat
  close   : Nat
  purpose : Purpose
  trial   : Nat
  item    : Option Nat
  coasted : Bool
  order   : Nat
  deriving DecidableEq, Repr

/-! ## Trial plan -/

inductive TrialState where
  | queued
  | active
  | held
  deriving DecidableEq, Repr

/-- The set of hold reasons (R116). -/
structure HoldReasons where
  unlocked : Bool
  unsteady : Bool
  fenced   : Bool
  noSpace  : Bool
  deriving DecidableEq, Repr

/-- The statistics over a trial's hits (R34). -/
structure Stats where
  count : Nat
  sum   : Int
  least : Option Int
  most  : Option Int
  deriving DecidableEq, Repr

/-- The outcomes of a chute item (R126, R127), in the order of R117's table. -/
inductive ItemOutcome where
  | delivered
  | notSeen
  | misplaced
  | sequenceError
  | beltFault
  | unjudged
  | fireMissed
  | withdrawn
  deriving DecidableEq, Repr

/-- The eight outcome counts of a chute trial (R112). -/
structure OutcomeCounts where
  delivered     : Nat
  notSeen       : Nat
  misplaced     : Nat
  sequenceError : Nat
  beltFault     : Nat
  unjudged      : Nat
  fireMissed    : Nat
  withdrawn     : Nat
  deriving DecidableEq, Repr

inductive ItemStage where
  | assigned
  | fired
  deriving DecidableEq, Repr

/-- The reply a FIRED item holds (R127). -/
inductive ItemReply where
  | doneGone
  | doneKept
  | fault
  | timeout
  | ringRestart
  deriving DecidableEq, Repr

/-- A chute item in flight (R125) with the entry verdict and the reply it holds so far (R127). -/
structure Item where
  index   : Nat
  carrier : Nat
  ref     : BitVec 32
  stage   : ItemStage
  verdict : Option Verdict
  reply   : Option ItemReply
  deriving DecidableEq, Repr

/-- What READ_TRIAL reports of a zone-drive trial (R139). -/
structure DriveCounts where
  sent    : Nat
  inBand  : Nat
  outBand : Nat
  failed  : Nat
  last    : Option (Nat × Int)
  deriving DecidableEq, Repr

/-- What READ_TRIAL reports of a belt trial (R142). -/
structure BeltCounts where
  sent     : Nat
  inBand   : Nat
  outBand  : Nat
  faults   : Nat
  noReply  : Nat
  misses   : Nat
  achieved : Option Nat
  deriving DecidableEq, Repr

/-- A trial of the plan (R112); `remaining` is in ms. `startAt` is the carrier at which a declined sensor trial
begins again (R123); `begun` and `jogDeclined` say whether a belt trial has asked for its first jog and whether its
last add was declined (R140). -/
structure Trial where
  id          : Nat
  kind        : TrialKind
  target      : Nat
  order       : Nat
  state       : TrialState
  reasons     : HoldReasons
  need        : Nat
  limit       : Nat
  timeLimit   : Nat
  remaining   : Nat
  streak      : Nat
  fails       : Nat
  stats       : Stats
  band        : Option Nat
  jogSpeed    : Option Nat
  jogTime     : Option Nat
  armed       : Option Nat
  startAt     : Option Nat
  items       : List Item
  claimed     : Nat
  outcomes    : OutcomeCounts
  drive       : DriveCounts
  belt        : BeltCounts
  begun       : Bool
  jogDeclined : Bool
  deriving DecidableEq, Repr

/-! ## Drive Supervisor -/

inductive SpeedCause where
  | request
  | unfence
  deriving DecidableEq, Repr

/-- The state of a drive row with the value it concerns (R131). `again` marks a command on the field whose drive's
zone was unfenced meanwhile, so that it is commanded again when resolved (R136, log 12). -/
inductive RowState where
  | pending
  | sent (value : Nat) (again : Bool)
  | acked (value : Nat)
  | failed (value : Nat)
  | withheld
  deriving DecidableEq, Repr

structure Row where
  tag   : Nat
  state : RowState
  deriving DecidableEq, Repr

structure Distribution where
  value : Nat
  cause : SpeedCause
  rows  : List Row
  deriving DecidableEq, Repr

/-- A running poll timer (R138): the trial and the clock value at which it next expires (log 7). -/
structure Poll where
  trial : Nat
  due   : Nat
  deriving DecidableEq, Repr

/-! ## Field Ring Controller -/

inductive BranchState where
  | down
  | enumerating
  | running
  deriving DecidableEq, Repr

inductive BranchCause where
  | signalReturned
  | restart
  | enumerated
  | signalLost
  deriving DecidableEq, Repr

inductive NodeState where
  | absent
  | online
  | silent
  deriving DecidableEq, Repr

inductive NodeKind where
  | sensorNode
  | inductNode
  | driveNode
  | carrierLink
  deriving DecidableEq, Repr

inductive NodeCause where
  | announced
  | heard
  | timeouts
  | notAnnounced
  deriving DecidableEq, Repr

/-- A node of the node table (R147). Its outstanding count is by definition the number of the table's transactions
addressed to it, and is computed. -/
structure Node where
  state    : NodeState
  kind     : Option NodeKind
  channels : Nat
  expected : Bool
  timeouts : Nat
  deriving DecidableEq, Repr

inductive QueryItem where
  | speed
  | status
  deriving DecidableEq, Repr

/-- What a request of the FIRE, DRIVE or RELAY requester asks for, and for whom: a fire list entry by its joining
number, a drive row's SET_SPEED, the SPEED query of a zone-drive trial (with its submission order), a relay with its
route fixed at its NODE_QUERY (R156). -/
inductive Job where
  | fire (seq : Nat)
  | setSpeed (tag value : Nat)
  | speedQuery (trial order : Nat)
  | relay (link : Link) (rtag tag : Nat) (item : QueryItem) (route : Route)
  deriving DecidableEq, Repr

/-- A waiting request (R148). -/
structure Req where
  job      : Job
  node     : Nat
  channel  : Nat
  attempts : Nat
  yield    : Bool
  deriving DecidableEq, Repr

inductive FrameKind where
  | command
  | query
  deriving DecidableEq, Repr

/-- A transaction of the outstanding table (R150); `deadline` is the clock at the grant plus 10 ms. -/
structure Txn where
  tag      : Nat
  job      : Job
  node     : Nat
  channel  : Nat
  kind     : FrameKind
  attempts : Nat
  deadline : Nat
  deriving DecidableEq, Repr

structure Ack where
  node : Nat
  bit  : Bool
  deriving DecidableEq, Repr

/-- The action of a COMMAND frame (10.1). -/
inductive Action where
  | discharge (carrier : Nat) (side : Side)
  | jog (carrier speed time : Nat)
  | setSpeed (value : Nat)
  deriving DecidableEq, Repr

/-- A downlink frame (10.1). -/
inductive DownFrame where
  | enumerate
  | ack (node : Nat) (bit : Bool)
  | command (tag node channel : Nat) (action : Action)
  | query (tag node channel : Nat) (item : QueryItem)
  deriving DecidableEq, Repr

/-- The statistics of a branch, each 0..65,535 (R158). -/
structure BranchStats where
  bad      : Nat
  orphan   : Nat
  dup      : Nat
  deferred : Nat
  unmapped : Nat
  deriving DecidableEq, Repr

/-- One branch of the field ring. `kept` holds the node states kept aside by an enumeration (R145); `downlink` is the
frame being sent, or none while the downlink is free (R148); `wire` is the last frame put on the downlink pair;
`rx` and `hunting` are the uplink bytes of a frame not yet whole and the discarding up to the next 165 (10.1). -/
structure Ring where
  state       : BranchState
  signal      : Bool
  nodes       : List Node
  kept        : Option (List NodeState)
  table       : List Txn
  acks        : List Ack
  fireq       : List Req
  driveq      : List Req
  relayq      : List Req
  stats       : BranchStats
  downlink    : Option DownFrame
  wire        : List Byte
  rx          : List Byte
  hunting     : Bool
  announceEnd : Nat
  deriving DecidableEq, Repr

/-! ## Capture Memory -/

/-- A capture record (R159). -/
structure CaptureRecord where
  revolution : Nat
  xc         : Option Nat
  attributed : Option (Nat × Int)
  edge       : Edge
  age        : Nat
  stale      : Bool
  deriving DecidableEq, Repr

inductive CaptureMode where
  | accept
  | hold
  | halted
  deriving DecidableEq, Repr

inductive CaptureReason where
  | done
  | full
  | overrun
  | stopped
  deriving DecidableEq, Repr

inductive HalfState where
  | filling
  | handed
  | free
  deriving DecidableEq, Repr

structure Half where
  state   : HalfState
  records : List CaptureRecord
  deriving DecidableEq, Repr

/-- The buffer of a channel: single with its target, or double. `secondNewer` says that the second half was handed
after the first, and so is read after it while both are HANDED (R163). -/
inductive Buffer where
  | single (target : Nat) (records : List CaptureRecord)
  | double (first second : Half) (secondNewer : Bool)
  deriving DecidableEq, Repr

/-- A capture channel that is not OFF (R159). -/
structure Channel where
  mode   : CaptureMode
  reason : Option CaptureReason
  tag    : Nat
  owner  : Link
  first  : Nat
  count  : Nat
  buffer : Buffer
  deriving DecidableEq, Repr

/-! ## Route windows and digest -/

inductive BranchMode where
  | a
  | b
  | interleaved
  deriving DecidableEq, Repr

/-- A route window record (R53). -/
structure RouteWindow where
  enabled  : Bool
  base     : Nat
  mask     : Nat
  mode     : BranchMode
  weight   : Option Nat
  nodeBase : Nat
  observe  : Bool
  command  : Bool
  deriving DecidableEq, Repr

/-- A digest walk in flight (R48, R49). -/
structure Walk where
  a         : Nat
  b         : Nat
  count     : Nat
  disturbed : Bool
  line      : Bool
  console   : Bool
  deriving DecidableEq, Repr

/-! ## Notices and answers -/

inductive StartCause where
  | power
  | pin
  | port
  deriving DecidableEq, Repr

inductive KeepReason where
  | kept
  | timeout
  deriving DecidableEq, Repr

inductive UnplacedReason where
  | notLocked
  | offCarrier
  deriving DecidableEq, Repr

/-- How a relay ended (R156). -/
inductive RelayOutcome where
  | done
  | refused
  | fault
  | busy
  | timeout
  | ringRestart
  | branchDown
  | nodeSilent
  deriving DecidableEq, Repr

/-- The notices with their bodies (12.6). -/
inductive Notice where
  | started (cause : StartCause) (fences : BitVec 8)
  | trialDone (id : Nat) (kind : TrialKind) (target : Nat) (result : TrialResult) (reason : Option FailReason)
      (hits fails : Nat) (mean : Int) (spread revolution : Nat) (outcomes : Option OutcomeCounts)
  | custodyAsk (tag : Nat) (kind : PointKind) (remaining : Nat)
  | custodyDone (tag : Nat) (granted : Bool) (reason : Option KeepReason)
  | custodyReturned (tag : Nat) (kind : PointKind) (proof : Proof)
  | dischargeDone (carrier chute : Nat) (outcome : DischargeOutcome) (ref : BitVec 32) (misses revolution : Nat)
  | load (carrier : Nat) (ref : BitVec 32) (induct : Nat) (d : Int) (revolution : Nat)
  | loadUnplaced (induct : Nat) (ref : BitVec 32) (reason : UnplacedReason) (near : Option (Nat × Int))
  | carrierFault (carrier : Nat) (reason : CarrierFault) (previous : Option (Link × BitVec 32)) (ref : BitVec 32)
      (induct : Nat)
  | lock (state : Lock) (revolution : Nat) (cause : LockCause)
  | steady (gained : Bool) (v setpoint : Nat)
  | fence (zone : Nat) (stop : Bool) (fences : BitVec 8)
  | speedSet (value : Nat) (cause : SpeedCause) (acked failed : Nat)
  | captureReady (channel tag : Nat) (mode : CaptureMode) (reason : Option CaptureReason) (ready : Nat)
      (half : Option Nat)
  | digestDone (a b count : Nat) (disturbed : Bool)
  | nodeReply (rtag tag : Nat) (item : QueryItem) (route : Route) (outcome : RelayOutcome) (value : Nat)
  | nodeState (branch : Branch) (node : Nat) (state : NodeState) (cause : NodeCause)
  | branch (branch : Branch) (state : BranchState) (cause : BranchCause) (online : Nat) (linkOnline : Option Bool)
  deriving DecidableEq, Repr

/-- Who posts a notice. Notices of one poster keep their order; the part fixes none between posters (R170). The lock
machine and the steady flag are told apart (R18), and so are the ring's own notices and its relays. -/
inductive Block where
  | link
  | lock
  | steady
  | custody
  | carriers
  | fires
  | trials
  | drives
  | ring
  | relay
  | capture
  | digest
  deriving DecidableEq, Repr

/-- A notice posted within the event being handled. -/
structure Post where
  link   : Link
  block  : Block
  notice : Notice
  deriving DecidableEq, Repr

/-- The status codes (00 "Status codes"). -/
inductive Status where
  | ok
  | accepted
  | badFrame
  | unknown
  | notPermitted
  | invalid
  | notFound
  | full
  | busy
  | custody
  | notProven
  | unrouted
  | conflict
  | noGeometry
  deriving DecidableEq, Repr

/-- A field of an answer or notice body with its width (12.6): one, two or four bytes, signed ones in two's
complement. -/
inductive Field where
  | u8 (n : Nat)
  | u16 (n : Nat)
  | u32 (n : Nat)
  | s16 (z : Int)
  | s32 (z : Int)
  deriving DecidableEq, Repr

/-- An answer (R168): the echoed tag and kind code, the status and the body of the owning rule. -/
structure Answer where
  tag    : Nat
  kind   : Nat
  status : Status
  body   : List Field
  deriving DecidableEq, Repr

/-- A request in an intake with its request tag (R167). -/
structure Held where
  tag : Nat
  req : Request
  deriving DecidableEq, Repr

/-- A master link port. `answers` holds, in order of arrival of their frames, the answers formed and not yet sent and,
as none, the places of requests still in the intake (R168). `wire` is the last answer frame that left on the answer
pair. `rx` and `hunting` are the bytes of a frame not yet whole and the discarding up to the next 165 (R166). -/
structure Port where
  intake    : List Held
  answers   : List (Option Answer)
  notices   : List Notice
  overflow  : Bool
  breakHeld : Bool
  rx        : List Byte
  hunting   : Bool
  wire      : List Byte
  deriving DecidableEq, Repr

/-! ## The whole -/

/-- The core that the cascades of one event write. `outbox` holds the notices posted within the event being handled
and is empty between commands (log 5). -/
structure Work where
  points      : List Point
  asks        : List Ask
  carriers    : List Carrier
  fires       : List Entry
  fireCount   : Nat
  windows     : List Window
  armCount    : Nat
  plan        : List Trial
  nextId      : Nat
  submitCount : Nat
  dist        : Option Distribution
  polls       : List Poll
  ringA       : Ring
  ringB       : Ring
  outbox      : List Post
  deriving DecidableEq, Repr

structure State where
  loop     : Loop
  work     : Work
  routes   : List RouteWindow
  channels : List (Option Channel)
  digest   : Option Walk
  line     : Port
  console  : Port
  fresh    : Nat
  pending  : List Instr
  deriving DecidableEq, Repr

/-- The reasons a step could stop with a fault. The spec describes no event at which the part stops, so there is
none: nothing raises a fault. -/
inductive Fault where
  deriving DecidableEq, Repr

/-- The reasons a step could be refused. -/
inductive Refusal where
  /-- Raised by `exec` alone, for a command without a meaning. Safe: the model stops where the part goes on. Every
  command has its meaning, so nothing raises it now. -/
  | notModelled (mnemonic : String)
  deriving DecidableEq, Repr

/-- What a meaning answers. -/
abbrev Outcome := Host.Outcome State Fault Refusal

/-! ## The state after power-on -/

/-- The tracker at power-on and on the reset pin (R20), with the sampled encoder levels (R4). -/
def Tracker.initial (encA encB : Bool) : Tracker where
  geometry := none
  encA := encA
  encB := encB
  frac := 0
  lock := .noGeometry
  pos := none
  homeDist := 0
  revolution := 0
  coast := 0
  rejected := 0
  correction := 0
  samples := [0, 0, 0, 0, 0, 0, 0, 0]
  current := 0
  v := 0
  reverse := false
  motion := .stopped
  still := 250
  steady := false
  run := 0
  setpoint := 0

/-- A node before any announcement (R144). -/
def Node.initial : Node where
  state := .absent
  kind := none
  channels := 0
  expected := false
  timeouts := 0

/-- A branch at power-on with its ring signal lost (R144). -/
def Ring.initial : Ring where
  state := .down
  signal := false
  nodes := List.replicate 126 Node.initial
  kept := none
  table := []
  acks := []
  fireq := []
  driveq := []
  relayq := []
  stats := ⟨0, 0, 0, 0, 0⟩
  downlink := none
  wire := []
  rx := []
  hunting := false
  announceEnd := 0

/-- A route window at power-on (R53). -/
def RouteWindow.initial : RouteWindow where
  enabled := false
  base := 0
  mask := 0
  mode := .a
  weight := none
  nodeBase := 1
  observe := false
  command := false

/-- A port at power-on or on the reset pin (R173): its queue holds STARTED alone, and a break still held has ended, since
READY is high (log 1). -/
def Port.initial (cause : StartCause) (fences : BitVec 8) : Port where
  intake := []
  answers := []
  notices := [.started cause fences]
  overflow := false
  breakHeld := false
  rx := []
  hunting := false
  wire := []

/-- The core at power-on: everything empty (R37, R65, R79, R84, R101, R112, R131, R144). -/
def Work.initial : Work where
  points := []
  asks := []
  carriers := []
  fires := []
  fireCount := 0
  windows := []
  armCount := 0
  plan := []
  nextId := 1
  submitCount := 0
  dist := none
  polls := []
  ringA := Ring.initial
  ringB := Ring.initial
  outbox := []

/-- The part after power-on or the reset pin with the given encoder levels and fence states, both ring signals
still unsampled and lost, and the command queue `pending`. -/
def State.initial (cause : StartCause) (encA encB : Bool) (fences : BitVec 8) (pending : List Instr) : State where
  loop := ⟨Tracker.initial encA encB, fences, 0⟩
  work := Work.initial
  routes := List.replicate 8 RouteWindow.initial
  channels := List.replicate 8 none
  digest := none
  line := Port.initial cause fences
  console := Port.initial cause fences
  fresh := 0
  pending := pending

/-- The machine right after power-on. DESIGN CHOICE (log 1): the inputs the part samples at power-on are taken as
encoder low and low, every zone line RUN, and both ring signals lost. -/
def State.reset : State := State.initial .power false false 0 []

end Sys2Proof.Machine
end

