-- ==== Sys2Proof/Machine/Arith.lean ====
section
/-! DEFINITION. Position arithmetic (Chapter 2): integer computations over the loop, without state. -/

namespace Sys2Proof.Machine

/-- x mod L, in 0..L-1, for negative x as for positive (R21). -/
def modL (L : Nat) (x : Int) : Nat := (x % (L : Int)).toNat

/-- The forward distance from `a` to `b` (R21). -/
def forward (L a b : Nat) : Nat := modL L ((b : Int) - (a : Int))

/-- A forward move of `s` mm from `x0` reaches `b` (R21). -/
def reaches (L x0 s b : Nat) : Bool := decide (1 ≤ forward L x0 b ∧ forward L x0 b ≤ s)

/-- The signed loop difference of `a` relative to `b` (R22). -/
def signedDiff (L a b : Nat) : Int :=
  let r := forward L b a
  if r > L / 2 then (r : Int) - L else r

/-- The expected position of carrier `k` at a point with location `loc` and bias `bias` (R23). -/
def expectedPos (g : Geometry) (loc : Nat) (bias : Int) (k : Nat) : Nat :=
  modL g.length ((loc : Int) + (k : Int) * g.pitch + bias)

/-- The effective tolerance (R24). -/
def effTol (pitch tol : Nat) : Nat := min tol ((pitch - 1) / 2)

/-- The age held at 4,095 (R25). -/
def heldAge (age : Nat) : Nat := min age 4095

/-- An event is stale (R25, R97): with no geometry none is. -/
def isStale (g : Option Geometry) (age : Nat) : Bool :=
  match g with
  | none => false
  | some g => decide (heldAge age > g.maxAge)

/-- The correction c = round-half-up(v × age / 20,000) (R26). -/
def correctionOf (v age : Nat) : Nat := (v * age + 10000) / 20000

/-- The corrected position (R26). -/
def correctedPos (L x v age : Nat) : Nat := modL L ((x : Int) - correctionOf v age)

/-- The verdict of a deviation against a window's Te, with that deviation (R27). -/
def verdictOf (te : Nat) (d : Int) : Verdict :=
  if d < -(te : Int) then .early d else if d > (te : Int) then .late d else .hit d

/-- The close of a window (R28). -/
def closeOf (g : Geometry) (xexp te : Nat) : Nat := modL g.length ((xexp : Int) + te + g.grace)

/-- The attribution of a corrected position at a point: the carrier and the deviation (R29). -/
def attribution (g : Geometry) (loc : Nat) (bias : Int) (xc : Nat) : Nat × Int :=
  let r := modL g.length ((xc : Int) - loc - bias)
  let kraw := (r + g.pitch / 2) / g.pitch
  (kraw % g.carriers, (r : Int) - kraw * g.pitch)

/-- The lead of a fire, with `t` the throw plus the fire latency in ms (R31). -/
def leadOf (v t : Nat) : Nat := (v * t + 500) / 1000

/-- The nominal position of a fire for carrier `k`, at a chute location or at the jog station (R32). -/
def nominalPos (g : Geometry) (loc k : Nat) : Nat := modL g.length ((loc : Int) + (k : Int) * g.pitch)

/-- The fire point (R32); the throw is 0 for a belt jog. -/
def firePointOf (g : Geometry) (nominal throw v : Nat) : Nat :=
  modL g.length ((nominal : Int) - leadOf v (throw + g.latency))

/-- The pass revolution at home distance `a` (R88). -/
def passRevolution (L revolution : Nat) (a : Int) : Int :=
  (revolution : Int) + (if a ≥ (L : Int) then 1 else if a < 0 then -1 else 0)

/-- The measured speed from the eight stored advances (R7). -/
def speedOf (advance : Int) : Nat := if advance < 0 then 0 else min (advance.toNat * 125 / 4) 65535

/-- The statistics with one more hit (R34). -/
def Stats.add (s : Stats) (d : Int) : Stats where
  count := s.count + 1
  sum := s.sum + d
  least := some (match s.least with | none => d | some m => if d < m then d else m)
  most := some (match s.most with | none => d | some m => if d > m then d else m)

def Stats.empty : Stats := ⟨0, 0, none, none⟩

/-- The mean, truncated toward zero, 0 without hits (R35). -/
def Stats.mean (s : Stats) : Int := if s.count = 0 then 0 else Int.tdiv s.sum s.count

/-- The spread, 0 without hits (R35). -/
def Stats.spread (s : Stats) : Nat :=
  match s.least, s.most with
  | some a, some b => (b - a).toNat
  | _, _ => 0

/-- Insertion of `x` behind the elements that `le` puts before it or level with it. -/
def insertBy {α : Type} (le : α → α → Bool) (x : α) : List α → List α
  | [] => [x]
  | y :: ys => if le y x then y :: insertBy le x ys else x :: y :: ys

/-- A stable sort: elements that are level keep their order. -/
def sortBy {α : Type} (le : α → α → Bool) : List α → List α → List α
  | acc, [] => acc
  | acc, x :: xs => sortBy le (insertBy le x acc) xs

end Sys2Proof.Machine
end

