-- ==== Sys2Proof/Machine/Operands.lean ====
section
/-! DEFINITION. Operand forms: the codes of the named values (10.1, 12.6) and the range checks that the owning rules
make of a request's fields. 12.6: a value without a code given is coded 1, 2, 3 and onward in the order in which the
rule that owns the field lists its values (log 21). -/

namespace Sys2Proof

/-! ## Codes of operand types -/

def Branch.code : Branch → Nat
  | .a => 1
  | .b => 2

def Branch.ofCode : Nat → Option Branch
  | 1 => some .a
  | 2 => some .b
  | _ => none

/-- A custody or an owner: LINE 1, CONSOLE 2 (12.6, LIST_POINTS). -/
def Link.code : Link → Nat
  | .line => 1
  | .console => 2

def Link.ofCode : Nat → Option Link
  | 1 => some .line
  | 2 => some .console
  | _ => none

/-- The kind code of a request (R169). -/
def Request.code : Request → Nat
  | .loadGeometry _ => 1
  | .writePoint _ => 2
  | .deletePoint _ => 3
  | .clearRegister => 4
  | .writeWindow _ => 5
  | .submitTrial _ => 6
  | .cancelTrial _ => 7
  | .take _ => 8
  | .giveBack _ => 9
  | .restartBranch _ => 10
  | .setLoopSpeed _ => 11
  | .setService _ _ => 12
  | .answerAsk _ _ => 13
  | .discharge _ _ => 14
  | .cancelDischarge _ => 15
  | .clearCarrier _ => 16
  | .readPoint _ => 17
  | .listPoints _ => 18
  | .readWindow _ => 19
  | .readCarrier _ => 20
  | .readTracker => 21
  | .readTrial _ => 22
  | .readBranch _ => 23
  | .nodeQuery _ _ => 24
  | .digest => 25
  | .captureSet _ => 26
  | .captureStop _ => 27
  | .captureOff _ => 28
  | .captureRead _ _ => 29
  | .fetchNotices _ => 30

end Sys2Proof

namespace Sys2Proof.Machine

/-! ## Codes -/

def PointKind.code : PointKind → Nat
  | .sensor => 1
  | .chute => 2
  | .induct => 3
  | .zoneDrive => 4

def PointKind.ofCode : Nat → Option PointKind
  | 1 => some .sensor
  | 2 => some .chute
  | 3 => some .induct
  | 4 => some .zoneDrive
  | _ => none

def Edge.code : Edge → Nat
  | .rising => 1
  | .falling => 2

def Edge.ofCode : Nat → Option Edge
  | 1 => some .rising
  | 2 => some .falling
  | _ => none

def Side.code : Side → Nat
  | .left => 1
  | .right => 2

def Side.ofCode : Nat → Option Side
  | 1 => some .left
  | 2 => some .right
  | _ => none

/-- IN 1, OUT 2 (12.6, SET_SERVICE). -/
def Service.code : Service → Nat
  | .inService => 1
  | .outOfService => 2

def Service.ofCode : Nat → Option Service
  | 1 => some .inService
  | 2 => some .outOfService
  | _ => none

def Proof.code : Proof → Nat
  | .unproven => 1
  | .inTrial => 2
  | .proven => 3
  | .failed => 4

def Proof.ofCode : Nat → Option Proof
  | 1 => some .unproven
  | 2 => some .inTrial
  | 3 => some .proven
  | 4 => some .failed
  | _ => none

def TrialKind.code : TrialKind → Nat
  | .sensor => 1
  | .chute => 2
  | .zoneDrive => 3
  | .belt => 4

def TrialKind.ofCode : Nat → Option TrialKind
  | 1 => some .sensor
  | 2 => some .chute
  | 3 => some .zoneDrive
  | 4 => some .belt
  | _ => none

/-- PASSED and FAILED as R119 lists them, then the CANCELLED of R121 (log 21). -/
def TrialResult.code : TrialResult → Nat
  | .passed => 1
  | .failed => 2
  | .cancelled => 3

def FailReason.code : FailReason → Nat
  | .failLimit => 1
  | .timeLimit => 2

def BranchMode.code : BranchMode → Nat
  | .a => 1
  | .b => 2
  | .interleaved => 3

def BranchMode.ofCode : Nat → Option BranchMode
  | 1 => some .a
  | 2 => some .b
  | 3 => some .interleaved
  | _ => none

def NodeKind.code : NodeKind → Nat
  | .sensorNode => 1
  | .inductNode => 2
  | .driveNode => 3
  | .carrierLink => 4

def NodeKind.ofCode : Nat → Option NodeKind
  | 1 => some .sensorNode
  | 2 => some .inductNode
  | 3 => some .driveNode
  | 4 => some .carrierLink
  | _ => none

def QueryItem.code : QueryItem → Nat
  | .speed => 1
  | .status => 2

def QueryItem.ofCode : Nat → Option QueryItem
  | 1 => some .speed
  | 2 => some .status
  | _ => none

/-- Status codes (12.6). -/
def Status.code : Status → Nat
  | .ok => 0
  | .accepted => 1
  | .badFrame => 2
  | .unknown => 3
  | .notPermitted => 4
  | .invalid => 5
  | .notFound => 6
  | .full => 7
  | .busy => 8
  | .custody => 9
  | .notProven => 10
  | .unrouted => 11
  | .conflict => 12
  | .noGeometry => 13

/-- The lock states in the order of the table of 1.4, since no rule lists all five (log 21). -/
def Lock.code : Lock → Nat
  | .noGeometry => 1
  | .seeking => 2
  | .verifying => 3
  | .locked => 4
  | .coasting => 5

def LockCause.code : LockCause → Nat
  | .geometry => 1
  | .firstHome => 2
  | .acquired => 3
  | .homeMissed => 4
  | .homeRegained => 5
  | .rejectedHomes => 6
  | .missedHomes => 7
  | .encoderFault => 8
  | .reverse => 9

def Motion.code : Motion → Nat
  | .stopped => 1
  | .moving => 2

def CarrierFault.code : CarrierFault → Nat
  | .doubleLoad => 1
  | .beltFault => 2
  | .sequence => 3
  | .noReply => 4

/-- EMPTY 1, LOADED 2, FAULT 3 (R79). -/
def LoadState.code : LoadState → Nat
  | .empty => 1
  | .loaded _ _ _ => 2
  | .fault _ => 3

def Origin.code : Origin → Nat
  | .lineDischarge => 1
  | .consoleDischarge => 2
  | .chuteItem => 3
  | .beltJog => 4

def EntryState.code : EntryState → Nat
  | .waiting => 1
  | .sent => 2

def DischargeOutcome.code : DischargeOutcome → Nat
  | .delivered => 1
  | .beltFault => 2
  | .noReply => 3
  | .recirculated => 4
  | .cancelled => 5

def TrialState.code : TrialState → Nat
  | .queued => 1
  | .active => 2
  | .held => 3

def ItemStage.code : ItemStage → Nat
  | .assigned => 1
  | .fired => 2

def Verdict.code : Verdict → Nat
  | .hit _ => 1
  | .early _ => 2
  | .late _ => 3
  | .miss => 4
  | .cancelled => 5

def ItemReply.code : ItemReply → Nat
  | .doneGone => 1
  | .doneKept => 2
  | .fault => 3
  | .timeout => 4
  | .ringRestart => 5

def SpeedCause.code : SpeedCause → Nat
  | .request => 1
  | .unfence => 2

def BranchState.code : BranchState → Nat
  | .down => 1
  | .enumerating => 2
  | .running => 3

def BranchCause.code : BranchCause → Nat
  | .signalReturned => 1
  | .restart => 2
  | .enumerated => 3
  | .signalLost => 4

def NodeState.code : NodeState → Nat
  | .absent => 1
  | .online => 2
  | .silent => 3

def NodeCause.code : NodeCause → Nat
  | .announced => 1
  | .heard => 2
  | .timeouts => 3
  | .notAnnounced => 4

/-- OFF 1, ACCEPT 2, HOLD 3, HALTED 4 (R159). -/
def CaptureMode.code : CaptureMode → Nat
  | .accept => 2
  | .hold => 3
  | .halted => 4

def CaptureReason.code : CaptureReason → Nat
  | .done => 1
  | .full => 2
  | .overrun => 3
  | .stopped => 4

def HalfState.code : HalfState → Nat
  | .filling => 1
  | .handed => 2
  | .free => 3

def StartCause.code : StartCause → Nat
  | .power => 1
  | .pin => 2
  | .port => 3

def KeepReason.code : KeepReason → Nat
  | .kept => 1
  | .timeout => 2

def UnplacedReason.code : UnplacedReason → Nat
  | .notLocked => 1
  | .offCarrier => 2

def RelayOutcome.code : RelayOutcome → Nat
  | .done => 1
  | .refused => 2
  | .fault => 3
  | .busy => 4
  | .timeout => 5
  | .ringRestart => 6
  | .branchDown => 7
  | .nodeSilent => 8

/-- The fence state of one zone: STOP 1, RUN 2, in the order of R73 (log 21). -/
def fenceCode (stop : Bool) : Nat := if stop then 1 else 2

/-- The links that may send a request kind (R169): 1 to 10 the console, 11 to 13 the line, 14 to 30 both. -/
def permitted (l : Link) (code : Nat) : Bool :=
  match l with
  | .line => decide (11 ≤ code ∧ code ≤ 30)
  | .console => decide ((1 ≤ code ∧ code ≤ 10) ∨ (14 ≤ code ∧ code ≤ 30))

/-! ## Range checks -/

/-- `lo ≤ n ≤ hi`. -/
abbrev within (lo hi n : Nat) : Bool := decide (lo ≤ n ∧ n ≤ hi)

/-- A number is a power of two, 2^0 to 2^16. -/
def isPowerOfTwo (n : Nat) : Bool := (List.range 17).any fun e => decide (2 ^ e = n)

/-- An optional operand that decodes: absent stays absent, a bad code gives none. -/
def decodeOpt {α : Type} (dec : Nat → Option α) : Option Nat → Option (Option α)
  | none => some none
  | some n => (dec n).map some

/-- The width 2^z of a mask 65,536 − 2^z (R53). -/
def maskWidth (mask : Nat) : Nat := 65536 - mask

/-- An optional parameter of a trial is present and in range, or absent, as the kind needs. -/
def paramOk (needed : Bool) (lo hi : Nat) : Option Nat → Bool
  | none => !needed
  | some n => needed && within lo hi n

/-- The filters of a LIST_POINTS, decoded (R46). -/
structure ListFilter where
  kind    : Option PointKind
  custody : Option Link
  proof   : Option Proof
  deriving DecidableEq, Repr

end Sys2Proof.Machine

namespace Sys2Proof

open Sys2Proof.Machine

/-- The range checks of R1, with the jog station checked against the new L and N × P equal to L. -/
def GeometryFields.check (f : GeometryFields) : Option Geometry :=
  match Branch.ofCode f.linkBranch with
  | none => none
  | some br =>
    if within 10000 600000 f.length && within 32 1024 f.carriers && within 300 2000 f.pitch &&
       within 1 1048575 f.scale && within 1 200 f.homeTol && within 0 1000 f.grace && within 0 200 f.slack &&
       within 0 20 f.latency && within 500 4000 f.vmax && decide (f.jog < f.length) && within 1 126 f.linkNode &&
       within 1 4095 f.maxAge && decide (f.carriers * f.pitch = f.length) then
      some { length := f.length, carriers := f.carriers, pitch := f.pitch, scale := f.scale, homeTol := f.homeTol,
             grace := f.grace, slack := f.slack, latency := f.latency, vmax := f.vmax, jog := f.jog,
             linkBranch := br, linkNode := f.linkNode, maxAge := f.maxAge }
    else none

/-- The presence of the optional fields for a kind (R36, R39). -/
def PointFields.presence (f : PointFields) : PointKind → Bool
  | .sensor => f.edge.isSome && f.entry.isNone && f.throw.isNone && f.side.isNone
  | .induct => f.edge.isSome && f.entry.isNone && f.throw.isNone && f.side.isNone
  | .chute => f.edge.isNone && f.entry.isSome && f.throw.isSome && f.side.isSome
  | .zoneDrive => f.edge.isNone && f.entry.isNone && f.throw.isNone && f.side.isNone

/-- The checks of R39 on the configuration a WRITE_POINT carries, but for the entry tag's record: the location lies
below `limit`, which is L, or 600,000 without a geometry. An edge code other than 1 or 2 is out of range (log 23). -/
def PointFields.check (f : PointFields) (limit : Nat) : Option (PointKind × PointConfig) :=
  match PointKind.ofCode f.kind, decodeOpt Edge.ofCode f.edge, decodeOpt Side.ofCode f.side with
  | some k, some e, some s =>
    if f.tag ≠ 0 && decide (-2000 ≤ f.bias ∧ f.bias ≤ 2000) && within 5 500 f.tol && within 0 7 f.zone &&
       (match f.throw with | none => true | some t => within 20 400 t) && decide (f.loc < limit) &&
       f.presence k then
      some (k, { loc := f.loc, bias := f.bias, tol := f.tol, zone := f.zone, edge := e, entry := f.entry,
                 throw := f.throw, side := s })
    else none
  | _, _, _ => none

/-- The checks of R54. -/
def WindowFields.check (f : WindowFields) : Option RouteWindow :=
  match BranchMode.ofCode f.mode with
  | none => none
  | some m =>
    let width := maskWidth f.mask
    let weightOk := match m, f.weight with
      | .interleaved, some w => isPowerOfTwo w && decide (w < width)
      | .interleaved, none => false
      | _, some _ => false
      | _, none => true
    if within 0 7 f.number && within 0 1 f.enabled && decide (f.mask ≤ 65535) && isPowerOfTwo width &&
       decide (f.base ≤ 65535) && decide (f.base % width = 0) && weightOk && within 1 126 f.nodeBase && within 0 3 f.perms then
      some { enabled := decide (f.enabled = 1), base := f.base, mask := f.mask, mode := m, weight := f.weight,
             nodeBase := f.nodeBase, observe := decide (f.perms % 2 = 1), command := decide (f.perms / 2 = 1) }
    else none

/-- Step 2 of R113, but for the carrier of a BELT trial. -/
def TrialFields.check (f : TrialFields) : Option TrialKind :=
  match TrialKind.ofCode f.kind with
  | none => none
  | some k =>
    let banded := match k with | .zoneDrive => true | .belt => true | _ => false
    let jogged := match k with | .belt => true | _ => false
    if within 1 64 f.need && within 1 16 f.limit && within 10 3600 f.time && paramOk banded 5 500 f.band &&
       paramOk jogged 100 2500 f.jogSpeed && paramOk jogged 20 500 f.jogTime then some k
    else none

/-- The checks of R46. -/
def ListFields.check (f : ListFields) : Option ListFilter :=
  match decodeOpt PointKind.ofCode f.kind, decodeOpt Link.ofCode f.custody, decodeOpt Proof.ofCode f.proof with
  | some k, some c, some p => if f.start ≠ 0 && within 1 16 f.count then some ⟨k, c, p⟩ else none
  | _, _, _ => none

/-- Step 1 of R160. -/
def CaptureFields.check (f : CaptureFields) : Bool :=
  within 0 7 f.channel && within 0 63 f.first && within 1 64 f.count && decide (f.first + f.count ≤ 64) &&
  within 0 1 f.double && !(decide (f.double = 1) && decide (f.count % 2 = 1)) &&
  !(decide (f.double = 1) && f.target.isSome)

end Sys2Proof
end

