-- ==== Sys2Proof/Machine/Layout.lean ====
section
/-! DEFINITION. Layouts of the frames: master link frames (12.6), field ring frames (10.1), the CRC-16 of both, the
reading of request and uplink frames from bytes and the writing of answers, notices and downlink frames. -/

namespace Sys2Proof.Machine

/-! ## Bytes and the CRC-16 -/

/-- The `w` bytes of a number, most significant first (12.6). -/
def bigEndian : Nat → Nat → List Byte
  | 0, _ => []
  | w + 1, n => bigEndian w (n / 256) ++ [BitVec.ofNat 8 n]

/-- The number that bytes spell, most significant first. -/
def numberOf (bs : List Byte) : Nat := bs.foldl (fun n b => n * 256 + b.toNat) 0

/-- One bit into the CRC register: polynomial x^16 + x^12 + x^5 + 1 (12.6). -/
def crcBit (c : BitVec 16) (b : Bool) : BitVec 16 :=
  if (c.msb != b) then (c <<< 1) ^^^ 0x1021#16 else c <<< 1

/-- The bits of a byte enter most significant first (12.6). -/
def crcByte (c : BitVec 16) (x : Byte) : BitVec 16 :=
  [7, 6, 5, 4, 3, 2, 1, 0].foldl (fun c i => crcBit c (x.getLsbD i)) c

/-- The CRC-16 over bytes, initial value 65,535, not inverted (12.6). -/
def crc16 (bs : List Byte) : Nat := (bs.foldl crcByte 0xFFFF#16).toNat

/-- The start delimiter of every frame (10.1, 12.6). -/
def delimiter : Byte := 165#8

/-- The bytes of a field (12.6); signed ones in two's complement. -/
def Field.bytes : Field → List Byte
  | .u8 n => bigEndian 1 n
  | .u16 n => bigEndian 2 n
  | .u32 n => bigEndian 4 n
  | .s16 z => bigEndian 2 (z % 65536).toNat
  | .s32 z => bigEndian 4 (z % 4294967296).toNat

def fieldsBytes (fs : List Field) : List Byte := fs.flatMap Field.bytes

/-- An optional field: a presence byte, then the value (12.6). -/
def optField {α : Type} (f : α → List Field) : Option α → List Field
  | none => [.u8 0]
  | some a => .u8 1 :: f a

/-- A flag takes one byte, 0 where it is clear and 1 where it is set (log 21). -/
def flagField (b : Bool) : Field := .u8 (if b then 1 else 0)

/-! ## Master link frames -/

/-- An answer frame (12.6). The length counts what stands between it and the CRC, and the
CRC covers length to body (log 20). -/
def Answer.bytes (a : Answer) : List Byte :=
  let inner := bigEndian 1 a.tag ++ bigEndian 1 a.kind ++ bigEndian 1 a.status.code ++ fieldsBytes a.body
  let counted := bigEndian 2 inner.length ++ inner
  delimiter :: (counted ++ bigEndian 2 (crc16 counted))

def Route.fields (r : Route) : List Field := [.u8 (Branch.code r.branch), .u8 r.node, .u8 r.channel]

/-- The eight outcome counts (R112), in the order in which R117 names the outcomes (log 20). -/
def OutcomeCounts.fields (o : OutcomeCounts) : List Field :=
  [.u16 o.delivered, .u16 o.notSeen, .u16 o.misplaced, .u16 o.sequenceError, .u16 o.beltFault, .u16 o.unjudged,
   .u16 o.fireMissed, .u16 o.withdrawn]

def refField (r : BitVec 32) : Field := .u32 r.toNat

def fenceByte (f : BitVec 8) : Field := .u8 f.toNat

/-- The notice codes (12.6). -/
def Notice.code : Notice → Nat
  | .started .. => 1
  | .trialDone .. => 2
  | .custodyAsk .. => 3
  | .custodyDone .. => 4
  | .custodyReturned .. => 5
  | .dischargeDone .. => 6
  | .load .. => 7
  | .loadUnplaced .. => 8
  | .carrierFault .. => 9
  | .lock .. => 10
  | .steady .. => 11
  | .fence .. => 12
  | .speedSet .. => 13
  | .captureReady .. => 14
  | .digestDone .. => 15
  | .nodeReply .. => 16
  | .nodeState .. => 17
  | .branch .. => 18

/-- The notice bodies (12.6). What 12.6 lists as one optional item has one presence byte (log 20). -/
def Notice.fields : Notice → List Field
  | .started cause fences => [.u8 cause.code, fenceByte fences]
  | .trialDone id kind target result reason hits fails mean spread revolution outcomes =>
    [.u8 id, .u8 kind.code, .u16 target, .u8 result.code] ++ optField (fun r => [.u8 r.code]) reason ++
    [.u16 hits, .u16 fails, .s16 mean, .u16 spread, .u32 revolution] ++
    (match outcomes with | none => [] | some o => o.fields)
  | .custodyAsk tag kind remaining => [.u16 tag, .u8 kind.code, .u16 remaining]
  | .custodyDone tag granted reason =>
    [.u16 tag, .u8 (if granted then 1 else 2)] ++ optField (fun r => [.u8 r.code]) reason
  | .custodyReturned tag kind proof => [.u16 tag, .u8 kind.code, .u8 proof.code]
  | .dischargeDone carrier chute outcome ref misses revolution =>
    [.u16 carrier, .u16 chute, .u8 outcome.code, refField ref, .u16 misses, .u32 revolution]
  | .load carrier ref induct d revolution => [.u16 carrier, refField ref, .u16 induct, .s16 d, .u32 revolution]
  | .loadUnplaced induct ref reason near =>
    [.u16 induct, refField ref, .u8 reason.code] ++ optField (fun n => [.u16 n.1, .s16 n.2]) near
  | .carrierFault carrier reason previous ref induct =>
    [.u16 carrier, .u8 reason.code] ++ optField (fun p => [.u8 (Link.code p.1), refField p.2]) previous ++
    [refField ref, .u16 induct]
  | .lock state revolution cause => [.u8 state.code, .u32 revolution, .u8 cause.code]
  | .steady gained v setpoint => [.u8 (if gained then 1 else 2), .u16 v, .u16 setpoint]
  | .fence zone stop fences => [.u8 zone, .u8 (fenceCode stop), fenceByte fences]
  | .speedSet value cause acked failed => [.u16 value, .u8 cause.code, .u16 acked, .u16 failed]
  | .captureReady channel tag mode reason ready half =>
    [.u8 channel, .u16 tag, .u8 mode.code] ++ optField (fun r => [.u8 r.code]) reason ++ [.u16 ready] ++
    optField (fun h => [.u8 h]) half
  | .digestDone a b count disturbed => [.u32 a, .u32 b, .u16 count, flagField disturbed]
  | .nodeReply rtag tag item route outcome value =>
    [.u8 rtag, .u16 tag, .u8 item.code] ++ route.fields ++ [.u8 outcome.code, .u16 value]
  | .nodeState br node state cause => [.u8 (Branch.code br), .u8 node, .u8 state.code, .u8 cause.code]
  | .branch br state cause online linkOnline =>
    [.u8 (Branch.code br), .u8 state.code, .u8 cause.code, .u16 online] ++ optField (fun b => [flagField b]) linkOnline

/-- A notice in a FETCH_NOTICES answer: kind, body length, body (12.6). -/
def Notice.wire (n : Notice) : List Field :=
  [.u8 n.code, .u8 (fieldsBytes n.fields).length] ++ n.fields

/-! ### Reading a request body -/

/-- A number of `w` bytes at the head of the body. -/
def readNumber (w : Nat) (b : List Byte) : Option (Nat × List Byte) :=
  if b.length < w then none else some (numberOf (b.take w), b.drop w)

/-- A signed number of two bytes. -/
def readSigned (b : List Byte) : Option (Int × List Byte) :=
  match readNumber 2 b with
  | none => none
  | some (n, r) => some (if n < 32768 then (n : Int) else (n : Int) - 65536, r)

/-- An optional number of `w` bytes; a presence byte other than 0 or 1 is refused (12.6). -/
def readOptional (w : Nat) (b : List Byte) : Option (Option Nat × List Byte) :=
  match readNumber 1 b with
  | some (0, r) => some (none, r)
  | some (1, r) => (readNumber w r).map fun p => (some p.1, p.2)
  | _ => none

/-- A body is of a length its kind allows when nothing is left of it (12.6). -/
def wholeBody {α : Type} (a : α) (rest : List Byte) : Option α := if rest.isEmpty then some a else none

/-- A body of one number. -/
def oneNumber (w : Nat) (f : Nat → Request) (b : List Byte) : Option Request :=
  match readNumber w b with
  | some (n, r) => wholeBody (f n) r
  | none => none

/-- A body of two numbers. -/
def twoNumbers (w w' : Nat) (f : Nat → Nat → Request) (b : List Byte) : Option Request := do
  let (n, b) ← readNumber w b
  let (m, b) ← readNumber w' b
  wholeBody (f n m) b

def readGeometry (b : List Byte) : Option Request := do
  let (length, b) ← readNumber 4 b
  let (carriers, b) ← readNumber 2 b
  let (pitch, b) ← readNumber 2 b
  let (scale, b) ← readNumber 4 b
  let (homeTol, b) ← readNumber 2 b
  let (grace, b) ← readNumber 2 b
  let (slack, b) ← readNumber 2 b
  let (latency, b) ← readNumber 1 b
  let (vmax, b) ← readNumber 2 b
  let (jog, b) ← readNumber 4 b
  let (linkBranch, b) ← readNumber 1 b
  let (linkNode, b) ← readNumber 1 b
  let (maxAge, b) ← readNumber 2 b
  wholeBody (.loadGeometry ⟨length, carriers, pitch, scale, homeTol, grace, slack, latency, vmax, jog, linkBranch,
    linkNode, maxAge⟩) b

def readPointBody (b : List Byte) : Option Request := do
  let (tag, b) ← readNumber 2 b
  let (kind, b) ← readNumber 1 b
  let (loc, b) ← readNumber 4 b
  let (bias, b) ← readSigned b
  let (tol, b) ← readNumber 2 b
  let (zone, b) ← readNumber 1 b
  let (edge, b) ← readOptional 1 b
  let (entry, b) ← readOptional 2 b
  let (throw, b) ← readOptional 2 b
  let (side, b) ← readOptional 1 b
  wholeBody (.writePoint ⟨tag, kind, loc, bias, tol, zone, edge, entry, throw, side⟩) b

def readWindowBody (b : List Byte) : Option Request := do
  let (number, b) ← readNumber 1 b
  let (enabled, b) ← readNumber 1 b
  let (base, b) ← readNumber 2 b
  let (mask, b) ← readNumber 2 b
  let (mode, b) ← readNumber 1 b
  let (weight, b) ← readOptional 2 b
  let (nodeBase, b) ← readNumber 1 b
  let (perms, b) ← readNumber 1 b
  wholeBody (.writeWindow ⟨number, enabled, base, mask, mode, weight, nodeBase, perms⟩) b

def readTrialBody (b : List Byte) : Option Request := do
  let (kind, b) ← readNumber 1 b
  let (target, b) ← readNumber 2 b
  let (need, b) ← readNumber 1 b
  let (limit, b) ← readNumber 1 b
  let (time, b) ← readNumber 2 b
  let (band, b) ← readOptional 2 b
  let (jogSpeed, b) ← readOptional 2 b
  let (jogTime, b) ← readOptional 2 b
  wholeBody (.submitTrial ⟨kind, target, need, limit, time, band, jogSpeed, jogTime⟩) b

def readListBody (b : List Byte) : Option Request := do
  let (start, b) ← readNumber 2 b
  let (count, b) ← readNumber 1 b
  let (kind, b) ← readOptional 1 b
  let (custody, b) ← readOptional 1 b
  let (proof, b) ← readOptional 1 b
  wholeBody (.listPoints ⟨start, count, kind, custody, proof⟩) b

def readCaptureBody (b : List Byte) : Option Request := do
  let (channel, b) ← readNumber 1 b
  let (tag, b) ← readNumber 2 b
  let (first, b) ← readNumber 1 b
  let (count, b) ← readNumber 1 b
  let (double, b) ← readNumber 1 b
  let (target, b) ← readOptional 2 b
  wholeBody (.captureSet ⟨channel, tag, first, count, double, target⟩) b

/-- The request a body spells under a kind code (12.6); none when its length is not one the kind allows (R166). -/
def readBody (code : Nat) (b : List Byte) : Option Request :=
  match code with
  | 1 => readGeometry b
  | 2 => readPointBody b
  | 3 => oneNumber 2 .deletePoint b
  | 4 => wholeBody .clearRegister b
  | 5 => readWindowBody b
  | 6 => readTrialBody b
  | 7 => oneNumber 1 .cancelTrial b
  | 8 => oneNumber 2 .take b
  | 9 => oneNumber 2 .giveBack b
  | 10 => oneNumber 1 .restartBranch b
  | 11 => oneNumber 2 .setLoopSpeed b
  | 12 => twoNumbers 2 1 .setService b
  | 13 => twoNumbers 2 1 .answerAsk b
  | 14 => twoNumbers 2 2 .discharge b
  | 15 => oneNumber 2 .cancelDischarge b
  | 16 => oneNumber 2 .clearCarrier b
  | 17 => oneNumber 2 .readPoint b
  | 18 => readListBody b
  | 19 => oneNumber 1 .readWindow b
  | 20 => oneNumber 2 .readCarrier b
  | 21 => wholeBody .readTracker b
  | 22 => oneNumber 1 .readTrial b
  | 23 => oneNumber 1 .readBranch b
  | 24 => twoNumbers 2 1 .nodeQuery b
  | 25 => wholeBody .digest b
  | 26 => readCaptureBody b
  | 27 => oneNumber 1 .captureStop b
  | 28 => oneNumber 1 .captureOff b
  | 29 => twoNumbers 1 1 .captureRead b
  | 30 => oneNumber 1 .fetchNotices b
  | _ => none

/-! ### Writing a request body (12.6) -/

/-- A signed number of two bytes. -/
def signedBytes (z : Int) : List Byte := bigEndian 2 (z % 65536).toNat

/-- An optional number: its presence byte, then the value. -/
def optionalBytes (w : Nat) : Option Nat → List Byte
  | none => bigEndian 1 0
  | some n => bigEndian 1 1 ++ bigEndian w n

/-- The body of a request, by the layouts of 12.6. -/
def requestBody : Request → List Byte
  | .loadGeometry g =>
    bigEndian 4 g.length ++ bigEndian 2 g.carriers ++ bigEndian 2 g.pitch ++ bigEndian 4 g.scale ++
    bigEndian 2 g.homeTol ++ bigEndian 2 g.grace ++ bigEndian 2 g.slack ++ bigEndian 1 g.latency ++
    bigEndian 2 g.vmax ++ bigEndian 4 g.jog ++ bigEndian 1 g.linkBranch ++ bigEndian 1 g.linkNode ++
    bigEndian 2 g.maxAge
  | .writePoint p =>
    bigEndian 2 p.tag ++ bigEndian 1 p.kind ++ bigEndian 4 p.loc ++ signedBytes p.bias ++ bigEndian 2 p.tol ++
    bigEndian 1 p.zone ++ optionalBytes 1 p.edge ++ optionalBytes 2 p.entry ++ optionalBytes 2 p.throw ++
    optionalBytes 1 p.side
  | .deletePoint tag => bigEndian 2 tag
  | .clearRegister => []
  | .writeWindow w =>
    bigEndian 1 w.number ++ bigEndian 1 w.enabled ++ bigEndian 2 w.base ++ bigEndian 2 w.mask ++
    bigEndian 1 w.mode ++ optionalBytes 2 w.weight ++ bigEndian 1 w.nodeBase ++ bigEndian 1 w.perms
  | .submitTrial t =>
    bigEndian 1 t.kind ++ bigEndian 2 t.target ++ bigEndian 1 t.need ++ bigEndian 1 t.limit ++
    bigEndian 2 t.time ++ optionalBytes 2 t.band ++ optionalBytes 2 t.jogSpeed ++ optionalBytes 2 t.jogTime
  | .cancelTrial id => bigEndian 1 id
  | .take tag => bigEndian 2 tag
  | .giveBack tag => bigEndian 2 tag
  | .restartBranch branch => bigEndian 1 branch
  | .setLoopSpeed speed => bigEndian 2 speed
  | .setService tag service => bigEndian 2 tag ++ bigEndian 1 service
  | .answerAsk tag answer => bigEndian 2 tag ++ bigEndian 1 answer
  | .discharge carrier chute => bigEndian 2 carrier ++ bigEndian 2 chute
  | .cancelDischarge carrier => bigEndian 2 carrier
  | .clearCarrier carrier => bigEndian 2 carrier
  | .readPoint tag => bigEndian 2 tag
  | .listPoints q =>
    bigEndian 2 q.start ++ bigEndian 1 q.count ++ optionalBytes 1 q.kind ++ optionalBytes 1 q.custody ++
    optionalBytes 1 q.proof
  | .readWindow number => bigEndian 1 number
  | .readCarrier carrier => bigEndian 2 carrier
  | .readTracker => []
  | .readTrial id => bigEndian 1 id
  | .readBranch branch => bigEndian 1 branch
  | .nodeQuery tag item => bigEndian 2 tag ++ bigEndian 1 item
  | .digest => []
  | .captureSet c =>
    bigEndian 1 c.channel ++ bigEndian 2 c.tag ++ bigEndian 1 c.first ++ bigEndian 1 c.count ++
    bigEndian 1 c.double ++ optionalBytes 2 c.target
  | .captureStop channel => bigEndian 1 channel
  | .captureOff channel => bigEndian 1 channel
  | .captureRead channel count => bigEndian 1 channel ++ bigEndian 1 count
  | .fetchNotices max => bigEndian 1 max

/-- A request frame: delimiter, length, request tag, kind, body, CRC-16 over length to body (12.6). -/
def requestFrame (rtag : Nat) (q : Request) : List Byte :=
  let inner := bigEndian 1 rtag ++ bigEndian 1 q.code ++ requestBody q
  let counted := bigEndian 2 inner.length ++ inner
  delimiter :: (counted ++ bigEndian 2 (crc16 counted))

/-- What the port makes of the bytes it has received (R166): a frame not yet whole, a bad frame with the bytes after
it and whether bytes are then discarded up to the next 165, or a whole frame's tag, kind and body. -/
inductive TakenFrame where
  | wait
  | bad (rest : List Byte) (hunt : Bool)
  | whole (tag kind : Nat) (body rest : List Byte)
  deriving DecidableEq, Repr

/-- The port takes the bytes of a frame by count (R166). -/
def takeRequestFrame : List Byte → TakenFrame
  | [] => .wait
  | d :: r =>
    if d ≠ delimiter then .bad r true
    else match r with
    | h :: l :: r =>
      let n := numberOf [h, l]
      if n < 2 ∨ 1024 < n then .bad r true
      else if r.length < n + 2 then .wait
      else
        let inner := r.take n
        let rest := r.drop (n + 2)
        if crc16 (h :: l :: inner) ≠ numberOf ((r.drop n).take 2) then .bad rest false
        else .whole (numberOf (inner.take 1)) (numberOf ((inner.drop 1).take 1)) (inner.drop 2) rest
    | _ => .wait

/-- The bytes from the next 165 on: what remains when bytes are discarded up to it (R166, 10.1). -/
def fromDelimiter (bs : List Byte) : List Byte := bs.dropWhile (fun b => b != delimiter)

/-! ## Field ring frames -/

def Action.bytes : Action → List Byte
  | .discharge carrier side => bigEndian 1 1 ++ bigEndian 2 carrier ++ bigEndian 1 side.code
  | .jog carrier speed time => bigEndian 1 2 ++ bigEndian 2 carrier ++ bigEndian 2 speed ++ bigEndian 2 time
  | .setSpeed value => bigEndian 1 3 ++ bigEndian 2 value

/-- Kind and body of a downlink frame (10.1). -/
def DownFrame.body : DownFrame → List Byte
  | .enumerate => bigEndian 1 1
  | .ack node bit => bigEndian 1 2 ++ bigEndian 1 node ++ bigEndian 1 (if bit then 1 else 0)
  | .command tag node channel action =>
    bigEndian 1 3 ++ bigEndian 1 tag ++ bigEndian 1 node ++ bigEndian 1 channel ++ action.bytes
  | .query tag node channel item =>
    bigEndian 1 4 ++ bigEndian 1 tag ++ bigEndian 1 node ++ bigEndian 1 channel ++ bigEndian 1 item.code

/-- A downlink frame: delimiter, kind, body, CRC-16 over the kind and the body (10.1). -/
def DownFrame.bytes (f : DownFrame) : List Byte := delimiter :: (f.body ++ bigEndian 2 (crc16 f.body))

/-- An uplink frame that passes the CRC, kind and length tests of R143. -/
inductive UplinkFrame where
  | event (f : EventFields)
  | reply (f : ReplyFields)
  | announce (f : AnnounceFields)
  deriving DecidableEq, Repr

/-- The body length that an uplink kind fixes (10.1). -/
def uplinkLength : Nat → Option Nat
  | 17 => some 9
  | 18 => some 6
  | 19 => some 3
  | _ => none

/-- The load-gone byte is 0 or 1 (10.1); another byte is free (log 25). -/
def loadGoneOf (b : Byte) : Bool := if b = 0#8 then false else if b = 1#8 then true else Config.oddLoadGone b

/-- The fields of an uplink frame's body (10.1). -/
def readUplink (kind : Nat) (b : List Byte) : Option UplinkFrame :=
  match kind, b with
  | 17, [node, channel, flags, a1, a0, r3, r2, r1, r0] =>
    some (.event ⟨node.toNat, channel.toNat, flags.getLsbD 0, flags.getLsbD 1, numberOf [a1, a0],
      BitVec.ofNat 32 (numberOf [r3, r2, r1, r0])⟩)
  | 18, [tag, node, status, v1, v0, gone] =>
    some (.reply ⟨tag.toNat, node.toNat, status.toNat, numberOf [v1, v0], loadGoneOf gone⟩)
  | 19, [node, kind, channels] => some (.announce ⟨node.toNat, kind.toNat, channels.toNat⟩)
  | _, _ => none

/-- What the controller makes of the uplink bytes it has received (10.1, R143). A byte that opens no frame is passed
over without a count (log 16). -/
inductive TakenUplink where
  | wait
  | skip (rest : List Byte)
  | bad (rest : List Byte) (hunt : Bool)
  | whole (f : UplinkFrame) (rest : List Byte)
  deriving DecidableEq, Repr

def takeUplinkFrame : List Byte → TakenUplink
  | [] => .wait
  | d :: r =>
    if d ≠ delimiter then .skip r
    else match r with
    | [] => .wait
    | k :: r =>
      match uplinkLength k.toNat with
      | none => .bad r true
      | some n =>
        if r.length < n + 2 then .wait
        else
          let body := r.take n
          let rest := r.drop (n + 2)
          if crc16 (k :: body) ≠ numberOf ((r.drop n).take 2) then .bad rest false
          else match readUplink k.toNat body with
          | some f => .whole f rest
          | none => .bad rest false

end Sys2Proof.Machine

namespace Sys2Proof

open Sys2Proof.Machine

/-- The field tests of R143 on an EVENT: only its node, for a channel above 15 is no bad frame. -/
def EventFields.passes (f : EventFields) : Bool := within 1 126 f.node

/-- The field tests of R143 on a REPLY. -/
def ReplyFields.passes (f : ReplyFields) : Bool := within 1 126 f.node && within 1 4 f.status

/-- The field tests of R143 on an ANNOUNCE. -/
def AnnounceFields.passes (f : AnnounceFields) : Bool :=
  within 1 126 f.node && within 1 4 f.kind && within 1 16 f.channels

end Sys2Proof
end

