-- ==== Sys2Proof/Machine/Ops.lean ====
section
/-! DEFINITION. The named operations over the state: reading and writing of records, posting of notices, the ports'
answers and queues, and the taking of a request. -/

namespace Sys2Proof.Machine

/-! ## Loop inputs -/

/-- The fence state of a zone (R73). -/
def Loop.fenced (l : Loop) (zone : Nat) : Bool := l.fences.getLsbD zone

def Loop.geometry (l : Loop) : Option Geometry := l.tracker.geometry

def Loop.isLocked (l : Loop) : Bool := decide (l.tracker.lock = .locked)

/-- The position from which lists are ordered: position 0 while it is absent (R84). -/
def Loop.orderFrom (l : Loop) : Nat := l.tracker.pos.getD 0

/-- The loop length, 0 without a geometry. -/
def Loop.length (l : Loop) : Nat :=
  match l.geometry with
  | none => 0
  | some g => g.length

/-- The forward distance from the current position, by which lists are ordered (R21, R84, R101). -/
def Loop.ahead (l : Loop) (x : Nat) : Nat := forward l.length l.orderFrom x

/-! ## Records of the core -/

namespace Work

def point (w : Work) (tag : Nat) : Option Point := w.points.find? fun p => p.tag == tag

/-- The record with its tag is replaced in place (R37). -/
def setPoint (w : Work) (p : Point) : Work :=
  { w with points := w.points.map fun q => if q.tag = p.tag then p else q }

def ask (w : Work) (tag : Nat) : Option Ask := w.asks.find? fun a => a.tag == tag

/-- A closed ask leaves the table, and the asks behind it keep their order (R65). -/
def closeAsk (w : Work) (tag : Nat) : Work := { w with asks := w.asks.filter fun a => a.tag != tag }

def carrier (w : Work) (k : Nat) : Option Carrier := w.carriers[k]?

def setCarrier (w : Work) (k : Nat) (c : Carrier) : Work := { w with carriers := w.carriers.set k c }

/-- The load state of a carrier changes; nothing else of its record does (R79). -/
def setLoad (w : Work) (k : Nat) (x : LoadState) : Work :=
  { w with carriers := w.carriers.modify k fun c => { c with load := x } }

def entryOf (w : Work) (k : Nat) : Option Entry := w.fires.find? fun e => e.carrier == k

def entryAt (w : Work) (seq : Nat) : Option Entry := w.fires.find? fun e => e.seq == seq

/-- The entry with its joining number is replaced. -/
def setEntry (w : Work) (e : Entry) : Work :=
  { w with fires := w.fires.map fun f => if f.seq = e.seq then e else f }

def trial (w : Work) (id : Nat) : Option Trial := w.plan.find? fun t => t.id == id

def setTrial (w : Work) (t : Trial) : Work :=
  { w with plan := w.plan.map fun u => if u.id = t.id then t else u }

def window (w : Work) (order : Nat) : Option Window := w.windows.find? fun x => x.order == order

/-- The window leaves the table. -/
def dropWindow (w : Work) (order : Nat) : Work :=
  { w with windows := w.windows.filter fun x => x.order != order }

def ring (w : Work) : Branch → Ring
  | .a => w.ringA
  | .b => w.ringB

def setRing (w : Work) (br : Branch) (r : Ring) : Work :=
  match br with
  | .a => { w with ringA := r }
  | .b => { w with ringB := r }

/-- A notice is posted to a link; it reaches the queue as the event's notices are put in order (R170, log 5). -/
def post (w : Work) (link : Link) (block : Block) (n : Notice) : Work :=
  { w with outbox := w.outbox ++ [⟨link, block, n⟩] }

/-- A notice for both links is posted to each queue separately (R170). -/
def postBoth (w : Work) (block : Block) (n : Notice) : Work :=
  (w.post .line block n).post .console block n

end Work

/-- Some LINE fire names the chute (R66, R67, R68). -/
def Work.lineFires (w : Work) (chute : Nat) : Nat :=
  (w.fires.filter fun e => e.owner == .line && e.chute == some chute).length

/-- The carrier's destination becomes absent; a carrier that is not LOADED has none (R79). -/
def Work.clearDest (w : Work) (k : Nat) : Work :=
  match w.carrier k with
  | some c =>
    match c.load with
    | .loaded owner ref _ => w.setLoad k (.loaded owner ref none)
    | _ => w
  | none => w

/-- A LOADED carrier's destination becomes the chute (R85, R86). -/
def Work.setDest (w : Work) (k chute : Nat) : Work :=
  match w.carrier k with
  | some c =>
    match c.load with
    | .loaded owner ref _ => w.setLoad k (.loaded owner ref (some chute))
    | _ => w
  | none => w

/-! ## Withdrawing waiting requests (R149) -/

/-- The waiting requests of the branch that `keep` does not hold leave their queues and are never granted. -/
def Ring.withdraw (r : Ring) (keep : Job → Bool) : Ring :=
  { r with
    fireq := r.fireq.filter fun q => keep q.job
    driveq := r.driveq.filter fun q => keep q.job
    relayq := r.relayq.filter fun q => keep q.job }

def Work.withdraw (w : Work) (keep : Job → Bool) : Work :=
  { w with ringA := w.ringA.withdraw keep, ringB := w.ringB.withdraw keep }

def Work.withdrawFire (w : Work) (seq : Nat) : Work :=
  w.withdraw fun j => match j with | .fire n => n != seq | _ => true

def Work.withdrawSpeed (w : Work) (tag : Nat) : Work :=
  w.withdraw fun j => match j with | .setSpeed t _ => t != tag | _ => true

def Work.withdrawQuery (w : Work) (order : Nat) : Work :=
  w.withdraw fun j => match j with | .speedQuery _ o => o != order | _ => true

/-- Some waiting request of either branch carries a job that `p` holds of. -/
def Ring.waits (r : Ring) (p : Job → Bool) : Bool :=
  r.fireq.any (fun q => p q.job) || r.driveq.any (fun q => p q.job) || r.relayq.any (fun q => p q.job)

def Work.waits (w : Work) (p : Job → Bool) : Bool := w.ringA.waits p || w.ringB.waits p

/-- Some transaction of either branch carries a job that `p` holds of. -/
def Work.onField (w : Work) (p : Job → Bool) : Bool :=
  w.ringA.table.any (fun x => p x.job) || w.ringB.table.any (fun x => p x.job)

/-! ## Ports -/

namespace State

def port (s : State) : Link → Port
  | .line => s.line
  | .console => s.console

def setPort (s : State) (k : Link) (p : Port) : State :=
  match k with
  | .line => { s with line := p }
  | .console => { s with console := p }

/-- The core changes by `f`. -/
def mapWork (s : State) (f : Work → Work) : State := { s with work := f s.work }

end State

/-- A notice joins the end of the queue, or is dropped and sets the overflow marker when it holds 64 (R170). -/
def Port.enqueue (p : Port) (n : Notice) : Port :=
  if p.notices.length < 64 then { p with notices := p.notices ++ [n] } else { p with overflow := true }

def Port.enqueueAll (p : Port) (ns : List Notice) : Port := ns.foldl Port.enqueue p

/-- The answer of a frame that takes no place in the intake waits behind those of earlier frames (R168). -/
def Port.pushAnswer (p : Port) (a : Answer) : Port := { p with answers := p.answers ++ [some a] }

/-- The first awaited place takes the answer: it belongs to the oldest request taken (R167, R168). -/
def fillFirst (a : Answer) : List (Option Answer) → List (Option Answer)
  | [] => [some a]
  | none :: r => some a :: r
  | some x :: r => some x :: fillFirst a r

/-- The answer formed at the taking of a request joins the answers. -/
def Port.fillAnswer (p : Port) (a : Answer) : Port := { p with answers := fillFirst a p.answers }

/-! ## Putting the notices of one event into the queues -/

/-- The blocks that have posted, each once. -/
def blocksOf : List Post → List Block
  | [] => []
  | p :: ps => if (blocksOf ps).contains p.block then blocksOf ps else p.block :: blocksOf ps

/-- The first notice that block `b` posted, and the posts without it. -/
def takeBlock (b : Block) : List Post → Option (Notice × List Post)
  | [] => none
  | p :: ps =>
    if p.block = b then some (p.notice, ps)
    else match takeBlock b ps with
    | none => none
    | some (n, r) => some (n, p :: r)

/-- The order in which one link's notices of one event join its queue: notices of one block keep their order, and the
next block is a free choice (R170, log 5). `n` counts the choices. -/
def arrange : Nat → Nat → List Post → List Notice × Nat
  | 0, n, ps => (ps.map Post.notice, n)
  | fuel + 1, n, ps =>
    match blocksOf ps with
    | [] => ([], n)
    | [_] => (ps.map Post.notice, n)
    | b :: bs =>
      match takeBlock ((b :: bs).getD (Config.noticeOrder n % (bs.length + 1)) b) ps with
      | none => (ps.map Post.notice, n)
      | some (x, r) =>
        let (out, m) := arrange fuel (n + 1) r
        (x :: out, m)

/-- The posts of the event to one link. -/
def postsTo (k : Link) (ps : List Post) : List Post := ps.filter fun p => p.link == k

/-- The notices of the event join the queues, and the outbox is empty again. -/
def State.flush (s : State) : State :=
  let lineOut := arrange s.work.outbox.length s.fresh (postsTo .line s.work.outbox)
  let consoleOut := arrange s.work.outbox.length lineOut.2 (postsTo .console s.work.outbox)
  { s with
    work := { s.work with outbox := [] }
    line := s.line.enqueueAll lineOut.1
    console := s.console.enqueueAll consoleOut.1
    fresh := consoleOut.2 }

/-- A row of a distribution is satisfied (R131). -/
def RowState.satisfied (value : Nat) : RowState → Bool
  | .acked v => v == value
  | .failed v => v == value
  | _ => false

def RowState.isWithheld : RowState → Bool
  | .withheld => true
  | _ => false

def RowState.isAcked : RowState → Bool
  | .acked _ => true
  | _ => false

def RowState.isFailed : RowState → Bool
  | .failed _ => true
  | _ => false

/-- Every row is satisfied or WITHHELD (R137). -/
def Distribution.over (d : Distribution) : Bool :=
  d.rows.all fun r => r.state.isWithheld || r.state.satisfied d.value

/-- The number of rows ACKED, and of rows FAILED (R137). -/
def Distribution.acked (d : Distribution) : Nat := (d.rows.filter fun r => r.state.isAcked).length
def Distribution.failed (d : Distribution) : Nat := (d.rows.filter fun r => r.state.isFailed).length

/-- A distribution ends at the first event after which every row is satisfied or WITHHELD, with SPEED_SET (R137). -/
def Work.endDistribution (w : Work) : Work :=
  match w.dist with
  | none => w
  | some d =>
    if d.over then
      Work.post { w with dist := none } .line .drives (.speedSet d.value d.cause d.acked d.failed)
    else w

/-- The end of every event: a distribution all of whose rows are settled ends, and the notices join the queues. -/
def State.settle (s : State) : State := (s.mapWork Work.endDistribution).flush

/-! ## Taking a request (R167) -/

/-- What a block answers to a request: the part after it, the status and the body of the answer. -/
structure Reply where
  state  : State
  status : Status
  body   : List Field := []
  deriving DecidableEq, Repr

/-- A refusal: an answer and nothing else (00 "Status codes"). -/
def refuse (s : State) (x : Status) : Reply := ⟨s, x, []⟩

def ok (s : State) (body : List Field := []) : Reply := ⟨s, .ok, body⟩

/-- The answer that a handled request forms. -/
def Reply.answer (r : Reply) (rtag kind : Nat) : Answer := ⟨rtag, kind, r.status, r.body⟩

/-- The port is receiving no frame that is not yet whole, and no break is held: a frame may arrive (R166, R174). -/
def Port.idle (p : Port) : Bool := !p.breakHeld && p.rx.isEmpty

/-- A whole request frame arrives and takes no place in the intake. Its 165 ends the discarding of bytes (R166). -/
def Port.synced (p : Port) : Port := { p with hunting := false }

/-- A request is taken from the intake of link `k` and handled whole (R167). With an empty intake its frame arrives and
is taken at one event, which ends the discarding up to the next 165 (R166). While another request stands before it,
during a break, or with a frame on the link not yet whole, nothing happens (log 4). -/
def serve (k : Link) (rtag : Nat) (q : Request) (handle : State → Reply) (s : State) : State :=
  match (s.port k).intake with
  | h :: rest =>
    if h = ⟨rtag, q⟩ then
      let r := handle (s.setPort k { s.port k with intake := rest })
      (r.state.setPort k ((r.state.port k).fillAnswer (r.answer rtag q.code))).settle
    else s
  | [] =>
    if (s.port k).idle then
      let s := s.setPort k (s.port k).synced
      if rtag = 0 then s.setPort k ((s.port k).pushAnswer ⟨0, q.code, .invalid, []⟩)
      else
        let r := handle s
        (r.state.setPort k ((r.state.port k).pushAnswer (r.answer rtag q.code))).settle
    else s

end Sys2Proof.Machine
end

