-- ==== Sys2Proof/Machine/Flags.lean ====
section
/-! DEFINITION. Flags and conditions computed from the state: READY and ATTENTION, the steady test, hold reasons, the
tests of a fire, and the counts that other rules read. -/

namespace Sys2Proof.Machine

/-- READY is low while the intake holds 8 requests or a break is held, and high otherwise (R167, log 33). -/
def Port.ready (p : Port) : Bool := decide (p.intake.length < 8) && !p.breakHeld

/-- ATTENTION is asserted while the notice queue holds at least one notice (R172, log 33). -/
def Port.attention (p : Port) : Bool := !p.notices.isEmpty

/-- The steady band (R10). -/
def steadyBand (setpoint : Nat) : Nat := max (setpoint / 50) 10

/-- The three conditions of a good sample (R10). -/
def Tracker.goodSample (t : Tracker) : Bool :=
  decide (t.lock = .locked) && decide (t.setpoint > 0) &&
  decide (((t.v : Int) - t.setpoint).natAbs ≤ steadyBand t.setpoint)

/-- A home event is accepted, or confirms the first home, when |a − L| ≤ H (R12, R13). -/
def homeWithin (g : Geometry) (a : Int) : Bool := decide ((a - g.length).natAbs ≤ g.homeTol)

/-! ## Hold reasons -/

def HoldReasons.none : HoldReasons := ⟨false, false, false, false⟩

/-- A reason other than NO_WINDOW_SPACE applies. -/
def HoldReasons.others (r : HoldReasons) : Bool := r.unlocked || r.unsteady || r.fenced

/-- NO_WINDOW_SPACE and no other reason (R116). -/
def HoldReasons.onlyNoSpace (r : HoldReasons) : Bool := r.noSpace && !r.others

/-- The zone of a point is fenced. -/
def zoneFenced (l : Loop) (w : Work) (tag : Nat) : Bool :=
  match w.point tag with
  | none => false
  | some p => l.fenced p.config.zone

/-- The entry sensor of a chute (R36). -/
def Work.entrySensor (w : Work) (chute : Nat) : Option Nat :=
  match w.point chute with
  | none => none
  | some p => p.config.entry

/-- The work of a trial lies in a fenced zone (R75, R116). -/
def workFenced (l : Loop) (w : Work) (t : Trial) : Bool :=
  match t.kind with
  | .sensor => zoneFenced l w t.target
  | .chute =>
    zoneFenced l w t.target ||
    (match w.entrySensor t.target with | none => false | some s => zoneFenced l w s)
  | .zoneDrive => zoneFenced l w t.target
  | .belt => false

/-- The reasons of R116 that apply to a trial now, but for NO_WINDOW_SPACE, which belongs to its last attempt. -/
def reasonsNow (l : Loop) (w : Work) (t : Trial) : HoldReasons where
  unlocked := (match t.kind with | .zoneDrive => false | _ => true) && !l.isLocked
  unsteady := (match t.kind with | .chute => true | .zoneDrive => true | _ => false) && !l.tracker.steady
  fenced := workFenced l w t
  noSpace := false

/-- A trial that counts against the sixteen (R112, R115). -/
def Trial.isRunning (t : Trial) : Bool := decide (t.state ≠ .queued)

def Trial.isActive (t : Trial) : Bool := decide (t.state = .active)

def Work.running (w : Work) : Nat := (w.plan.filter Trial.isRunning).length

/-! ## Windows and fires -/

/-- The table holds a window for the pair of sensor and carrier (R101, R102). -/
def Work.pairTaken (w : Work) (sensor carrier : Nat) : Bool :=
  w.windows.any fun x => x.sensor == sensor && x.carrier == carrier

/-- A slot can be reserved for a chute item at the entry sensor of its chute (R103). -/
def slotFree (l : Loop) (w : Work) (chute carrier : Nat) : Bool :=
  match w.entrySensor chute with
  | none => false
  | some s => decide (w.windows.length < 512) && !w.pairTaken s carrier && !zoneFenced l w s

def Work.isEmptyCarrier (w : Work) (k : Nat) : Bool :=
  match w.carrier k with
  | some c => decide (c.load = .empty)
  | none => false

def Work.isDoubleLoaded (w : Work) (k : Nat) : Bool :=
  match w.carrier k with
  | some c => decide (c.load = .fault .doubleLoad)
  | none => false

/-- The carrier is LOADED with owner `k`. -/
def Carrier.loadedFor (c : Carrier) (k : Link) : Bool :=
  match c.load with
  | .loaded owner _ _ => decide (owner = k)
  | _ => false

def Work.loadedFor (w : Work) (carrier : Nat) (k : Link) : Bool :=
  match w.carrier carrier with
  | some c => c.loadedFor k
  | none => false

/-- The tests of R89 and of steps 1 to 3 of R90: the revolution is skipped when one of them holds. -/
def skips (l : Loop) (w : Work) (e : Entry) : Bool :=
  !l.isLocked || decide (l.tracker.v = 0) ||
  (match e.chute with | none => false | some c => zoneFenced l w c) ||
  (match e.origin with
   | .chuteItem =>
     !l.tracker.steady || (match e.chute with | none => true | some c => !slotFree l w c e.carrier)
   | .beltJog => !w.isEmptyCarrier e.carrier
   | _ => false)

/-- The pass revolution of the current position (R88). -/
def Loop.passRevolution (l : Loop) : Int :=
  Sys2Proof.Machine.passRevolution l.length l.tracker.revolution l.tracker.homeDist

/-- A trial of the plan targets the point (R40). -/
def Work.underTrial (w : Work) (tag : Nat) : Bool :=
  w.plan.any fun t => decide (t.kind ≠ .belt) && t.target == tag

/-- A CHUTE trial of the plan has a chute that names the point as its entry tag (R40). -/
def Work.servesTrial (w : Work) (tag : Nat) : Bool :=
  w.plan.any fun t => decide (t.kind = .chute) && w.entrySensor t.target == some tag

/-- A capture channel in ACCEPT is bound to the point (R40). -/
def captured (cs : List (Option Channel)) (tag : Nat) : Bool :=
  cs.any fun c => match c with | none => false | some c => decide (c.mode = .accept) && c.tag == tag

/-! ## Counts of the field ring -/

/-- The outstanding count of a node (R147). -/
def Ring.outstanding (r : Ring) (node : Nat) : Nat := (r.table.filter fun x => x.node == node).length

def Job.isFire : Job → Bool
  | .fire _ => true
  | _ => false

/-- The transactions outstanding to a node that are not FIRE transactions (R151). -/
def Ring.otherOutstanding (r : Ring) (node : Nat) : Nat :=
  (r.table.filter fun x => x.node == node && !x.job.isFire).length

/-- The node is the carrier link node of the loaded geometry (R151). -/
def isLinkNode (l : Loop) (br : Branch) (node : Nat) : Bool :=
  match l.geometry with
  | none => false
  | some g => decide (g.linkBranch = br) && g.linkNode == node

/-- The limits of R151 let a request of job `j` be granted to a node. -/
def belowLimit (l : Loop) (br : Branch) (r : Ring) (j : Job) (node : Nat) : Bool :=
  if isLinkNode l br node then
    decide (r.outstanding node < 8) && (j.isFire || decide (r.otherOutstanding node < 2))
  else decide (r.outstanding node < 2)

/-- The lowest free tag of the outstanding table (R150). -/
def Ring.freeTag (r : Ring) : Option Nat :=
  (List.range 16).find? fun n => !(r.table.any fun x => x.tag == n)

/-- The record of node 1..126. -/
def Ring.node (r : Ring) (node : Nat) : Option Node := if node = 0 then none else r.nodes[node - 1]?

def Ring.setNode (r : Ring) (node : Nat) (x : Node) : Ring :=
  if node = 0 then r else { r with nodes := r.nodes.set (node - 1) x }

def Ring.nodeState (r : Ring) (node : Nat) : NodeState :=
  match r.node node with
  | none => .absent
  | some x => x.state

/-- The number of nodes ONLINE (R144). -/
def Ring.online (r : Ring) : Nat := (r.nodes.filter fun x => decide (x.state = .online)).length

/-- A statistic holds at 65,535 (R158). -/
def bump (n : Nat) : Nat := min (n + 1) 65535

end Sys2Proof.Machine
end

