-- ==== Sys2Proof/Machine/FireList.lean ====
section
/-! DEFINITION. The fire list: joining and leaving (6.4, R94), and the drain of an ask by the end of a LINE fire (R68). -/

namespace Sys2Proof.Machine

/-- The throw of a chute; 0 for a belt jog, which names none (R31). -/
def Work.throwOf (w : Work) : Option Nat → Nat
  | none => 0
  | some c =>
    match w.point c with
    | none => 0
    | some p => p.config.throw.getD 0

/-- The location of the place of action: the chute's, or the jog station (R32). -/
def Work.placeOf (w : Work) (g : Geometry) : Option Nat → Nat
  | none => g.jog
  | some c =>
    match w.point c with
    | none => 0
    | some p => p.config.loc

/-- The load ref a carrier holds, 0 when it holds none: the ref of an entry that joins now (R94). -/
def Work.refOf (w : Work) (k : Nat) : BitVec 32 :=
  match w.carrier k with
  | some c => match c.load with | .loaded _ ref _ => ref | _ => 0
  | none => 0

/-- The entry that joins for carrier `k` (R84, R85, R86). -/
def newEntry (l : Loop) (w : Work) (g : Geometry) (k : Nat) (chute : Option Nat) (origin : Origin) (owner : Link)
    (trial : Option Nat) : Entry where
  seq := w.fireCount
  carrier := k
  chute := chute
  origin := origin
  owner := owner
  trial := trial
  nominal := nominalPos g (w.placeOf g chute) k
  firePoint := firePointOf g (nominalPos g (w.placeOf g chute) k) (w.throwOf chute) l.tracker.v
  misses := 0
  state := .waiting
  requested := false
  lastPassed := none
  ref := w.refOf k
  orphan := false

/-- An entry joins the list (R85, R86); declined with 256 entries held or an entry for the carrier. An entry naming a
chute sets the carrier's destination. -/
def addEntry (l : Loop) (k : Nat) (chute : Option Nat) (origin : Origin) (owner : Link) (trial : Option Nat)
    (w : Work) : Option Work :=
  match l.geometry with
  | none => none
  | some g =>
    if w.fires.length < 256 && (w.entryOf k).isNone then
      let joined := { w with fires := w.fires ++ [newEntry l w g k chute origin owner trial]
                             fireCount := w.fireCount + 1 }
      some (match chute with | none => joined | some c => joined.setDest k c)
    else none

/-- An entry leaves the list: its request is withdrawn and its carrier's destination becomes absent. -/
def removeEntry (e : Entry) (w : Work) : Work :=
  (Work.withdrawFire { w with fires := w.fires.filter fun f => f.seq != e.seq } e.seq).clearDest e.carrier

/-- Custody passes to the console as the last LINE fire naming a DRAINING chute has left the list (R68). -/
def drainAsk (e : Entry) (w : Work) : Work :=
  match e.owner, e.chute with
  | .line, some c =>
    match w.ask c, w.point c with
    | some a, some p =>
      if a.state = .draining && w.lineFires c == 0 then
        ((w.setPoint { p with custody := .console, service := .outOfService }).closeAsk c).post .console .custody
          (.custodyDone c true none)
      else w
    | _, _ => w
  | _, _ => w

/-- A discharge ends: the entry leaves, DISCHARGE_DONE goes to its owner, and Custody Control is told (R94). -/
def endDischarge (l : Loop) (outcome : DischargeOutcome) (e : Entry) (w : Work) : Work :=
  drainAsk e ((removeEntry e w).post e.owner .fires
    (.dischargeDone e.carrier (e.chute.getD 0) outcome e.ref e.misses l.tracker.revolution))

/-- Order of the list: by forward distance to the fire point, then by joining (R84); of the table: by forward
distance to the close, then by arming (R101). -/
def entryBefore (l : Loop) (a b : Entry) : Bool :=
  decide (l.ahead a.firePoint < l.ahead b.firePoint) ||
  (l.ahead a.firePoint == l.ahead b.firePoint && decide (a.seq ≤ b.seq))

def windowBefore (l : Loop) (a b : Window) : Bool :=
  decide (l.ahead a.close < l.ahead b.close) || (l.ahead a.close == l.ahead b.close && decide (a.order ≤ b.order))

/-- The entries in list order (R84). -/
def listOrder (l : Loop) (es : List Entry) : List Entry := sortBy (entryBefore l) [] es

/-- The windows in table order (R101). -/
def tableOrder (l : Loop) (ws : List Window) : List Window := sortBy (windowBefore l) [] ws

end Sys2Proof.Machine
end

