-- ==== Sys2Proof/Machine/WindowTable.lean ====
section
/-! DEFINITION. The window table: arming (R102, R103) and the choice of the first carrier due (R123). -/

namespace Sys2Proof.Machine

/-- The answer of the Observation Unit to a request to arm (R102). -/
inductive ArmAnswer where
  | armed (w : Work)
  | unlocked
  | full
  | pairTaken
  deriving DecidableEq, Repr

/-- The window that arming forms (R23, R24, R28, R102). -/
def formWindow (g : Geometry) (p : Point) (k : Nat) (purpose : Purpose) (trial : Nat) (item : Option Nat)
    (order : Nat) : Window where
  sensor := p.tag
  carrier := k
  xexp := expectedPos g p.config.loc p.config.bias k
  te := effTol g.pitch p.config.tol
  close := closeOf g (expectedPos g p.config.loc p.config.bias k) (effTol g.pitch p.config.tol)
  purpose := purpose
  trial := trial
  item := item
  coasted := false
  order := order

/-- The window joins the table with the next arming order. -/
def joinWindow (g : Geometry) (p : Point) (k : Nat) (purpose : Purpose) (trial : Nat) (item : Option Nat)
    (w : Work) : Work :=
  { w with windows := w.windows ++ [formWindow g p k purpose trial item w.armCount], armCount := w.armCount + 1 }

/-- A request to arm a SENSOR_PASS window, with its three refusals in order (R102). -/
def armPass (l : Loop) (p : Point) (k trial : Nat) (w : Work) : ArmAnswer :=
  match l.geometry with
  | none => .unlocked
  | some g =>
    if !l.isLocked then .unlocked
    else if w.windows.length ≥ 512 then .full
    else if w.pairTaken p.tag k then .pairTaken
    else .armed (joinWindow g p k .sensorPass trial none w)

/-- The reserved slot becomes the CHUTE_ENTRY window of an item at the send of its fire (R103). -/
def armEntry (l : Loop) (chute k trial index : Nat) (w : Work) : Work :=
  match l.geometry, w.entrySensor chute with
  | some g, some s =>
    match w.point s with
    | some p => joinWindow g p k .chuteEntry trial (some index) w
    | none => w
  | _, _ => w

/-- The distance to the expected position of carrier `k`, when its whole candidate span lies ahead (R123). -/
def dueDistance (l : Loop) (g : Geometry) (p : Point) (k : Nat) : Option Nat :=
  let d := l.ahead (expectedPos g p.config.loc p.config.bias k)
  if d > effTol g.pitch p.config.tol + g.grace then some d else none

/-- The nearer of the best carrier so far and carrier `k`. -/
def nearer (l : Loop) (g : Geometry) (p : Point) (best : Option (Nat × Nat)) (k : Nat) : Option (Nat × Nat) :=
  match dueDistance l g p k, best with
  | none, b => b
  | some d, none => some (k, d)
  | some d, some (j, dj) => if d < dj then some (k, d) else some (j, dj)

/-- The first carrier due at a sensor (R123). -/
def firstDue (l : Loop) (p : Point) : Nat :=
  match l.geometry with
  | none => 0
  | some g =>
    match (List.range g.carriers).foldl (nearer l g p) none with
    | none => 0
    | some (k, _) => k

/-- The result of a sensor trial's attempt over the carriers from `k` on (R123). -/
inductive Attempt where
  | armed (k : Nat) (w : Work)
  | unlocked
  | noSpace
  deriving DecidableEq, Repr

/-- Declined PAIR_TAKEN, the trial asks for the next carrier until all `n` have been declined (R123). -/
def attempt (l : Loop) (p : Point) (trial n : Nat) (w : Work) : Nat → Nat → Attempt
  | 0, _ => .noSpace
  | fuel + 1, k =>
    match armPass l p k trial w with
    | .armed w => .armed k w
    | .unlocked => .unlocked
    | .full => .noSpace
    | .pairTaken => attempt l p trial n w fuel ((k + 1) % n)

/-- The number of carriers. -/
def Loop.carriers (l : Loop) : Nat :=
  match l.geometry with
  | none => 0
  | some g => g.carriers

end Sys2Proof.Machine
end

