-- ==== Sys2Proof/Machine/Trials.lean ====
section
/-! DEFINITION. The Trial Engine (Chapter 8): holds, arming, claiming, counting, completion, items and verdicts. The
order in which the neighbours act at one event is logged (logs 8, 11). -/

namespace Sys2Proof.Machine

/-! ## Work of a trial as it becomes ACTIVE -/

/-- A sensor trial tries to arm, from `start` or from the first carrier due (R123). -/
def armSensor (l : Loop) (id : Nat) (start : Option Nat) (w : Work) : Work :=
  match w.trial id with
  | none => w
  | some t =>
    match w.point t.target with
    | none => w
    | some p =>
      let k := start.getD (firstDue l p)
      match attempt l p id l.carriers w l.carriers k with
      | .armed k w =>
        w.setTrial { t with state := .active, reasons := .none, armed := some k, startAt := none }
      | .unlocked => w.setTrial { t with state := .held, reasons := { HoldReasons.none with unlocked := true } }
      | .noSpace =>
        w.setTrial { t with state := .held, reasons := { HoldReasons.none with noSpace := true }, startAt := some k }

/-- A carrier is claimable (R125). -/
def Work.claimable (w : Work) (k : Nat) : Bool := w.loadedFor k .console && (w.entryOf k).isNone

/-- An ACTIVE chute trial with fewer than 4 items in flight (R125). -/
def Trial.claims (t : Trial) : Bool := decide (t.kind = .chute) && t.isActive && decide (t.items.length < 4)

/-- The earliest claiming trial takes the carrier, when its add is accepted (R125). The count of items claimed is not
bounded (log 22). -/
def claimOne (l : Loop) (w : Work) (k : Nat) : Work :=
  if w.claimable k then
    match w.plan.find? Trial.claims with
    | none => w
    | some t =>
      match addEntry l k (some t.target) .chuteItem .console (some t.id) w with
      | none => w
      | some w' =>
        w'.setTrial { t with
          claimed := t.claimed + 1
          items := t.items ++ [{ index := t.claimed + 1, carrier := k, ref := w.refOf k, stage := .assigned,
                                 verdict := none, reply := none }] }
  else w

/-- A claim pass takes the carriers in ascending number (R125). Once no trial or no entry is to be had, no later
carrier is claimed either. -/
def claimPass (l : Loop) (w : Work) : Work := (List.range w.carriers.length).foldl (claimOne l) w

/-- A belt trial asks for its BELT_JOG entry (R140). -/
def jogAdd (l : Loop) (id : Nat) (w : Work) : Work :=
  match w.trial id with
  | none => w
  | some t =>
    match addEntry l t.target none .beltJog .console (some id) w with
    | none => w.setTrial { t with begun := true, jogDeclined := true }
    | some w => w.setTrial { t with begun := true, jogDeclined := false }

/-- The work of a trial that becomes ACTIVE (R115, R116, R123, R125, R138, R140). -/
def beginWork (l : Loop) (t : Trial) (w : Work) : Work :=
  match t.kind with
  | .sensor => if t.armed.isNone then armSensor l t.id none w else w
  | .chute => claimPass l w
  | .zoneDrive => { w with polls := w.polls ++ [⟨t.id, l.clock + 100⟩] }
  | .belt => if t.begun then w else jogAdd l t.id w

/-- A trial becomes ACTIVE and begins its work. -/
def goActive (l : Loop) (t : Trial) (w : Work) : Work :=
  beginWork l t (w.setTrial { t with state := .active, reasons := .none })

/-- The poll timer leaves the schedule and a waiting query is withdrawn (R138). -/
def stopPolls (t : Trial) (w : Work) : Work :=
  Work.withdrawQuery { w with polls := w.polls.filter fun p => p.trial != t.id } t.order

/-- A trial becomes or stays HELD with the reasons `r`. -/
def goHeld (t : Trial) (r : HoldReasons) (w : Work) : Work :=
  stopPolls t (w.setTrial { t with state := .held, reasons := r })

/-- A trial takes the reasons that now apply (R116). NO_WINDOW_SPACE stays while other reasons apply; as the last of
those ceases the trial tries to arm. -/
def reevaluateOne (l : Loop) (w : Work) (id : Nat) : Work :=
  match w.trial id with
  | none => w
  | some t =>
    if t.isRunning then
      let r := reasonsNow l w t
      if r.others then goHeld t { r with noSpace := t.reasons.noSpace } w
      else if t.reasons.noSpace then (if t.reasons.others then armSensor l id t.startAt w else w)
      else if t.isActive then w
      else goActive l t w
    else w

/-- Every ACTIVE and HELD trial takes its reasons, in submission order (R116). -/
def reevaluate (l : Loop) (w : Work) : Work := (w.plan.map Trial.id).foldl (reevaluateOne l) w

/-- A trial held for NO_WINDOW_SPACE alone tries again at an announcement (R116). -/
def retryOne (l : Loop) (p : Trial → Bool) (w : Work) (id : Nat) : Work :=
  match w.trial id with
  | none => w
  | some t => if t.isRunning && t.reasons.onlyNoSpace && p t then armSensor l id t.startAt w else w

def retry (l : Loop) (p : Trial → Bool) (w : Work) : Work := (w.plan.map Trial.id).foldl (retryOne l p) w

/-- The announcements of a removal that found `before` windows in the table (R104): slot free, then pair free, in
the order in which R104 lists the two (log 11). -/
def announceSpace (l : Loop) (before : Nat) (x : Window) (w : Work) : Work :=
  let w := if before = 512 then retry l (fun _ => true) w else w
  match x.purpose with
  | .chuteEntry => retry l (fun t => t.target == x.sensor) w
  | .sensorPass => w

/-- A window is removed without a verdict (R111). -/
def removeWindow (l : Loop) (x : Window) (w : Work) : Work :=
  announceSpace l w.windows.length x (w.dropWindow x.order)

/-! ## Leaving the plan -/

/-- One hold-free or held activation of a QUEUED trial, while fewer than 16 are ACTIVE or HELD (R115). -/
def activateOne (l : Loop) (w : Work) (id : Nat) : Work :=
  match w.trial id with
  | none => w
  | some t =>
    if t.state = .queued && decide (w.running < 16) then
      let r := reasonsNow l w t
      if r.others then w.setTrial { t with state := .held, reasons := r } else goActive l t w
    else w

/-- Activation is tried, in submission order (R115). -/
def activate (l : Loop) (w : Work) : Work := (w.plan.map Trial.id).foldl (activateOne l) w

/-- The carrier effect of a SENT entry whose trial has left the plan (R120). -/
def orphanEffect (e : Entry) (r : ItemReply) (w : Work) : Work :=
  match e.origin with
  | .chuteItem =>
    if w.loadedFor e.carrier .console then
      match r with
      | .doneGone => w.setLoad e.carrier .empty
      | .doneKept => w.setLoad e.carrier (.fault .beltFault)
      | .fault => w.setLoad e.carrier (.fault .beltFault)
      | .timeout => w.setLoad e.carrier (.fault .noReply)
      | .ringRestart => w.setLoad e.carrier (.fault .noReply)
    else w
  | .beltJog =>
    if r = .fault && w.isEmptyCarrier e.carrier then w.setLoad e.carrier (.fault .beltFault) else w
  | _ => w

/-- A trial's entry as the trial leaves: WAITING it is removed; SENT it stays, or is resolved at once from the reply
its item holds (R119, R120). -/
def endEntry (t : Trial) (w : Work) (e : Entry) : Work :=
  match e.state with
  | .waiting => removeEntry e w
  | .sent =>
    match (t.items.find? fun i => i.carrier == e.carrier).bind Item.reply with
    | some r => removeEntry e (orphanEffect e r w)
    | none => w.setEntry { e with orphan := true }

/-- The entries of a trial that is in the plan. -/
def Work.entriesOf (w : Work) (id : Nat) : List Entry :=
  w.fires.filter fun e => e.trial == some id && !e.orphan

/-- TRIAL_DONE (R119, R121). -/
def trialDone (l : Loop) (t : Trial) (result : TrialResult) (reason : Option FailReason) : Notice :=
  .trialDone t.id t.kind t.target result reason t.stats.count t.fails t.stats.mean t.stats.spread
    l.tracker.revolution (match t.kind with | .chute => some t.outcomes | _ => none)

/-- What completion and cancellation share: windows, entries, the plan, TRIAL_DONE, activation and the claim pass
(R119 steps 2 to 5, R121). Several windows of the trial are removed one by one in arming order, each with its
announcements (log 11). -/
def leavePlan (l : Loop) (t : Trial) (result : TrialResult) (reason : Option FailReason) (w : Work) : Work :=
  let w1 := (w.windows.filter fun x => x.trial == t.id).foldl (fun w x => removeWindow l x w) w
  let freed := (w1.entriesOf t.id).any fun e => decide (e.origin = .chuteItem) && decide (e.state = .waiting)
  let w2 := (w1.entriesOf t.id).foldl (endEntry t) w1
  let w3 := (stopPolls t { w2 with plan := w2.plan.filter fun u => u.id != t.id }).post .console .trials
    (trialDone l t result reason)
  let w4 := activate l w3
  if freed then claimPass l w4 else w4

/-- The proof that a result gives (R43). -/
def TrialResult.proof (prior : Option Proof) : TrialResult → Proof
  | .passed => .proven
  | .failed => .failed
  | .cancelled => prior.getD .unproven

/-- The proof record of a completed trial on a point (R44). -/
def proofRecord (l : Loop) (t : Trial) (result : TrialResult) (reason : Option FailReason) : ProofRecord where
  kind := t.kind
  result := result
  reason := reason
  hits := t.stats.count
  fails := t.fails
  mean := t.stats.mean
  spread := t.stats.spread
  revolution := l.tracker.revolution

/-- The belt record of a completed belt trial (R142). -/
def beltRecord (t : Trial) : BeltRecord := ⟨t.belt.achieved, t.stats.count, t.fails, t.stats.mean, t.stats.spread⟩

/-- The result is written into the target: its proof, and at completion its record (R119 step 1, R121). -/
def writeResult (l : Loop) (t : Trial) (result : TrialResult) (reason : Option FailReason) (w : Work) : Work :=
  match t.kind with
  | .belt =>
    match w.carrier t.target with
    | none => w
    | some c =>
      w.setCarrier t.target { c with
        proof := result.proof c.prior
        prior := none
        belt := if result = .cancelled then c.belt else some (beltRecord t) }
  | _ =>
    match w.point t.target with
    | none => w
    | some p =>
      w.setPoint { p with
        proof := result.proof p.prior
        prior := none
        record := if result = .cancelled then p.record else some (proofRecord l t result reason) }

/-- A trial completes, or is cancelled (R119, R121). -/
def finish (l : Loop) (t : Trial) (result : TrialResult) (reason : Option FailReason) (w : Work) : Work :=
  leavePlan l t result reason (writeResult l t result reason w)

/-! ## Counting (R117) -/

def countHit (l : Loop) (t : Trial) (d : Int) (w : Work) : Work :=
  let u := { t with streak := t.streak + 1, stats := t.stats.add d }
  if u.streak ≥ u.need then finish l u .passed none (w.setTrial u) else w.setTrial u

def countFail (l : Loop) (t : Trial) (w : Work) : Work :=
  let u := { t with fails := t.fails + 1, streak := 0 }
  if u.fails ≥ u.limit then finish l u .failed (some .failLimit) (w.setTrial u) else w.setTrial u

/-- A hit with its d, a fail, or a result that counts nothing. -/
inductive Evidence where
  | hit (d : Int)
  | fail
  | nothing
  deriving DecidableEq, Repr

/-- A result is counted only while the trial is ACTIVE (R117). -/
def count (l : Loop) (id : Nat) (x : Evidence) (w : Work) : Work :=
  match w.trial id with
  | none => w
  | some t =>
    if t.isActive then
      match x with
      | .hit d => countHit l t d w
      | .fail => countFail l t w
      | .nothing => w
    else w

/-! ## Chute items -/

/-- The count of an outcome rises by one (R128). -/
def OutcomeCounts.add (o : OutcomeCounts) : ItemOutcome → OutcomeCounts
  | .delivered => { o with delivered := o.delivered + 1 }
  | .notSeen => { o with notSeen := o.notSeen + 1 }
  | .misplaced => { o with misplaced := o.misplaced + 1 }
  | .sequenceError => { o with sequenceError := o.sequenceError + 1 }
  | .beltFault => { o with beltFault := o.beltFault + 1 }
  | .unjudged => { o with unjudged := o.unjudged + 1 }
  | .fireMissed => { o with fireMissed := o.fireMissed + 1 }
  | .withdrawn => { o with withdrawn := o.withdrawn + 1 }

/-- What an outcome counts as (R117, R127). -/
def ItemOutcome.evidence (d : Int) : ItemOutcome → Evidence
  | .delivered => .hit d
  | .notSeen => .fail
  | .misplaced => .fail
  | .sequenceError => .fail
  | .beltFault => .fail
  | .unjudged => .nothing
  | .fireMissed => .nothing
  | .withdrawn => .nothing

def Trial.item (t : Trial) (carrier : Nat) : Option Item := t.items.find? fun i => i.carrier == carrier

def Trial.setItem (t : Trial) (i : Item) : Trial :=
  { t with items := t.items.map fun j => if j.index = i.index then i else j }

/-- The item leaves its trial, and a claim pass follows when the trial is ACTIVE or the item missed its fires (R125,
R128 step 4). A trial that completed has taken the item with it. -/
def itemLeaves (l : Loop) (id index : Nat) (outcome : ItemOutcome) (w : Work) : Work :=
  match w.trial id with
  | none => if outcome = .fireMissed then claimPass l w else w
  | some t =>
    let w := w.setTrial { t with items := t.items.filter fun i => i.index != index }
    if t.isActive || decide (outcome = .fireMissed) then claimPass l w else w

/-- An item ends: its outcome is counted and it leaves (R128 steps 3 and 4). -/
def itemEnds (l : Loop) (id index : Nat) (outcome : ItemOutcome) (d : Int) (w : Work) : Work :=
  match w.trial id with
  | none => w
  | some t =>
    itemLeaves l id index outcome
      (count l id (outcome.evidence d) (w.setTrial { t with outcomes := t.outcomes.add outcome }))

/-- The outcome table of R127: the outcome and the carrier's new state. -/
def outcomeTable : ItemReply → Verdict → ItemOutcome × LoadState
  | .doneGone, .hit _ => (.delivered, .empty)
  | .doneGone, .early _ => (.misplaced, .empty)
  | .doneGone, .late _ => (.misplaced, .empty)
  | .doneGone, .miss => (.notSeen, .empty)
  | .doneGone, .cancelled => (.unjudged, .empty)
  | .doneKept, .hit _ => (.sequenceError, .fault .sequence)
  | .doneKept, .early _ => (.sequenceError, .fault .sequence)
  | .doneKept, .late _ => (.sequenceError, .fault .sequence)
  | .doneKept, .miss => (.beltFault, .fault .beltFault)
  | .doneKept, .cancelled => (.unjudged, .fault .beltFault)
  | .fault, .cancelled => (.unjudged, .fault .beltFault)
  | .fault, _ => (.beltFault, .fault .beltFault)
  | _, .hit _ => (.delivered, .empty)
  | _, .early _ => (.misplaced, .fault .noReply)
  | _, .late _ => (.misplaced, .fault .noReply)
  | _, .miss => (.notSeen, .fault .noReply)
  | _, .cancelled => (.unjudged, .fault .noReply)

/-- The d that a DELIVERED item counts, that of its entry verdict. The table gives DELIVERED at a HIT alone, so what
stands here for the other verdicts is counted by nothing (R127). -/
def Verdict.hitDev : Verdict → Int
  | .hit d => d
  | _ => 0

/-- The carrier state of R127 is applied when the carrier is still LOADED for CONSOLE (R128 step 1). -/
def applyLoad (k : Nat) (x : LoadState) (w : Work) : Work :=
  if w.loadedFor k .console then w.setLoad k x else w

/-- A FIRED item is decided (R128). -/
def decideItem (l : Loop) (id : Nat) (i : Item) (outcome : ItemOutcome) (x : LoadState) (d : Int) (w : Work) : Work :=
  let w1 := applyLoad i.carrier x w
  let w2 := match w1.entryOf i.carrier with | some e => removeEntry e w1 | none => w1
  itemEnds l id i.index outcome d w2

/-- The item's CHUTE_ENTRY window, when it is armed. -/
def Work.itemWindow (w : Work) (id index : Nat) : Option Window :=
  w.windows.find? fun x => x.trial == id && x.item == some index

/-- The item's entry window, if armed, is removed without a verdict (R111). -/
def removeItemWindow (l : Loop) (id index : Nat) (w : Work) : Work :=
  match w.itemWindow id index with
  | some x => removeWindow l x w
  | none => w

/-- The item is decided if it now holds both a reply and an entry verdict (R127). -/
def tryDecide (l : Loop) (id : Nat) (i : Item) (w : Work) : Work :=
  match i.reply, i.verdict with
  | some r, some v => decideItem l id i (outcomeTable r v).1 (outcomeTable r v).2 v.hitDev w
  | _, _ => w

/-- The report of a verdict (R105): the trial, the purpose and the item index, the sensor tag and the carrier of the
window; the verdict, with d for HIT, EARLY and LATE; the event's Xc for those three, and none for MISS and CANCELLED;
and the revolution count at the event. -/
structure VerdictReport where
  trial      : Nat
  purpose    : Purpose
  item       : Option Nat
  sensor     : Nat
  carrier    : Nat
  verdict    : Verdict
  xc         : Option Nat
  revolution : Nat
  deriving DecidableEq, Repr

/-- The report of a verdict for window `x`, with the Xc of the event that gave it, if an event did (R105). -/
def reportOf (l : Loop) (x : Window) (v : Verdict) (xc : Option Nat) : VerdictReport where
  trial := x.trial
  purpose := x.purpose
  item := x.item
  sensor := x.sensor
  carrier := x.carrier
  verdict := v
  xc := xc
  revolution := l.tracker.revolution

/-- The entry verdict reaches its item (R127); at EARLY the window is removed without a further verdict. -/
def entryVerdict (l : Loop) (r : VerdictReport) (w : Work) : Work :=
  match w.trial r.trial with
  | none => w
  | some t =>
    match t.items.find? fun i => r.item == some i.index with
    | none => w
    | some i =>
      let i := { i with verdict := some r.verdict }
      let w := w.setTrial (t.setItem i)
      tryDecide l t.id i (match r.verdict with | .early _ => removeItemWindow l t.id i.index w | _ => w)

/-- The reply or failure reaches its FIRED item (R127): FAULT decides at once. -/
def itemReply (l : Loop) (t : Trial) (i : Item) (r : ItemReply) (w : Work) : Work :=
  let i := { i with reply := some r }
  let w := w.setTrial (t.setItem i)
  match r, i.verdict with
  | .fault, none =>
    decideItem l t.id i .beltFault (.fault .beltFault) 0 (removeItemWindow l t.id i.index w)
  | _, _ => tryDecide l t.id i w

/-- The item returns to ASSIGNED: its entry window is removed and any entry verdict discarded (R126). -/
def itemReturns (l : Loop) (id carrier : Nat) (w : Work) : Work :=
  match w.trial id with
  | none => w
  | some t =>
    match t.item carrier with
    | none => w
    | some i =>
      removeItemWindow l id i.index (w.setTrial (t.setItem { i with stage := .assigned, verdict := none, reply := none }))

/-- The item of an entry that has left the list ends with FIRE_MISSED or WITHDRAWN (R126). -/
def itemGone (l : Loop) (e : Entry) (outcome : ItemOutcome) (w : Work) : Work :=
  match e.trial with
  | none => w
  | some id =>
    match (w.trial id).bind fun t => t.item e.carrier with
    | none => w
    | some i => itemEnds l id i.index outcome 0 (removeItemWindow l id i.index w)

/-! ## Verdicts -/

/-- A sensor trial's window is gone (R124). -/
def windowGone (id : Nat) (w : Work) : Work :=
  match w.trial id with
  | none => w
  | some t => w.setTrial { t with armed := none }

/-- A sensor trial that is ACTIVE and holds no window arms, from `start` or from the first carrier due (R123). -/
def rearm (l : Loop) (id : Nat) (start : Option Nat) (w : Work) : Work :=
  match w.trial id with
  | none => w
  | some t => if t.isActive && t.armed.isNone then armSensor l id start w else w

/-- The carrier after `k` (R123). -/
def Loop.nextCarrier (l : Loop) (k : Nat) : Nat := (k + 1) % l.carriers

/-- A verdict for a SENSOR_PASS window (R124). -/
def sensorVerdict (l : Loop) (r : VerdictReport) (w : Work) : Work :=
  let next := some (l.nextCarrier r.carrier)
  match r.verdict with
  | .hit d => rearm l r.trial next (count l r.trial (.hit d) (windowGone r.trial w))
  | .late _ => rearm l r.trial next (count l r.trial .fail (windowGone r.trial w))
  | .miss => rearm l r.trial next (count l r.trial .fail (windowGone r.trial w))
  | .early _ => count l r.trial .fail w
  | .cancelled => rearm l r.trial none (windowGone r.trial w)

/-- A report is handed to the trial it names, whatever the trial's state (R105). -/
def handVerdict (l : Loop) (r : VerdictReport) (w : Work) : Work :=
  match r.purpose with
  | .sensorPass => sensorVerdict l r w
  | .chuteEntry => entryVerdict l r w

/-- A window is removed with a verdict; the announcements of its removal follow the verdict (R104, log 11). -/
def endWindow (l : Loop) (v : Verdict) (xc : Option Nat) (w : Work) (order : Nat) : Work :=
  match w.window order with
  | none => w
  | some x => announceSpace l w.windows.length x (handVerdict l (reportOf l x v xc) (w.dropWindow order))

/-- The verdict of an expiry (R108). -/
def expiryVerdict (x : Window) : Verdict := if x.coasted then .cancelled else .miss

/-- A window whose close has been reached expires (R108). -/
def expireOne (l : Loop) (w : Work) (order : Nat) : Work :=
  match w.window order with
  | none => w
  | some x => endWindow l (expiryVerdict x) none w order

/-- Windows cancelled at one event, in table order (R74, R105, R110), each with its announcements before the next (log
11). `before` is the loop as the table stood. -/
def cancelWindows (before l : Loop) (p : Window → Bool) (w : Work) : Work :=
  ((tableOrder before (w.windows.filter p)).map Window.order).foldl (endWindow l .cancelled none) w

/-- Every window takes the coasted mark (R109), which keeps it from any verdict but CANCELLED (`judge`,
`expiryVerdict`). -/
def markCoasted (w : Work) : Work := { w with windows := w.windows.map fun x => { x with coasted := true } }

/-! ## Judging (R106) -/

/-- The better candidate: smaller |d|, and on equal |d| the earlier in arming order. -/
def betterCandidate (g : Geometry) (xc : Nat) (best : Option (Window × Int)) (x : Window) : Option (Window × Int) :=
  let d := signedDiff g.length xc x.xexp
  if d.natAbs > x.te + g.grace then best
  else match best with
    | none => some (x, d)
    | some (y, dy) =>
      if d.natAbs < dy.natAbs || (d.natAbs == dy.natAbs && decide (x.order < y.order)) then some (x, d)
      else some (y, dy)

/-- The window a judgeable event is judged against, with its deviation (R106). -/
def candidate (g : Geometry) (sensor xc : Nat) (w : Work) : Option (Window × Int) :=
  (w.windows.filter fun x => x.sensor == sensor).foldl (betterCandidate g xc) none

/-- A judgeable event is judged against its candidate, or is unclaimed (R98, R106). A candidate with the coasted mark takes
no verdict and stays until its close, where it ends CANCELLED (R109, R129); the event is given to no other window
(log 41). -/
def judge (l : Loop) (g : Geometry) (sensor xc : Nat) (w : Work) : Work :=
  match candidate g sensor xc w with
  | none => w
  | some (x, d) =>
    if x.coasted then w
    else match verdictOf x.te d with
    | .early d => handVerdict l (reportOf l x (.early d) (some xc)) w
    | v => endWindow l v (some xc) w x.order

end Sys2Proof.Machine
end

