-- ==== Sys2Proof/Machine/Arbiter.lean ====
section
/-! DEFINITION. Misses and the grant of a fire (R90), and the downlink arbiter of a branch (R148 to R151, R157). -/

namespace Sys2Proof.Machine

/-! ## Misses and the grant of a fire -/

/-- A jog miss is handed to its belt trial, which asks for a new entry (R140, R141). -/
def jogMissed (l : Loop) (e : Entry) (w : Work) : Work :=
  match e.trial with
  | none => w
  | some id =>
    match w.trial id with
    | none => w
    | some t => jogAdd l id (w.setTrial { t with belt := { t.belt with misses := t.belt.misses + 1 } })

/-- An entry counts a miss; the third removes it (R90). -/
def missEntry (l : Loop) (e : Entry) (w : Work) : Work :=
  let e := { e with misses := e.misses + 1, state := .waiting, requested := false }
  if e.misses < 3 then w.setEntry e
  else match e.origin with
  | .lineDischarge => endDischarge l .recirculated e w
  | .consoleDischarge => endDischarge l .recirculated e w
  | .chuteItem => itemGone l e .fireMissed (removeEntry e w)
  | .beltJog => jogMissed l e (removeEntry e w)

/-- The side of a chute (R36, R90). -/
def Work.sideOf (w : Work) (chute : Nat) : Side :=
  match w.point chute with
  | none => .left
  | some p => p.config.side.getD .left

/-- The COMMAND of a fire (R90 step 5). -/
def fireAction (w : Work) (e : Entry) : Action :=
  match e.chute with
  | some c => .discharge e.carrier (w.sideOf c)
  | none =>
    match e.trial.bind w.trial with
    | some t => .jog e.carrier (t.jogSpeed.getD 0) (t.jogTime.getD 0)
    | none => .jog e.carrier 0 0

/-- A CHUTE_ITEM's item becomes FIRED and its window is armed; a belt trial counts the jog, at every grant,
so a jog sent again after BUSY counts again (R90, R103, R126, R142, log 24). -/
def fireSent (l : Loop) (e : Entry) (w : Work) : Work :=
  match e.trial.bind w.trial with
  | none => w
  | some t =>
    match e.origin with
    | .chuteItem =>
      match t.item e.carrier, e.chute with
      | some i, some c => armEntry l c e.carrier t.id i.index (w.setTrial (t.setItem { i with stage := .fired }))
      | _, _ => w
    | .beltJog => w.setTrial { t with belt := { t.belt with sent := t.belt.sent + 1 } }
    | _ => w

/-- The position lies within the slack S past the fire point (R33). -/
def withinSlack (l : Loop) (e : Entry) : Bool :=
  match l.geometry with
  | none => false
  | some g => decide (forward g.length e.firePoint l.orderFrom ≤ g.slack)

/-- The tests of R90 at the grant: the command that leaves, or none when the grant is declined. -/
def grantFire (l : Loop) (seq : Nat) (w : Work) : Work × Option Action :=
  match w.entryAt seq with
  | none => (w, none)
  | some e =>
    if e.state = .sent || !e.requested then (w, none)
    else if skips l w e then (w.setEntry { e with requested := false }, none)
    else if withinSlack l e then
      (fireSent l e (w.setEntry { e with state := .sent, requested := false }), some (fireAction w e))
    else (missEntry l e w, none)

/-! ## The arbiter -/

/-- The requesters of COMMAND and QUERY requests, in priority order behind ACK (R148). -/
inductive Requester where
  | fire
  | drive
  | relay
  deriving DecidableEq, Repr

def Job.requester : Job → Requester
  | .fire _ => .fire
  | .setSpeed _ _ => .drive
  | .speedQuery _ _ => .drive
  | .relay _ _ _ _ _ => .relay

def Ring.queue (r : Ring) : Requester → List Req
  | .fire => r.fireq
  | .drive => r.driveq
  | .relay => r.relayq

def Ring.setQueue (r : Ring) (who : Requester) (q : List Req) : Ring :=
  match who with
  | .fire => { r with fireq := q }
  | .drive => { r with driveq := q }
  | .relay => { r with relayq := q }

/-- The waiting requests of a branch in priority and queue order (R145, R157). -/
def Ring.waiting (r : Ring) : List Req := r.fireq ++ r.driveq ++ r.relayq

/-- A request is grantable on a RUNNING branch (R148, R151). -/
def grantable (l : Loop) (br : Branch) (r : Ring) (q : Req) : Bool :=
  r.freeTag.isSome && belowLimit l br r q.job q.node

/-- The place in the queue of the oldest grantable request, the request at `skip` left out. -/
def firstGrantable (p : Req → Bool) (skip : Option Nat) : Nat → List Req → Option Nat
  | _, [] => none
  | i, q :: qs => if p q && skip != some i then some i else firstGrantable p skip (i + 1) qs

/-- What a grant chooses: an ACK, or a request by its requester and place. -/
inductive Choice where
  | ack (a : Ack)
  | req (who : Requester) (i : Nat)
  deriving DecidableEq, Repr

/-- The choice of R148 among the three requesters, the request at `skip` left out. -/
def chooseReq (p : Req → Bool) (r : Ring) (skip : Option (Requester × Nat)) : Option Choice :=
  let place (who : Requester) : Option Nat :=
    firstGrantable p (match skip with | some (x, i) => if x = who then some i else none | none => none) 0 (r.queue who)
  match place .fire, place .drive, place .relay with
  | some i, _, _ => some (.req .fire i)
  | none, some i, _ => some (.req .drive i)
  | none, none, some i => some (.req .relay i)
  | none, none, none => none

/-- The choice of R148: the ACK requester comes first. -/
def chooseGrant (p : Req → Bool) (r : Ring) : Option Choice :=
  match r.acks with
  | a :: _ => some (.ack a)
  | [] => chooseReq p r none

/-- The yield mark at a place is cleared. -/
def Ring.clearMark (r : Ring) (who : Requester) (i : Nat) : Ring :=
  r.setQueue who ((r.queue who).modify i fun q => { q with yield := false })

/-- The grant after R149: a marked request yields it once to another grantable request, and its mark is cleared. -/
def applyYield (p : Req → Bool) (r : Ring) (c : Choice) : Ring × Choice :=
  match c with
  | .ack a => (r, .ack a)
  | .req who i =>
    match (r.queue who)[i]? with
    | none => (r, c)
    | some q =>
      if q.yield then (r.clearMark who i, (chooseReq p r (some (who, i))).getD c) else (r, c)

/-- A frame goes out on the downlink, which is then not free until its end (R148). -/
def Ring.transmit (r : Ring) (f : DownFrame) : Ring := { r with downlink := some f, wire := f.bytes }

/-- A granted request takes the lowest free tag and becomes outstanding with a 10 ms deadline (R150). -/
def Ring.begin (r : Ring) (tag clock : Nat) (q : Req) (kind : FrameKind) : Ring :=
  { r with table := r.table ++ [{ tag := tag, job := q.job, node := q.node, channel := q.channel, kind := kind,
                                  attempts := q.attempts + 1, deadline := clock + 10 }] }

/-- A granted COMMAND or QUERY is sent as one frame (R150). -/
def sendFrame (l : Loop) (br : Branch) (q : Req) (kind : FrameKind) (f : Nat → DownFrame) (w : Work) : Work :=
  match (w.ring br).freeTag with
  | none => w
  | some tag => w.setRing br (((w.ring br).begin tag l.clock q kind).transmit (f tag))

/-- A zone-drive trial counts the query sent (R139), at every grant, so a query sent again after BUSY counts again (log
24). -/
def querySent (id order : Nat) (w : Work) : Work :=
  match w.trial id with
  | none => w
  | some t =>
    if t.order = order then w.setTrial { t with drive := { t.drive with sent := t.drive.sent + 1 } } else w

/-- A request that has left its queue is offered the downlink: whether the grant is used, and the core after it. -/
def offer (l : Loop) (br : Branch) (q : Req) (w : Work) : Work × Bool :=
  match q.job with
  | .fire seq =>
    match grantFire l seq w with
    | (w, none) => (w, false)
    | (w, some a) => (sendFrame l br q .command (fun tag => .command tag q.node q.channel a) w, true)
  | .setSpeed _ value =>
    (sendFrame l br q .command (fun tag => .command tag q.node q.channel (.setSpeed value)) w, true)
  | .speedQuery id order =>
    (sendFrame l br q .query (fun tag => .query tag q.node q.channel .speed) (querySent id order w), true)
  | .relay _ _ _ item _ =>
    (sendFrame l br q .query (fun tag => .query tag q.node q.channel item) w, true)

/-- An arbitration event (R148, R149): grants are made until one is used or no request is grantable. Each declined
grant takes its request away, so `fuel` above the number of waiting requests suffices. -/
def arbitrate (l : Loop) (br : Branch) : Nat → Work → Work
  | 0, w => w
  | fuel + 1, w =>
    let r := w.ring br
    if r.state ≠ .running || r.downlink.isSome then w
    else
      match chooseGrant (grantable l br r) r with
      | none => w
      | some c =>
        match applyYield (grantable l br r) r c with
        | (r, .ack a) => w.setRing br ({ r with acks := r.acks.tail }.transmit (.ack a.node a.bit))
        | (r, .req who i) =>
          match (r.queue who)[i]? with
          | none => w
          | some q =>
            match offer l br q (w.setRing br (r.setQueue who ((r.queue who).eraseIdx i))) with
            | (w, true) => w
            | (w, false) => arbitrate l br fuel w

/-- An arbitration event of the branch, if its downlink is free and it is RUNNING. -/
def arbitration (l : Loop) (br : Branch) (w : Work) : Work := arbitrate l br ((w.ring br).waiting.length + 1) w

/-- How a request or transaction ends (R134, R139, R141, R152, R153, R157). `busy` is BUSY on the fourth attempt. -/
inductive Resolution where
  | done (value : Nat) (gone : Bool)
  | fault (value : Nat)
  | refused (value : Nat)
  | busy
  | timeout
  | ringRestart
  | branchDown
  | nodeSilent
  deriving DecidableEq, Repr

/-- The request joins the end of its requester's queue. -/
def Ring.join (r : Ring) (q : Req) : Ring :=
  r.setQueue q.job.requester (r.queue q.job.requester ++ [q])

/-- A request put to the arbiter: failed at once (R157), or joined with an arbitration (R148). To a SILENT node of a
branch that is not RUNNING the failure is BRANCH_DOWN (log 39). -/
def put (l : Loop) (br : Branch) (q : Req) (w : Work) : Work × Option Resolution :=
  if (w.ring br).state ≠ .running then (w, some .branchDown)
  else if (w.ring br).nodeState q.node = .silent then (w, some .nodeSilent)
  else (arbitration l br (w.setRing br ((w.ring br).join q)), none)

/-- A new request: no attempts, no yield mark. -/
def newReq (j : Job) (node channel : Nat) : Req := ⟨j, node, channel, 0, false⟩

end Sys2Proof.Machine
end

