-- ==== Sys2Proof/Machine/Resolve.lean ====
section
/-! DEFINITION. What requests and transactions lead to at their requesters: replies and failures of fires (R91, R92,
R120, R127, R141), of SET_SPEED commands (R133, R134), of SPEED queries (R139) and of relays (R156). -/

namespace Sys2Proof.Machine

/-! ## Fires -/

/-- A discharge's carrier takes a state, unless it is in FAULT (R91, R92). -/
def settleLoad (k : Nat) (x : LoadState) (w : Work) : Work :=
  match w.carrier k with
  | none => w
  | some c => match c.load with | .fault _ => w | _ => w.setLoad k x

/-- A reply DONE or FAULT, or a failure, of a master's discharge (R91, R92). -/
def dischargeResult (l : Loop) (e : Entry) (r : ItemReply) (w : Work) : Work :=
  match r with
  | .doneGone => endDischarge l .delivered e (settleLoad e.carrier .empty w)
  | .doneKept => endDischarge l .beltFault e (settleLoad e.carrier (.fault .beltFault) w)
  | .fault => endDischarge l .beltFault e (settleLoad e.carrier (.fault .beltFault) w)
  | .timeout => endDischarge l .noReply e (settleLoad e.carrier (.fault .noReply) w)
  | .ringRestart => endDischarge l .noReply e (settleLoad e.carrier (.fault .noReply) w)

/-- |z| is within the band. -/
def inBand (band : Option Nat) (z : Int) : Bool := decide (z.natAbs ≤ band.getD 0)

/-- The achieved speed of a DONE is kept whether or not it is counted (R141). -/
def keepAchieved (id value : Nat) (w : Work) : Work :=
  match w.trial id with
  | none => w
  | some t => w.setTrial { t with belt := { t.belt with achieved := some value } }

/-- What READ_TRIAL reports of a jog's result; a result that finds the trial HELD is discarded (R141, log 24). -/
def noteJog (id : Nat) (f : BeltCounts → BeltCounts) (w : Work) : Work :=
  match w.trial id with
  | none => w
  | some t => if t.isActive then w.setTrial { t with belt := f t.belt } else w

/-- The result of a jog is counted, and the trial asks for a new entry while it is in the plan (R140, R141). -/
def jogCounted (l : Loop) (id : Nat) (f : BeltCounts → BeltCounts) (x : Evidence) (w : Work) : Work :=
  jogAdd l id (count l id x (noteJog id f w))

/-- A reply DONE of a jog: in band a hit with d, out of band a fail (R141). -/
def jogDone (l : Loop) (id value : Nat) (w : Work) : Work :=
  match w.trial id with
  | none => w
  | some t =>
    let d : Int := (value : Int) - t.jogSpeed.getD 0
    if inBand t.band d then
      jogCounted l id (fun b => { b with inBand := b.inBand + 1 }) (.hit d) (keepAchieved id value w)
    else jogCounted l id (fun b => { b with outBand := b.outBand + 1 }) .fail (keepAchieved id value w)

/-- A reply DONE or FAULT, or a failure, of a jog (R141). `value` is the achieved speed of a DONE. -/
def jogResult (l : Loop) (e : Entry) (id : Nat) (r : ItemReply) (value : Nat) (w : Work) : Work :=
  let gone := removeEntry e w
  match r with
  | .doneGone => jogDone l id value gone
  | .doneKept => jogDone l id value gone
  | .fault =>
    jogCounted l id (fun b => { b with faults := b.faults + 1 }) .fail
      (if gone.isEmptyCarrier e.carrier then gone.setLoad e.carrier (.fault .beltFault) else gone)
  | .timeout => jogCounted l id (fun b => { b with noReply := b.noReply + 1 }) .fail gone
  | .ringRestart => jogCounted l id (fun b => { b with noReply := b.noReply + 1 }) .fail gone

/-- A reply DONE or FAULT, or a failure, of a SENT entry. -/
def entryResult (l : Loop) (e : Entry) (r : ItemReply) (value : Nat) (w : Work) : Work :=
  if e.orphan then removeEntry e (orphanEffect e r w)
  else match e.origin with
  | .lineDischarge => dischargeResult l e r w
  | .consoleDischarge => dischargeResult l e r w
  | .chuteItem =>
    match e.trial.bind w.trial with
    | none => removeEntry e (orphanEffect e r w)
    | some t =>
      match t.item e.carrier with
      | none => removeEntry e (orphanEffect e r w)
      | some i => itemReply l t i r w
  | .beltJog => jogResult l e (e.trial.getD 0) r value w

/-- A discharge or item whose carrier is in FAULT(DOUBLE_LOAD) leaves the list at a reply of REFUSED or BUSY (R91,
R126). -/
def doubleLoadEnd (l : Loop) (e : Entry) (w : Work) : Work :=
  match e.origin with
  | .chuteItem =>
    itemGone l e .withdrawn (removeEntry e w)
  | .beltJog => w
  | _ => endDischarge l .cancelled e w

/-- The entry is taken out by its carrier's double load at a reply of REFUSED or BUSY. -/
def doubleLoadTakes (w : Work) (e : Entry) : Bool :=
  decide (e.origin ≠ .beltJog) && w.isDoubleLoaded e.carrier

/-- The item of a CHUTE_ITEM entry returns to ASSIGNED (R126). -/
def entryReturns (l : Loop) (e : Entry) (w : Work) : Work :=
  match e.origin, e.trial with
  | .chuteItem, some id => itemReturns l id e.carrier w
  | _, _ => w

/-- A reply of REFUSED, or of BUSY to the fourth send: a miss is counted (R91). -/
def entryRefused (l : Loop) (e : Entry) (w : Work) : Work :=
  if e.orphan then removeEntry e w
  else if doubleLoadTakes w e then doubleLoadEnd l e w
  else missEntry l e (entryReturns l e w)

/-- A reply of BUSY that returned the request: the entry is WAITING and requested again (R91, R120, R152). -/
def entryBusy (l : Loop) (e : Entry) (w : Work) : Work :=
  if e.orphan then removeEntry e w
  else if doubleLoadTakes w e then doubleLoadEnd l e w
  else entryReturns l e (w.setEntry { e with state := .waiting, requested := true })

/-- The end of a fire's request or transaction. -/
def resolveFire (l : Loop) (seq : Nat) (x : Resolution) (w : Work) : Work :=
  match w.entryAt seq with
  | none => w
  | some e =>
    match x with
    | .done value gone => entryResult l e (if gone then .doneGone else .doneKept) value w
    | .fault value => entryResult l e .fault value w
    | .timeout => entryResult l e .timeout 0 w
    | .ringRestart => entryResult l e .ringRestart 0 w
    | .refused _ => entryRefused l e w
    | .busy => entryRefused l e w
    | .branchDown => missEntry l e w
    | .nodeSilent => missEntry l e w

/-! ## Drive rows -/

def Distribution.row (d : Distribution) (tag : Nat) : Option Row := d.rows.find? fun r => r.tag == tag

/-- The state of the row with a tag changes. -/
def Distribution.setRow (d : Distribution) (tag : Nat) (x : RowState) : Distribution :=
  { d with rows := d.rows.map fun r => if r.tag = tag then { r with state := x } else r }

def Work.setRow (w : Work) (tag : Nat) (x : RowState) : Work :=
  { w with dist := w.dist.map fun d => d.setRow tag x }

def Work.row (w : Work) (tag : Nat) : Option Row := w.dist.bind fun d => d.row tag

/-- A PENDING row is commanded (R133). -/
def commandRow (l : Loop) (w : Work) (tag : Nat) : Work :=
  match w.dist, w.row tag, w.point tag with
  | some d, some r, some p =>
    if r.state = .pending then
      if l.fenced p.config.zone then w.setRow tag .withheld
      else match p.route with
      | none => w.setRow tag (.failed d.value)
      | some a =>
        match put l a.branch (newReq (.setSpeed tag d.value) a.node a.channel)
            (w.setRow tag (.sent d.value false)) with
        | (w, none) => w
        | (w, some _) => w.setRow tag (.failed d.value)
    else w
  | _, _, _ => w

/-- The PENDING rows of one event are commanded in ascending tag order (R133). -/
def commandRows (l : Loop) (tags : List Nat) (w : Work) : Work := tags.foldl (commandRow l) w

/-- The row for which a SET_SPEED was sent is resolved (R134): on the distribution's value it is ACKED or FAILED; on an
older value, or with its drive to be commanded again (R136), it is PENDING and commanded. -/
def resolveSpeed (l : Loop) (tag : Nat) (acked : Bool) (w : Work) : Work :=
  match w.dist, w.row tag with
  | some d, some r =>
    match r.state with
    | .sent v again =>
      if v = d.value && !again then w.setRow tag (if acked then .acked v else .failed v)
      else commandRow l (w.setRow tag .pending) tag
    | _ => w
  | _, _ => w

/-- A SET_SPEED returned after BUSY to a drive whose zone is fenced is withheld (R77, log 13). -/
def speedBusy (l : Loop) (tag : Nat) (w : Work) : Work :=
  if zoneFenced l w tag then (w.setRow tag .withheld).withdrawSpeed tag else w

/-! ## SPEED queries of zone-drive trials -/

/-- The zone-drive trial a query belongs to, if it is still in the plan. -/
def Work.queryTrial (w : Work) (id order : Nat) : Option Trial :=
  match w.trial id with
  | none => none
  | some t => if t.order = order then some t else none

/-- The sample of a DONE reply is in band or out of band (R139). -/
def querySample (l : Loop) (t : Trial) (value : Nat) (w : Work) : Work :=
  let d : Int := (value : Int) - l.tracker.v
  if inBand t.band d then
    count l t.id (.hit d)
      (w.setTrial { t with drive := { t.drive with inBand := t.drive.inBand + 1, last := some (value, d) } })
  else
    count l t.id .fail
      (w.setTrial { t with drive := { t.drive with outBand := t.drive.outBand + 1, last := some (value, d) } })

/-- A failed query (R139). -/
def queryFailed (l : Loop) (t : Trial) (w : Work) : Work :=
  count l t.id .fail (w.setTrial { t with drive := { t.drive with failed := t.drive.failed + 1 } })

/-- The end of a SPEED query; a result for a trial that is HELD or gone is discarded (R139). -/
def resolveQuery (l : Loop) (id order : Nat) (x : Resolution) (w : Work) : Work :=
  match w.queryTrial id order with
  | none => w
  | some t =>
    if t.isActive then
      match x with
      | .done value _ => querySample l t value w
      | _ => queryFailed l t w
    else w

/-- A query returned after BUSY for a trial that is not ACTIVE is withdrawn (R138, log 13). -/
def queryBusy (id order : Nat) (w : Work) : Work :=
  match w.queryTrial id order with
  | none => w.withdrawQuery order
  | some t => if t.isActive then w else w.withdrawQuery order

/-! ## Relays -/

/-- The outcome and value of a relay (R156). -/
def relayOutcome : Resolution → RelayOutcome × Nat
  | .done value _ => (.done, value)
  | .refused value => (.refused, value)
  | .fault value => (.fault, value)
  | .busy => (.busy, 0)
  | .timeout => (.timeout, 0)
  | .ringRestart => (.ringRestart, 0)
  | .branchDown => (.branchDown, 0)
  | .nodeSilent => (.nodeSilent, 0)

/-- A relay ends with its NODE_REPLY (R156). -/
def endRelay (link : Link) (rtag tag : Nat) (item : QueryItem) (route : Route) (x : Resolution) (w : Work) : Work :=
  w.post link .relay (.nodeReply rtag tag item route (relayOutcome x).1 (relayOutcome x).2)

/-! ## All requesters -/

def Resolution.isDone : Resolution → Bool
  | .done _ _ => true
  | _ => false

/-- A request or transaction ends, and its requester is told. -/
def resolve (l : Loop) (j : Job) (x : Resolution) (w : Work) : Work :=
  match j with
  | .fire seq => resolveFire l seq x w
  | .setSpeed tag _ => resolveSpeed l tag x.isDone w
  | .speedQuery id order => resolveQuery l id order x w
  | .relay link rtag tag item route => endRelay link rtag tag item route x w

/-- The requester is told that its request waits again (R152). -/
def returned (l : Loop) (j : Job) (w : Work) : Work :=
  match j with
  | .fire seq => match w.entryAt seq with | none => w.withdrawFire seq | some e => entryBusy l e w
  | .setSpeed tag _ => speedBusy l tag w
  | .speedQuery id order => queryBusy id order w
  | .relay _ _ _ _ _ => w

/-- A request is put to the arbiter, and its requester told when it fails at once (R157). -/
def issue (l : Loop) (br : Branch) (q : Req) (w : Work) : Work :=
  match put l br q w with
  | (w, none) => w
  | (w, some x) => resolve l q.job x w

/-! ## Entries found due (R88, R89) -/

/-- The FIRE request of an entry goes to the carrier link node, channel 0 (R89, R90). -/
def requestFire (l : Loop) (e : Entry) (w : Work) : Work :=
  match l.geometry with
  | none => w
  | some g => issue l g.linkBranch (newReq (.fire e.seq) g.linkNode 0) (w.setEntry { e with requested := true })

/-- The position reaches an entry's fire point in a pass revolution (R88), and the entry is tested (R89). -/
def foundDue (l : Loop) (pass : Int) (seq : Nat) (w : Work) : Work :=
  match w.entryAt seq with
  | none => w
  | some e =>
    if e.state = .sent || e.requested || e.lastPassed = some pass then w
    else
      let e := { e with lastPassed := some pass }
      let w := w.setEntry e
      if skips l w e then w else requestFire l e w

end Sys2Proof.Machine
end

