-- ==== Sys2Proof/Machine/Branches.lean ====
section
/-! DEFINITION. The branches and their nodes: enumeration, ring signal, announcements, replies, deadlines and the
sequence bits of events (10.2, 10.5, 10.6). -/

namespace Sys2Proof.Machine

/-- The BRANCH notice (R144). -/
def branchNotice (l : Loop) (br : Branch) (state : BranchState) (cause : BranchCause) (w : Work) : Work :=
  w.postBoth .ring (.branch br state cause (w.ring br).online
    (match l.geometry with
     | none => none
     | some g =>
       if g.linkBranch = br then some (decide ((w.ring br).nodeState g.linkNode = .online)) else none))

/-- The waiting requests that `p` holds of fail, in priority and queue order (R157). -/
def failWaiting (l : Loop) (br : Branch) (x : Resolution) (p : Req → Bool) (w : Work) : Work :=
  let r := w.ring br
  (r.waiting.filter p).foldl (fun w q => resolve l q.job x w)
    (w.setRing br { r with
      fireq := r.fireq.filter fun q => !p q
      driveq := r.driveq.filter fun q => !p q
      relayq := r.relayq.filter fun q => !p q })

/-- The transactions in ascending tag order (R145). -/
def byTag (xs : List Txn) : List Txn := sortBy (fun a b => decide (a.tag ≤ b.tag)) [] xs

/-- The start of an enumeration: the branch is ENUMERATING, its table is emptied, and the node states are kept aside
unless those of an interrupted enumeration already are (R145). -/
def Ring.startEnumeration (r : Ring) : Ring :=
  { r with state := .enumerating, table := [], kept := some (r.kept.getD (r.nodes.map Node.state)) }

/-- Steps 3 to 5 of R145: the node table is cleared, the statistics are 0, and ENUMERATE takes the downlink at once
(log 18). -/
def Ring.clearNodes (r : Ring) (clock : Nat) : Ring :=
  Ring.transmit { r with
    acks := []
    nodes := r.nodes.map fun _ => Node.initial
    stats := ⟨0, 0, 0, 0, 0⟩
    announceEnd := clock + 50 } .enumerate

/-- An enumeration begins (R145). -/
def enumerate (l : Loop) (br : Branch) (w : Work) : Work :=
  let failed := (byTag (w.ring br).table).foldl (fun w x => resolve l x.job .ringRestart w)
    (w.setRing br (w.ring br).startEnumeration)
  let w := failWaiting l br .branchDown (fun _ => true) failed
  w.setRing br ((w.ring br).clearNodes l.clock)

/-- The notice of one node at the end of an enumeration, against the state kept aside (R146). -/
def announceOutcome (was now : NodeState) : Option (NodeState × NodeCause) :=
  match was, now with
  | .online, .absent => some (.absent, .notAnnounced)
  | .silent, .absent => some (.absent, .notAnnounced)
  | .silent, .online => some (.online, .announced)
  | _, _ => none

/-- The NODE_STATE notices at the end of an enumeration, from node `n` on (R146). -/
def nodeNotices (br : Branch) : Nat → List NodeState → List NodeState → Work → Work
  | n, was :: rest, now :: more, w =>
    let w := match announceOutcome was now with
      | some (x, cause) => w.postBoth .ring (.nodeState br n x cause)
      | none => w
    nodeNotices br (n + 1) rest more w
  | _, _, _, w => w

/-- The announce period ends: the branch becomes RUNNING (R146). -/
def endAnnounce (l : Loop) (br : Branch) (w : Work) : Work :=
  let r := w.ring br
  if r.state = .enumerating then
    let w := branchNotice l br .running .enumerated (w.setRing br { r with state := .running, kept := none })
    nodeNotices br 1 (r.kept.getD []) (r.nodes.map Node.state) w
  else w

/-- Ring signal returns to a DOWN branch (R144, R145). -/
def signalReturned (l : Loop) (br : Branch) (w : Work) : Work :=
  if (w.ring br).signal then w
  else branchNotice l br .enumerating .signalReturned
    (enumerate l br (w.setRing br { w.ring br with signal := true }))

/-- The bytes of an uplink frame cut short by the loss of ring signal are a bad frame (10.1, R143). -/
def Ring.cutShort (r : Ring) : Ring :=
  if r.rx.isEmpty then r else { r with rx := [], stats := { r.stats with bad := bump r.stats.bad } }

/-- Ring signal is lost (R154). -/
def signalLost (l : Loop) (br : Branch) (w : Work) : Work :=
  let r := w.ring br
  if r.signal then
    branchNotice l br .down .signalLost
      (failWaiting l br .branchDown (fun _ => true)
        (w.setRing br { r.cutShort with state := .down, signal := false, hunting := false, acks := [] }))
  else w

/-- A change of node state is posted to both links (R146, R147, R153). -/
def nodeNotice (br : Branch) (node : Nat) (x : NodeState) (cause : NodeCause) (w : Work) : Work :=
  w.postBoth .ring (.nodeState br node x cause)

/-- A valid uplink frame of a node clears its timeout count, and makes a SILENT node ONLINE (R147). -/
def nodeHeard (br : Branch) (node : Nat) (w : Work) : Work :=
  match (w.ring br).node node with
  | none => w
  | some x =>
    if x.state = .silent then
      nodeNotice br node .online .heard
        (w.setRing br ((w.ring br).setNode node { x with state := .online, timeouts := 0 }))
    else w.setRing br ((w.ring br).setNode node { x with timeouts := 0 })

/-- A frame discarded by R143. -/
def badFrame (br : Branch) (w : Work) : Work :=
  let r := w.ring br
  w.setRing br { r with stats := { r.stats with bad := bump r.stats.bad } }

/-- The node that an ANNOUNCE makes (R146). -/
def announcedNode (f : AnnounceFields) : Node where
  state := .online
  kind := NodeKind.ofCode f.kind
  channels := f.channels
  expected := false
  timeouts := 0

/-- An ANNOUNCE is taken (R146). -/
def takeAnnounce (br : Branch) (f : AnnounceFields) (w : Work) : Work :=
  let w := nodeHeard br f.node w
  let w := w.setRing br ((w.ring br).setNode f.node (announcedNode f))
  if (w.ring br).state = .running then nodeNotice br f.node .online .announced w else w

/-- The transaction that a REPLY matches (R152). -/
def Ring.matching (r : Ring) (f : ReplyFields) : Option Txn :=
  r.table.find? fun x => x.tag == f.tag && x.node == f.node

/-- The transaction leaves the table and its tag is free. -/
def Ring.dropTxn (r : Ring) (tag : Nat) : Ring := { r with table := r.table.filter fun x => x.tag != tag }

/-- What a REPLY's status hands to the requester; BUSY is handled by its attempts. -/
def replyResolution (f : ReplyFields) : Resolution :=
  match f.status with
  | 1 => .done f.value f.loadGone
  | 2 => .busy
  | 3 => .refused f.value
  | _ => .fault f.value

/-- The request of a transaction returns to the end of its queue, marked to yield (R149, R152). -/
def Txn.request (x : Txn) : Req := ⟨x.job, x.node, x.channel, x.attempts, true⟩

/-- A REPLY is taken (R152). -/
def takeReply (l : Loop) (br : Branch) (f : ReplyFields) (w : Work) : Work :=
  let w := nodeHeard br f.node w
  let r := w.ring br
  match r.matching f with
  | none => w.setRing br { r with stats := { r.stats with orphan := bump r.stats.orphan } }
  | some x =>
    if f.status = 2 && decide (x.attempts < 4) then
      arbitration l br (returned l x.job (w.setRing br ((r.dropTxn x.tag).join x.request)))
    else resolve l x.job (replyResolution f) (w.setRing br (r.dropTxn x.tag))

/-- A timeout raises the node's count; at 3 it becomes SILENT and its waiting requests fail (R153). -/
def countTimeout (l : Loop) (br : Branch) (node : Nat) (w : Work) : Work :=
  match (w.ring br).node node with
  | none => w
  | some x =>
    if x.timeouts + 1 < 3 then w.setRing br ((w.ring br).setNode node { x with timeouts := x.timeouts + 1 })
    else if x.state = .silent then w.setRing br ((w.ring br).setNode node { x with timeouts := 3 })
    else
      failWaiting l br .nodeSilent (fun q => q.node == node)
        (nodeNotice br node .silent .timeouts
          (w.setRing br ((w.ring br).setNode node { x with state := .silent, timeouts := 3 })))

/-- The deadline of a transaction expires (R153). -/
def expireTxn (l : Loop) (br : Branch) (tag : Nat) (w : Work) : Work :=
  match (w.ring br).table.find? fun x => x.tag == tag with
  | none => w
  | some x =>
    countTimeout l br x.node (resolve l x.job .timeout (w.setRing br ((w.ring br).dropTxn tag)))

/-- The downlink becomes free at the end of a frame, and the arbiter makes a grant (R148). -/
def frameEnd (l : Loop) (br : Branch) (w : Work) : Work :=
  let r := w.ring br
  if r.downlink.isSome then arbitration l br (w.setRing br { r with downlink := none }) else w

/-- An acknowledgement joins the ACK queue, and is sent at once on a free downlink (R148, R155). -/
def queueAck (l : Loop) (br : Branch) (node : Nat) (bit : Bool) (w : Work) : Work :=
  let r := w.ring br
  arbitration l br (w.setRing br { r with acks := r.acks ++ [⟨node, bit⟩] })

def deferEvent (br : Branch) (w : Work) : Work :=
  let r := w.ring br
  w.setRing br { r with stats := { r.stats with deferred := bump r.stats.deferred } }

def unmapEvent (br : Branch) (w : Work) : Work :=
  let r := w.ring br
  w.setRing br { r with stats := { r.stats with unmapped := bump r.stats.unmapped } }

/-- An EVENT is taken by its node's sequence bit (R155); the answer says whether it is accepted. An event of an ABSENT
node that finds 32 acknowledgements waiting counts as deferred and not as unmapped: the first of the two bullets that
apply is taken (log 40). -/
def sequenceEvent (l : Loop) (br : Branch) (f : EventFields) (w : Work) : Work × Bool :=
  let r := w.ring br
  if r.state ≠ .running then (deferEvent br w, false)
  else if r.acks.length ≥ 32 then (deferEvent br w, false)
  else match r.node f.node with
  | none => (unmapEvent br w, false)
  | some x =>
    if x.state = .absent then (unmapEvent br w, false)
    else if f.seq = x.expected then
      (queueAck l br f.node f.seq (w.setRing br (r.setNode f.node { x with expected := !x.expected })), true)
    else
      (queueAck l br f.node f.seq
        (w.setRing br { r with stats := { r.stats with dup := bump r.stats.dup } }), false)

end Sys2Proof.Machine
end

