-- ==== Sys2Proof/Machine/Intake.lean ====
section
/-! DEFINITION. The event intake (7.1), the placing of loads (6.2), and the capture channels' filling (11.3). -/

namespace Sys2Proof.Machine

/-! ## Loads -/

/-- The Fire Scheduler acts on the entry of a carrier that has become FAULT(DOUBLE_LOAD) (R81). -/
def doubleLoadEntry (l : Loop) (k : Nat) (w : Work) : Work :=
  match w.entryOf k with
  | none => w
  | some e =>
    if e.state = .waiting then
      match e.origin with
      | .lineDischarge => endDischarge l .cancelled e w
      | .consoleDischarge => endDischarge l .cancelled e w
      | .chuteItem => itemGone l e .withdrawn (removeEntry e w)
      | .beltJog => w
    else w

/-- A load is handed to the Carrier Table for carrier `k` (R80, R81). -/
def placeLoad (l : Loop) (p : Point) (k : Nat) (d : Int) (ref : BitVec 32) (w : Work) : Work :=
  match w.carrier k with
  | none => w
  | some c =>
    match c.load with
    | .empty =>
      let w := (w.setLoad k (.loaded p.custody ref none)).post p.custody .carriers
        (.load k ref p.tag d l.tracker.revolution)
      match p.custody with
      | .console => claimPass l w
      | .line => w
    | .loaded owner old _ =>
      doubleLoadEntry l k ((w.setLoad k (.fault .doubleLoad)).postBoth .carriers
        (.carrierFault k .doubleLoad (some (owner, old)) ref p.tag))
    | .fault reason => w.postBoth .carriers (.carrierFault k reason none ref p.tag)

/-! ## Measuring and dispatch -/

/-- What the intake forms of a mapped event (R97). -/
structure Measure where
  age        : Nat
  stale      : Bool
  xc         : Option Nat
  attributed : Option (Nat × Int)
  deriving DecidableEq, Repr

/-- The stale test, the correction and the attribution of R97. -/
def measure (l : Loop) (p : Point) (age : Nat) : Measure :=
  let stale := isStale l.geometry age
  match l.geometry, l.tracker.pos with
  | some g, some x =>
    if !stale && l.isLocked then
      let xc := correctedPos g.length x l.tracker.v (heldAge age)
      ⟨heldAge age, stale, some xc, some (attribution g p.config.loc p.config.bias xc)⟩
    else ⟨heldAge age, stale, none, none⟩
  | _, _ => ⟨heldAge age, stale, none, none⟩

/-- The edge of an EVENT frame (10.1). -/
def EventFields.edgeOf (f : EventFields) : Edge := if f.falling then .falling else .rising

/-- The point that an event's address names (R61). -/
def eventPoint (br : Branch) (f : EventFields) (w : Work) : Option Point :=
  w.points.find? fun p =>
    p.route == some ⟨br, f.node, f.channel⟩ && (decide (p.kind = .sensor) || decide (p.kind = .induct))

/-- A SENSOR event is judged when it is judgeable (R98). -/
def sensorEvent (l : Loop) (p : Point) (m : Measure) (edge : Edge) (w : Work) : Work :=
  match l.geometry, m.xc with
  | some g, some xc =>
    if !m.stale && p.config.edge == some edge && !l.fenced p.config.zone then judge l g p.tag xc w else w
  | _, _ => w

/-- A load event is placed, or LOAD_UNPLACED goes to the induct's custody (R30, R99). -/
def inductEvent (l : Loop) (p : Point) (m : Measure) (edge : Edge) (ref : BitVec 32) (w : Work) : Work :=
  if p.config.edge != some edge || m.stale then w
  else
    match l.geometry, m.attributed with
    | some g, some (k, d) =>
      if d.natAbs ≤ effTol g.pitch p.config.tol then placeLoad l p k d ref w
      else w.post p.custody .carriers (.loadUnplaced p.tag ref .offCarrier (some (k, d)))
    | _, _ => w.post p.custody .carriers (.loadUnplaced p.tag ref .notLocked none)

/-- The dispatch of a mapped event by the kind of its point (R98, R99). -/
def dispatch (l : Loop) (p : Point) (m : Measure) (f : EventFields) (w : Work) : Work :=
  match p.kind with
  | .sensor => sensorEvent l p m (EventFields.edgeOf f) w
  | .induct => inductEvent l p m (EventFields.edgeOf f) f.ref w
  | _ => w

/-! ## Capture channels -/

/-- The record that an offer makes (R100, R159). -/
def captureRecord (l : Loop) (m : Measure) (f : EventFields) : CaptureRecord where
  revolution := l.tracker.revolution
  xc := m.xc
  attributed := m.attributed
  edge := EventFields.edgeOf f
  age := m.age
  stale := m.stale

/-- The capacity of a channel in records (R159). -/
def Channel.capacity (c : Channel) : Nat := 32 * c.count

/-- The records of HANDED halves. -/
def Half.ready (h : Half) : Nat := if h.state = .handed then h.records.length else 0

/-- A single buffer stores a record and checks its count (R161): the mode and reason, and whether it is ready. -/
def fillSingle (capacity target : Nat) (records : List CaptureRecord) : CaptureMode × Option CaptureReason × Bool :=
  if target > 0 && decide (records.length ≥ target) then (.hold, some .done, true)
  else if target = 0 && decide (records.length ≥ capacity) then (.halted, some .full, true)
  else (.accept, none, false)

/-- A half that has become full is HANDED, and the other half becomes FILLING when it is FREE (R162): the two halves in
the order given, and whether the other was free. -/
def handOver (full other : Half) : Half × Half × Bool :=
  if other.state = .free then ({ full with state := .handed }, { other with state := .filling }, true)
  else ({ full with state := .handed }, other, false)

/-- CAPTURE_READY (R165). -/
def captureReady (n : Nat) (c : Channel) (ready : Nat) (half : Option Nat) : Notice :=
  .captureReady n c.tag c.mode c.reason ready half

/-- An offer is stored in a channel in ACCEPT (R161, R162): the channel after it, and its CAPTURE_READY if any. -/
def Channel.store (n : Nat) (c : Channel) (x : CaptureRecord) : Channel × Option Notice :=
  match c.buffer with
  | .single target records =>
    let records := records ++ [x]
    match fillSingle c.capacity target records with
    | (mode, reason, ready) =>
      let c := { c with mode := mode, reason := reason, buffer := .single target records }
      (c, if ready then some (captureReady n c records.length none) else none)
  | .double a b newer =>
    if a.state = .filling then
      let a := { a with records := a.records ++ [x] }
      if a.records.length ≥ c.capacity / 2 then
        match handOver a b with
        | (a, b, free) =>
          let c := { c with mode := if free then .accept else .halted
                            reason := if free then none else some .overrun
                            buffer := .double a b false }
          (c, some (captureReady n c (a.ready + b.ready) (some 1)))
      else ({ c with buffer := .double a b newer }, none)
    else
      let b := { b with records := b.records ++ [x] }
      if b.records.length ≥ c.capacity / 2 then
        match handOver b a with
        | (b, a, free) =>
          let c := { c with mode := if free then .accept else .halted
                            reason := if free then none else some .overrun
                            buffer := .double a b true }
          (c, some (captureReady n c (a.ready + b.ready) (some 2)))
      else ({ c with buffer := .double a b newer }, none)

/-- The channel bound to a tag and in ACCEPT (R100). -/
def boundTo (tag : Nat) (c : Option Channel) : Bool :=
  match c with
  | none => false
  | some c => decide (c.mode = .accept) && c.tag == tag

/-- The intake offers the event to the channel bound to its point (R100, R161). -/
def offerCapture (tag : Nat) (x : CaptureRecord) (s : State) : State :=
  match s.channels.findIdx? (boundTo tag) with
  | none => s
  | some n =>
    match s.channels[n]? with
    | some (some c) =>
      let (c', notice) := c.store n x
      let s := { s with channels := s.channels.set n (some c') }
      match notice with
      | none => s
      | some y => s.mapWork fun w => w.post c.owner .capture y
    | _ => s

/-! ## The event -/

/-- The intake takes an accepted EVENT (R96, R97, R100). -/
def intake (br : Branch) (f : EventFields) (s : State) : State :=
  match eventPoint br f s.work with
  | none => s.mapWork (unmapEvent br)
  | some p =>
    let m := measure s.loop p f.age
    offerCapture p.tag (captureRecord s.loop m f) (s.mapWork (dispatch s.loop p m f))

/-- An EVENT that passes R143 (R147, R155). -/
def takeEvent (br : Branch) (f : EventFields) (s : State) : State :=
  let (w, accepted) := sequenceEvent s.loop br f (nodeHeard br f.node s.work)
  if accepted then intake br f { s with work := w } else { s with work := w }

end Sys2Proof.Machine
end

