-- ==== Sys2Proof/Machine/Motion.lean ====
section
/-! DEFINITION. The Position Tracker at work (Chapter 1): encoder counts, steps, the home lock, samples, and what its
events lead to in the windows, trials and fires. Logs 8, 9, 10, 28. -/

namespace Sys2Proof.Machine

/-! ## Encoder counts (R4, R5) -/

/-- The place of a pair of encoder levels in the forward order (R4). -/
def levelOf (encA encB : Bool) : Nat :=
  match encA, encB with
  | false, false => 0
  | true, false => 1
  | true, true => 2
  | false, true => 3

/-- A change of the encoder inputs as R4 classifies it. -/
inductive EncoderMove where
  | same
  | forward
  | reverse
  | illegal
  deriving DecidableEq, Repr

def classify (t : Tracker) (encA encB : Bool) : EncoderMove :=
  match (levelOf encA encB + 4 - levelOf t.encA t.encB) % 4 with
  | 1 => .forward
  | 2 => .illegal
  | 3 => .reverse
  | _ => .same

/-- One count into the accumulator: the fraction that remains and the signed whole millimetres (R5). -/
def accumulate (frac : Nat) (delta : Int) : Nat × Int :=
  ((((frac : Int) + delta) % 65536).toNat, ((frac : Int) + delta) / 65536)

/-- The position exists (R6). -/
def Lock.placed : Lock → Bool
  | .locked => true
  | .coasting => true
  | _ => false

/-- A step moves the sample in progress, the home distance and the position (R5, R6, R12). A backward step lowers a home
distance held at L + H + 1 (log 36). -/
def Tracker.step (t : Tracker) (g : Geometry) (s : Int) : Tracker :=
  let t := { t with current := t.current + s }
  match t.lock with
  | .verifying => { t with homeDist := min (t.homeDist + s) (g.length + g.homeTol + 1) }
  | .locked => { t with homeDist := t.homeDist + s, pos := t.pos.map fun x => modL g.length (x + s) }
  | .coasting => { t with homeDist := t.homeDist + s, pos := t.pos.map fun x => modL g.length (x + s) }
  | _ => t

/-- Lock is lost (R14, R15, R17): the steady flag falls with it (R10). -/
def Tracker.loseLock (t : Tracker) (x : Lock) : Tracker :=
  { t with lock := x, pos := none, homeDist := 0, coast := 0, rejected := 0, steady := false, run := 0 }

/-! ## What a change of lock state leads to (R17, R18) -/

namespace State

/-- The tracker changes. -/
def setTracker (s : State) (t : Tracker) : State := { s with loop := { s.loop with tracker := t } }

/-- A STEADY notice goes to both links (R10). -/
def postSteady (s : State) (gained : Bool) : State :=
  s.mapWork fun w => w.postBoth .steady (.steady gained s.loop.tracker.v s.loop.tracker.setpoint)

end State

/-- The neighbours' part in a change of lock state (R17): trials take their reasons, then windows are cancelled at a
loss from LOCKED or COASTING, or marked at the entry to COASTING (R109, R110, log 8). -/
def lockWork (before l : Loop) (w : Work) : Work :=
  let w := reevaluate l w
  if before.tracker.lock.placed && !l.tracker.lock.placed then cancelWindows before l (fun _ => true) w
  else if l.tracker.lock = .coasting then markCoasted w
  else w

/-- A change of lock state from `before`: LOCK, the STEADY notice of a flag that falls with the lock, and the
neighbours. -/
def lockChanged (before : Loop) (cause : LockCause) (s : State) : State :=
  let s := s.mapWork fun w =>
    w.postBoth .lock (.lock s.loop.tracker.lock s.loop.tracker.revolution cause)
  let s := if before.tracker.steady && !s.loop.tracker.steady then s.postSteady false else s
  s.mapWork (lockWork before s.loop)

/-- Lock is lost to `x`. -/
def loseLock (x : Lock) (cause : LockCause) (s : State) : State :=
  lockChanged s.loop cause (s.setTracker (s.loop.tracker.loseLock x))

/-! ## Forward moves (R6, R16, R88, R108) -/

/-- The windows whose close a forward move of `d` mm from `x` reaches, in the order of their closes along the move. -/
def reachedWindows (len x d : Nat) (ws : List Window) : List Nat :=
  (sortBy (fun a b =>
      decide (forward len x a.close < forward len x b.close) ||
      (forward len x a.close == forward len x b.close && decide (a.order ≤ b.order)))
    [] (ws.filter fun y => reaches len x d y.close)).map Window.order

/-- The entries whose fire point the move reaches, in their order along the move. -/
def reachedEntries (len x d : Nat) (es : List Entry) : List Entry :=
  sortBy (fun a b =>
      decide (forward len x a.firePoint < forward len x b.firePoint) ||
      (forward len x a.firePoint == forward len x b.firePoint && decide (a.seq ≤ b.seq)))
    [] (es.filter fun y => reaches len x d y.firePoint)

/-- A forward move of `d` mm from position `x` at home distance `a` is presented: windows expire, then entries are
found due, each in the pass revolution of its fire point (R88, logs 8, 10). The windows and entries reached are those of
the table and the list as the move begins, so one that joins at an expiry of the move is not among them (log 38). -/
def present (l : Loop) (x : Nat) (a : Int) (d : Nat) (w : Work) : Work :=
  let len := l.length
  (reachedEntries len x d w.fires).foldl
    (fun w e => foundDue l (passRevolution len l.tracker.revolution (a + forward len x e.firePoint)) e.seq w)
    ((reachedWindows len x d w.windows).foldl (expireOne l) w)

/-- A forward step beyond L + H synthesizes a home, or is the third miss (R15). -/
def checkHome (g : Geometry) (s : State) : State :=
  let t := s.loop.tracker
  if t.lock.placed && decide (t.homeDist > (g.length : Int) + g.homeTol) then
    if t.lock = .locked then
      lockChanged s.loop .homeMissed
        (s.setTracker { t with lock := .coasting, coast := 1, revolution := t.revolution + 1,
                               homeDist := t.homeDist - g.length })
    else if t.coast < 2 then
      s.setTracker { t with coast := t.coast + 1, revolution := t.revolution + 1,
                            homeDist := t.homeDist - g.length }
    else loseLock .seeking .missedHomes s
  else s

/-- The whole-millimetre step of a count: the position moves, a forward span is presented, and the home distance is
checked (R6, R15). -/
def moveBy (g : Geometry) (z : Int) (s : State) : State :=
  let t := s.loop.tracker
  let s := s.setTracker (t.step g z)
  if z > 0 then
    checkHome g (match t.pos with
      | none => s
      | some x => s.mapWork (present s.loop x t.homeDist z.toNat))
  else s

/-- A forward or reverse count is applied (R5). -/
def applyCount (g : Geometry) (delta : Int) (s : State) : State :=
  let r := accumulate s.loop.tracker.frac delta
  moveBy g r.2 (s.setTracker { s.loop.tracker with frac := r.1 })

/-- An illegal transition in VERIFYING, LOCKED or COASTING loses lock (R4, R17). -/
def illegalMove (s : State) : State :=
  match s.loop.tracker.lock with
  | .verifying => loseLock .seeking .encoderFault s
  | .locked => loseLock .seeking .encoderFault s
  | .coasting => loseLock .seeking .encoderFault s
  | _ => s

/-- A change of the encoder inputs (R4). -/
def encoderChange (encA encB : Bool) (s : State) : State :=
  let t := s.loop.tracker
  let s' := s.setTracker { t with encA := encA, encB := encB }
  match t.geometry, classify t encA encB with
  | none, _ => s'
  | some _, .same => s'
  | some g, .forward => applyCount g g.scale s'
  | some g, .reverse => applyCount g (-(g.scale : Int)) s'
  | some _, .illegal => illegalMove s'

/-! ## The home lock (R12 to R16) -/

/-- The snap of an accepted home (R16): an early home is a forward move, presented with the lock state and the
revolution count of before (log 28). -/
def snapHome (g : Geometry) (s : State) : State :=
  let t := s.loop.tracker
  let s := s.setTracker { t with pos := some 0 }
  match t.pos with
  | none => s
  | some x =>
    if t.homeDist < (g.length : Int) then
      s.mapWork (present s.loop x t.homeDist ((g.length : Int) - t.homeDist).toNat)
    else s

/-- What an accepted home stores (R13). -/
def Tracker.acceptHome (t : Tracker) (g : Geometry) : Tracker :=
  { t with correction := t.homeDist - g.length, revolution := t.revolution + 1, homeDist := 0, rejected := 0 }

/-- An accepted home in LOCKED or COASTING (R13). -/
def acceptedHome (g : Geometry) (s : State) : State :=
  let s := snapHome g s
  let t := s.loop.tracker.acceptHome g
  if t.lock = .coasting then
    lockChanged s.loop .homeRegained (s.setTracker { t with coast := 0, lock := .locked })
  else s.setTracker t

/-- A rejected home (R14). -/
def rejectedHome (s : State) : State :=
  let t := s.loop.tracker
  if t.rejected + 1 ≥ 2 then loseLock .verifying .rejectedHomes s
  else s.setTracker { t with rejected := t.rejected + 1 }

/-- A home event (R12, R13, R14). -/
def homeSeen (s : State) : State :=
  let t := s.loop.tracker
  match t.geometry with
  | none => s
  | some g =>
    match t.lock with
    | .noGeometry => s
    | .seeking => lockChanged s.loop .firstHome (s.setTracker { t with lock := .verifying, homeDist := 0 })
    | .verifying =>
      if homeWithin g t.homeDist then
        lockChanged s.loop .acquired
          (s.setTracker { t.acceptHome g with lock := .locked, pos := some 0, coast := 0 })
      else s.setTracker { t with homeDist := 0 }
    | .locked => if homeWithin g t.homeDist then acceptedHome g s else rejectedHome s
    | .coasting => if homeWithin g t.homeDist then acceptedHome g s else rejectedHome s

/-! ## The sample timer (R7 to R10) -/

/-- The sample in progress is closed, and v and the reverse flag are computed (R7). -/
def Tracker.closeSample (t : Tracker) : Tracker :=
  let samples := t.current :: t.samples.take 7
  { t with
    samples := samples
    current := 0
    reverse := decide (t.current < 0)
    v := if t.current < 0 then 0 else speedOf samples.sum }

/-- The motion state (R9). -/
def Tracker.sampleMotion (t : Tracker) : Tracker :=
  if t.v > 0 || t.reverse then { t with motion := .moving, still := 0 }
  else
    { t with still := min (t.still + 1) 250, motion := if t.still + 1 ≥ 250 then .stopped else t.motion }

/-- The steady flag and its run of good samples (R10). -/
def Tracker.sampleSteady (t : Tracker) : Tracker :=
  if t.goodSample then { t with run := min (t.run + 1) 250, steady := t.steady || decide (t.run + 1 ≥ 250) }
  else { t with run := 0, steady := false }

/-- A reverse sample loses lock (R8). -/
def reverseLoss (s : State) : State :=
  if s.loop.tracker.reverse then
    match s.loop.tracker.lock with
    | .verifying => loseLock .seeking .reverse s
    | .locked => loseLock .seeking .reverse s
    | .coasting => loseLock .seeking .reverse s
    | _ => s
  else s

/-- The steady test; a change of the flag is posted and announced (R10, R116). -/
def steadyTest (s : State) : State :=
  let was := s.loop.tracker.steady
  let s := s.setTracker s.loop.tracker.sampleSteady
  if s.loop.tracker.steady = was then s
  else (s.postSteady s.loop.tracker.steady).mapWork (reevaluate s.loop)

/-- How a recomputed fire point lies to the position (R87, log 9). -/
inductive Crossing where
  | none
  | backward
  | forward
  deriving DecidableEq, Repr

/-- The crossing of R87 from the old fire point `f0` to the new one `f1`. -/
def crossing (l : Loop) (f0 f1 : Nat) : Crossing :=
  match l.tracker.pos with
  | none => .none
  | some x =>
    if signedDiff l.length f1 f0 < 0 then
      if Sys2Proof.Machine.forward l.length f1 x < Sys2Proof.Machine.forward l.length f1 f0 then .backward else .none
    else if signedDiff l.length f1 f0 > 0 then
      if Sys2Proof.Machine.forward l.length f0 x < Sys2Proof.Machine.forward l.length f0 f1 then .forward else .none
    else .none

/-- The new fire point of an entry (R32). -/
def newFirePoint (l : Loop) (w : Work) (e : Entry) : Nat :=
  match l.geometry with
  | none => e.firePoint
  | some g => firePointOf g e.nominal (w.throwOf e.chute) l.tracker.v

/-- An entry at the recomputation: WAITING it takes its new fire point; a forward crossing of a requested entry takes
back its request and its last-passed revolution (R87). -/
def recomputeEntry (l : Loop) (w : Work) (e : Entry) : Entry :=
  if e.state = .sent then e
  else
    let f := newFirePoint l w e
    if e.requested && decide (crossing l e.firePoint f = .forward) then
      { e with firePoint := f, requested := false, lastPassed := none }
    else { e with firePoint := f }

/-- The request of an entry is withdrawn at the recomputation. -/
def takesBack (l : Loop) (w : Work) (e : Entry) : Bool :=
  decide (e.state = .waiting) && e.requested && decide (crossing l e.firePoint (newFirePoint l w e) = .forward)

/-- The fire point of an entry is carried back over the position. -/
def crossedBack (l : Loop) (w : Work) (e : Entry) : Bool :=
  decide (e.state = .waiting) && decide (crossing l e.firePoint (newFirePoint l w e) = .backward)

/-- The fire points of all WAITING entries are recomputed, and the entries carried back over the position are found due
in the order of the list as re-ordered (R87). -/
def recomputeFires (l : Loop) (w : Work) : Work :=
  let back := (w.fires.filter (crossedBack l w)).map (recomputeEntry l w)
  let w1 := ((w.fires.filter (takesBack l w)).map Entry.seq).foldl Work.withdrawFire
    { w with fires := w.fires.map (recomputeEntry l w) }
  (listOrder l back).foldl (fun w e => foundDue l l.passRevolution e.seq w) w1

/-- A belt trial that is ACTIVE and whose last add was declined asks again (R140). -/
def jogAgain (l : Loop) (w : Work) (id : Nat) : Work :=
  match w.trial id with
  | none => w
  | some t => if decide (t.kind = .belt) && t.isActive && t.jogDeclined then jogAdd l id w else w

/-- The belt trials' requests at a sample expiry (R140), in submission order (log 35). -/
def jogsAgain (l : Loop) (w : Work) : Work := (w.plan.map Trial.id).foldl (jogAgain l) w

/-- The remaining time of an ask runs in ASKED (R65). -/
def Ask.elapse (a : Ask) : Ask :=
  match a.state with
  | .asked r => { a with state := .asked (r - 4) }
  | .draining => a

/-- The time remaining of a trial runs down only while it is ACTIVE (R118). -/
def Trial.elapse (t : Trial) : Trial := if t.isActive then { t with remaining := t.remaining - 4 } else t

/-- The 4 ms of a sample pass on the clock and on the times remaining (log 6). -/
def elapse (s : State) : State :=
  { s with
    loop := { s.loop with clock := s.loop.clock + 4 }
    work := { s.work with asks := s.work.asks.map Ask.elapse, plan := s.work.plan.map Trial.elapse } }

/-- A sample expiry, in the order of log 9. -/
def sampleExpiry (s : State) : State :=
  let s := steadyTest (reverseLoss (s.setTracker s.loop.tracker.closeSample.sampleMotion))
  elapse (s.mapWork fun w => jogsAgain s.loop (recomputeFires s.loop w))

end Sys2Proof.Machine
end

