-- ==== Sys2Proof/Machine/Routing.lean ====
section
/-! DEFINITION. Route windows (Chapter 4): the route of a tag, WRITE_WINDOW and READ_WINDOW. -/

namespace Sys2Proof.Machine

/-- A window hits a tag (R55). -/
def RouteWindow.hits (x : RouteWindow) (tag : Nat) : Bool := tag - tag % maskWidth x.mask == x.base

/-- The branch of an offset and its laid-out offset (R56). -/
def layOut (mode : BranchMode) (weight : Option Nat) (offset : Nat) : Branch × Nat :=
  match mode with
  | .a => (.a, offset)
  | .b => (.b, offset)
  | .interleaved =>
    let run := weight.getD 1
    (if (offset / run) % 2 = 0 then .a else .b, (offset / (2 * run)) * run + offset % run)

/-- The address that a window which hits a tag forms; its node may exceed 126 (R56). -/
def RouteWindow.translate (x : RouteWindow) (tag : Nat) : Route :=
  let o := layOut x.mode x.weight (tag % maskWidth x.mask)
  ⟨o.1, x.nodeBase + o.2 / 16, o.2 % 16⟩

/-- The permissions a kind needs (R57). -/
def RouteWindow.allows (x : RouteWindow) : PointKind → Bool
  | .sensor => x.observe
  | .induct => x.observe
  | .zoneDrive => x.observe && x.command
  | .chute => false

/-- What the deciding window of a tag yields (R57). -/
inductive RouteOutcome where
  | routed (a : Route)
  | nodeRange
  | noPermission
  deriving DecidableEq, Repr

/-- The outcome of the deciding window of a tag (R57). A point with a node above 126 that also lacks a permission is
unrouted for its node range (log 37). -/
def RouteWindow.decide (x : RouteWindow) (tag : Nat) (k : PointKind) : RouteOutcome :=
  let a := x.translate tag
  if a.node > 126 then .nodeRange else if x.allows k then .routed a else .noPermission

/-- The number of the deciding window of a tag (R57). -/
def decidingWindow (ws : List RouteWindow) (tag : Nat) : Option Nat := ws.findIdx? fun x => x.enabled && x.hits tag

/-- What the deciding window yields for a point; none for a CHUTE and where no window hits (R57). -/
def routeOutcome (ws : List RouteWindow) (tag : Nat) (k : PointKind) : Option (Nat × RouteOutcome) :=
  if k = .chute then none
  else match decidingWindow ws tag with
  | none => none
  | some n => (ws[n]?).map fun x => (n, x.decide tag k)

/-- The route of a point (R57). -/
def routeOf (ws : List RouteWindow) (tag : Nat) (k : PointKind) : Option Route :=
  match routeOutcome ws tag k with
  | some (_, .routed a) => some a
  | _ => none

/-! ## WRITE_WINDOW -/

/-- The records with their routes under a window set (R59). -/
def reroute (ws : List RouteWindow) (ps : List Point) : List Point :=
  ps.map fun p => { p with route := routeOf ws p.tag p.kind }

/-- The first record whose route equals that of an earlier record, with that record (R59). `seen` holds the earlier
records in ascending tag order. -/
def routeConflict : List Point → List Point → Option (Nat × Nat)
  | _, [] => none
  | seen, p :: ps =>
    match seen.find? fun q => p.route.isSome && q.route == p.route with
    | some q => some (p.tag, q.tag)
    | none => routeConflict (seen ++ [p]) ps

/-- A record whose changed route would make a WRITE_WINDOW BUSY (R59). -/
def routeBusy (s : State) (p : Point) : Bool :=
  s.work.underTrial p.tag || s.work.servesTrial p.tag || captured s.channels p.tag ||
  (decide (p.kind = .zoneDrive) && s.work.dist.isSome)

/-- The records whose route changes, old beside new. -/
def changedRoutes (old new : List Point) : List (Point × Point) :=
  (old.zip new).filter fun x => x.1.route != x.2.route

/-- A digest walk in flight is marked DISTURBED (R49). -/
def disturb (s : State) : State := { s with digest := s.digest.map fun x => { x with disturbed := true } }

/-- WRITE_WINDOW (R54, R59, R60). -/
def writeWindow (f : WindowFields) (s : State) : Reply :=
  match f.check with
  | none => refuse s .invalid
  | some x =>
    let ws := s.routes.set f.number x
    let ps := reroute ws s.work.points
    let changed := changedRoutes s.work.points ps
    match routeConflict [] ps with
    | some (a, b) => ⟨s, .conflict, [.u16 a, .u16 b]⟩
    | none =>
      match changed.find? fun c => routeBusy s c.1 with
      | some c => ⟨s, .busy, [.u16 c.1.tag]⟩
      | none =>
        ok (disturb { s with routes := ws, work := { s.work with points := ps } })
          [.u16 changed.length, .u16 (changed.filter fun c => c.1.route.isNone).length,
           .u16 (changed.filter fun c => c.2.route.isNone).length]

/-- The fields of a window record (R53, log 20). -/
def RouteWindow.fields (x : RouteWindow) : List Field :=
  [flagField x.enabled, .u16 x.base, .u16 x.mask, .u8 x.mode.code] ++ optField (fun w => [.u16 w]) x.weight ++
  [.u8 x.nodeBase, .u8 ((if x.observe then 1 else 0) + (if x.command then 2 else 0))]

/-- The number of records a window decides with an outcome that `p` holds of (R63). -/
def countDecided (s : State) (n : Nat) (p : RouteOutcome → Bool) : Nat :=
  (s.work.points.filter fun q =>
    match routeOutcome s.routes q.tag q.kind with
    | some (m, o) => m == n && p o
    | none => false).length

def RouteOutcome.isRouted : RouteOutcome → Bool
  | .routed _ => true
  | _ => false

/-- READ_WINDOW (R63). -/
def readWindow (number : Nat) (s : State) : Reply :=
  match s.routes[number]? with
  | none => refuse s .invalid
  | some x =>
    ok s (x.fields ++ [.u16 (countDecided s number RouteOutcome.isRouted),
                       .u16 (countDecided s number fun o => o == .nodeRange),
                       .u16 (countDecided s number fun o => o == .noPermission)])

/-! ## Meanings -/

def execWriteWindow (rtag : Nat) (f : WindowFields) (s : State) : Outcome :=
  .next (serve .console rtag (.writeWindow f) (writeWindow f) s)

def execReadWindow (k : Link) (rtag number : Nat) (s : State) : Outcome :=
  .next (serve k rtag (.readWindow number) (readWindow number) s)

end Sys2Proof.Machine
end

