-- ==== Sys2Proof/Machine/Register.lean ====
section
/-! DEFINITION. The point register (Chapter 3): writing, removing, reading, and the digest. -/

namespace Sys2Proof.Machine

/-! ## Writing -/

/-- Below this a location must lie (R39). -/
def locationLimit (s : State) : Nat :=
  match s.loop.geometry with
  | none => 600000
  | some g => g.length

/-- A CHUTE's entry tag names a SENSOR record (R39). -/
def entryOk (w : Work) (k : PointKind) (c : PointConfig) : Bool :=
  match k, c.entry with
  | .chute, some e =>
    match w.point e with
    | some p => decide (p.kind = .sensor)
    | none => false
  | _, _ => true

/-- A fire list entry names the point as its chute (R40). -/
def Work.fireNames (w : Work) (tag : Nat) : Bool := w.fires.any fun e => e.chute == some tag

/-- What makes a replacement BUSY (R40). -/
def editBusy (s : State) (p : Point) : Bool :=
  s.work.underTrial p.tag || s.work.servesTrial p.tag || s.work.fireNames p.tag || captured s.channels p.tag ||
  (decide (p.kind = .zoneDrive) && s.work.dist.isSome)

/-- A record as WRITE_POINT creates it (R38, R39). -/
def newPoint (tag : Nat) (k : PointKind) (c : PointConfig) (route : Option Route) : Point where
  tag := tag
  kind := k
  config := c
  route := route
  custody := .console
  service := .outOfService
  proof := .unproven
  record := none
  prior := none

/-- A record joins at the place its tag gives (R37). -/
def insertPoint (p : Point) : List Point → List Point
  | [] => [p]
  | q :: qs => if p.tag < q.tag then p :: q :: qs else q :: insertPoint p qs

/-- A creation (R39), with the indication "created", code 1 (log 21). -/
def createPoint (tag : Nat) (k : PointKind) (c : PointConfig) (s : State) : Reply :=
  if s.work.points.length ≥ 2048 then refuse s .full
  else
    let route := routeOf s.routes tag k
    if route.isSome && s.work.points.any (fun p => p.route == route) then refuse s .conflict
    else
      ok (disturb (s.mapWork fun w => { w with points := insertPoint (newPoint tag k c route) w.points }))
        (.u8 1 :: optField Route.fields route)

/-- A replacement (R40), with the indication "replaced", code 2, or "unchanged", code 3 (log 21). -/
def replacePoint (k : PointKind) (c : PointConfig) (p : Point) (s : State) : Reply :=
  if k ≠ p.kind then refuse s .invalid
  else if p.custody = .line then refuse s .custody
  else if editBusy s p then refuse s .busy
  else if c = p.config then ok (disturb s) [.u8 3]
  else
    ok (disturb (s.mapWork fun w => w.setPoint { p with config := c, proof := .unproven, record := none, prior := none }))
    [.u8 2]

/-- WRITE_POINT (R39, R40). -/
def writePoint (f : PointFields) (s : State) : Reply :=
  match f.check (locationLimit s) with
  | none => refuse s .invalid
  | some (k, c) =>
    if entryOk s.work k c then
      match s.work.point f.tag with
      | none => createPoint f.tag k c s
      | some p => replacePoint k c p s
    else refuse s .invalid

/-- The point is the entry tag of a CHUTE in the register (R41). -/
def Work.isEntry (w : Work) (tag : Nat) : Bool :=
  w.points.any fun p => decide (p.kind = .chute) && p.config.entry == some tag

/-- DELETE_POINT (R41). -/
def deletePoint (tag : Nat) (s : State) : Reply :=
  match s.work.point tag with
  | none => refuse s .notFound
  | some p =>
    if p.custody = .line then refuse s .custody
    else if editBusy s p || s.work.isEntry tag then refuse s .busy
    else ok (disturb (s.mapWork fun w => { w with points := w.points.filter fun q => q.tag != tag }))

/-- A capture channel is in ACCEPT (R42). -/
def anyAccept (cs : List (Option Channel)) : Bool :=
  cs.any fun c => match c with | none => false | some c => decide (c.mode = .accept)

/-- CLEAR_REGISTER (R42). -/
def clearRegister (s : State) : Reply :=
  if !s.work.plan.isEmpty || !s.work.fires.isEmpty || !s.work.asks.isEmpty || anyAccept s.channels ||
     s.work.dist.isSome then refuse s .busy
  else ok (disturb (s.mapWork fun w => { w with points := [] })) [.u16 s.work.points.length]

/-! ## Reading -/

/-- The fields of a proof record (R44, log 20). -/
def ProofRecord.fields (r : ProofRecord) : List Field :=
  [.u8 r.kind.code, .u8 r.result.code] ++ optField (fun x => [.u8 x.code]) r.reason ++
  [.u16 r.hits, .u16 r.fails, .s16 r.mean, .u16 r.spread, .u32 r.revolution]

/-- The effective tolerance that is reported, for SENSOR and INDUCT points (R45). For a CHUTE or a ZONE_DRIVE it is left
out without a presence byte (log 20). -/
def reportedTol (l : Loop) (p : Point) : List Field :=
  let te := optField (fun (g : Geometry) => [.u16 (effTol g.pitch p.config.tol)]) l.geometry
  match p.kind with
  | .sensor => te
  | .induct => te
  | _ => []

/-- The content of a record as it is reported (R45), with the fence state directly behind the zone (R73, log 20). -/
def pointFields (l : Loop) (p : Point) : List Field :=
  [.u16 p.tag, .u8 p.kind.code, .u32 p.config.loc, .s16 p.config.bias, .u16 p.config.tol, .u8 p.config.zone,
   .u8 (fenceCode (l.fenced p.config.zone))] ++
  optField (fun e => [.u8 e.code]) p.config.edge ++ optField (fun t => [.u16 t]) p.config.entry ++
  optField (fun t => [.u16 t]) p.config.throw ++ optField (fun x => [.u8 x.code]) p.config.side ++
  optField Route.fields p.route ++
  [.u8 (Link.code p.custody), .u8 p.service.code, .u8 p.proof.code] ++
  optField (fun x => [.u8 x.code]) p.prior ++ optField ProofRecord.fields p.record ++ reportedTol l p

/-- READ_POINT (R45). -/
def readPoint (tag : Nat) (s : State) : Reply :=
  match s.work.point tag with
  | none => refuse s .notFound
  | some p => ok s (pointFields s.loop p)

/-- A record matches a filter that is present (R46). -/
def filterOk {α : Type} [DecidableEq α] (want : Option α) (x : α) : Bool :=
  match want with
  | none => true
  | some y => decide (y = x)

/-- The records of the list, from the start tag on (R46). -/
def listMatches (start : Nat) (q : ListFilter) (ps : List Point) : List Point :=
  ps.filter fun p =>
    decide (start ≤ p.tag) && filterOk q.kind p.kind && filterOk q.custody p.custody && filterOk q.proof p.proof

/-- LIST_POINTS (R46). -/
def listPoints (f : ListFields) (s : State) : Reply :=
  match f.check with
  | none => refuse s .invalid
  | some q =>
    let found := listMatches f.start q s.work.points
    ok s ((found.take f.count).flatMap (pointFields s.loop) ++
      optField (fun (p : Point) => [.u16 p.tag]) (found.drop f.count).head?)

/-! ## The digest -/

/-- One word into the sums (R47). -/
def digestWord (x : Nat × Nat) (w : Nat) : Nat × Nat :=
  let a := (x.1 + w) % 65535
  (a, (x.2 + a) % 65535)

def digestSums (ws : List Nat) : Nat × Nat := ws.foldl digestWord (0, 0)

/-- The nine words of a point (R47). -/
def pointWords (p : Point) : List Nat :=
  [p.tag, p.kind.code, p.config.loc % 65536, p.config.loc / 65536, (p.config.bias + 32768).toNat, p.config.tol,
   p.config.zone * 4 + (match p.config.edge, p.config.side with
     | some e, _ => e.code
     | none, some x => x.code
     | none, none => 0),
   p.config.entry.getD 0, p.config.throw.getD 0]

/-- The seven words of a route window (R47). -/
def windowWords (x : RouteWindow) : List Nat :=
  [if x.enabled then 1 else 0, x.base, x.mask % 65536, x.mode.code, x.weight.getD 0, x.nodeBase,
   (if x.observe then 1 else 0) + (if x.command then 2 else 0)]

/-- The sequence of words of a configuration (R47). -/
def configWords (ps : List Point) (ws : List RouteWindow) : List Nat := ps.flatMap pointWords ++ ws.flatMap windowWords

/-- The link waits for the walk. -/
def Walk.waits (x : Walk) : Link → Bool
  | .line => x.line
  | .console => x.console

def Walk.setWaiter (x : Walk) (k : Link) (v : Bool) : Walk :=
  match k with
  | .line => { x with line := v }
  | .console => { x with console := v }

/-- The walk that begins now (R48, R49). -/
def newWalk (s : State) (k : Link) : Walk :=
  let sums := digestSums (configWords s.work.points s.routes)
  { a := sums.1, b := sums.2, count := s.work.points.length, disturbed := false,
    line := decide (k = .line), console := decide (k = .console) }

/-- DIGEST (R48). -/
def digestRequest (k : Link) (s : State) : Reply :=
  match s.digest with
  | none => ⟨{ s with digest := some (newWalk s k) }, .accepted, []⟩
  | some x =>
    if x.waits k then refuse s .busy
    else ⟨{ s with digest := some (x.setWaiter k true) }, .accepted, []⟩

/-- DIGEST_DONE to a link that waits (R50). -/
def digestNotice (x : Walk) (k : Link) (w : Work) : Work :=
  if x.waits k then w.post k .digest (.digestDone x.a x.b x.count x.disturbed) else w

/-- The walk completes (R50, R51). -/
def endWalk (s : State) : State :=
  match s.digest with
  | none => s
  | some x => { s with digest := none, work := digestNotice x .console (digestNotice x .line s.work) }

/-! ## Meanings -/

def execWritePoint (rtag : Nat) (f : PointFields) (s : State) : Outcome :=
  .next (serve .console rtag (.writePoint f) (writePoint f) s)

def execDeletePoint (rtag tag : Nat) (s : State) : Outcome :=
  .next (serve .console rtag (.deletePoint tag) (deletePoint tag) s)

def execClearRegister (rtag : Nat) (s : State) : Outcome :=
  .next (serve .console rtag .clearRegister clearRegister s)

def execReadPoint (k : Link) (rtag tag : Nat) (s : State) : Outcome :=
  .next (serve k rtag (.readPoint tag) (readPoint tag) s)

def execListPoints (k : Link) (rtag : Nat) (f : ListFields) (s : State) : Outcome :=
  .next (serve k rtag (.listPoints f) (listPoints f) s)

def execDigest (k : Link) (rtag : Nat) (s : State) : Outcome :=
  .next (serve k rtag .digest (digestRequest k) s)

/-- DIGEST_WALK_COMPLETE: without a walk in flight there is none to complete (log 3). -/
def execDigestWalkComplete (s : State) : Outcome := .next (endWalk s).settle

end Sys2Proof.Machine
end

