-- ==== Sys2Proof/Machine/Tracking.lean ====
section
/-! DEFINITION. The commands of the Position Tracker: LOAD_GEOMETRY, READ_TRACKER, the encoder, the home sensor and the
sample timer (Chapter 1). -/

namespace Sys2Proof.Machine

/-- The BUSY conditions of a geometry load (R2). -/
def loadBusy (s : State) : Bool :=
  !s.work.plan.isEmpty || !s.work.fires.isEmpty ||
  !(decide (s.loop.tracker.lock = .noGeometry) || decide (s.loop.tracker.motion = .stopped))

/-- The tracker after an accepted load (R3). -/
def Tracker.load (t : Tracker) (g : Geometry) : Tracker :=
  { t with
    geometry := some g, lock := .seeking, pos := none, revolution := 0, homeDist := 0, coast := 0, rejected := 0,
    correction := 0, frac := 0, samples := [0, 0, 0, 0, 0, 0, 0, 0], steady := false, run := 0 }

/-- A carrier of a rebuilt table (R3). -/
def newCarrier : Carrier where
  load := .empty
  proof := .unproven
  prior := none
  belt := none

/-- An accepted load (R3). -/
def applyGeometry (g : Geometry) (s : State) : State :=
  lockChanged s.loop .geometry
    ((s.setTracker (s.loop.tracker.load g)).mapWork fun w =>
      { w with carriers := List.replicate g.carriers newCarrier, windows := [] })

/-- LOAD_GEOMETRY (R1, R2, R3). -/
def loadGeometry (f : GeometryFields) (s : State) : Reply :=
  match f.check with
  | none => refuse s .invalid
  | some g =>
    if loadBusy s then refuse s .busy
    else if s.work.points.any (fun p => decide (p.config.loc ≥ g.length)) then refuse s .invalid
    else ok (applyGeometry g s)

/-- The geometry record as it is reported (R19, log 20). -/
def Geometry.fields (g : Geometry) : List Field :=
  [.u32 g.length, .u16 g.carriers, .u16 g.pitch, .u32 g.scale, .u16 g.homeTol, .u16 g.grace, .u16 g.slack,
   .u16 g.latency, .u16 g.vmax, .u32 g.jog, .u8 (Branch.code g.linkBranch), .u8 g.linkNode, .u16 g.maxAge]

/-- The home distance is present in VERIFYING, LOCKED and COASTING (R19). -/
def Tracker.reportedHome (t : Tracker) : Option Int :=
  match t.lock with
  | .noGeometry => none
  | .seeking => none
  | .verifying => some t.homeDist
  | .locked => some t.homeDist
  | .coasting => some t.homeDist

/-- What READ_TRACKER reports (R19); the home distance takes 4 bytes and is signed (log 20). -/
def Tracker.fields (t : Tracker) : List Field :=
  optField Geometry.fields t.geometry ++ [.u8 t.lock.code] ++ optField (fun x => [.u32 x]) t.pos ++
  optField (fun a => [.s32 a]) t.reportedHome ++
  [.u32 t.revolution, .u16 t.coast, .u16 t.rejected, .s16 t.correction, .u16 t.v, flagField t.reverse,
   .u8 t.motion.code, flagField t.steady, .u16 t.setpoint]

/-- READ_TRACKER (R19). -/
def readTracker (s : State) : Reply := ok s s.loop.tracker.fields

/-! ## Meanings -/

def execLoadGeometry (rtag : Nat) (f : GeometryFields) (s : State) : Outcome :=
  .next (serve .console rtag (.loadGeometry f) (loadGeometry f) s)

def execReadTracker (k : Link) (rtag : Nat) (s : State) : Outcome :=
  .next (serve k rtag .readTracker readTracker s)

/-- ENCODER_EVENT (R4, R5, R6). -/
def execEncoderEvent (encA encB : Bool) (s : State) : Outcome := .next (encoderChange encA encB s).settle

/-- HOME_EVENT (R12 to R16). -/
def execHomeEvent (s : State) : Outcome := .next (homeSeen s).settle

/-- SAMPLE_TIMER_EXPIRY (R7 to R10, R87). -/
def execSampleTimerExpiry (s : State) : Outcome := .next (sampleExpiry s).settle

end Sys2Proof.Machine
end

