-- ==== Sys2Proof/Machine/Custody.lean ====
section
/-! DEFINITION. Custody and fencing (Chapter 5): handover of points, service, and the zone lines. -/

namespace Sys2Proof.Machine

/-! ## Handover -/

/-- Custody passes to the console, out of service (R64). -/
def Work.passToConsole (w : Work) (p : Point) : Work :=
  w.setPoint { p with custody := .console, service := .outOfService }

/-- An ask opens at the end of the table (R66). -/
def openAsk (p : Point) (w : Work) : Work :=
  Work.post { w with asks := w.asks ++ [⟨p.tag, .asked 30000⟩] } .line .custody (.custodyAsk p.tag p.kind 30000)

/-- TAKE (R66). -/
def takePoint (tag : Nat) (s : State) : Reply :=
  match s.work.point tag with
  | none => refuse s .notFound
  | some p =>
    if p.custody = .console then ok s
    else if (s.work.ask tag).isSome then refuse s .busy
    else if p.service = .outOfService then
      if s.work.lineFires tag > 0 then refuse s .busy else ok (s.mapWork fun w => w.passToConsole p)
    else if s.work.asks.length ≥ 16 then refuse s .full
    else ⟨s.mapWork (openAsk p), .accepted, []⟩

/-- The answer of KEEP (R67). -/
def keepPoint (tag : Nat) (s : State) : Reply :=
  ok (s.mapWork fun w => (w.closeAsk tag).post .console .custody (.custodyDone tag false (some .kept)))

/-- The ask enters DRAINING (R67). -/
def Work.startDraining (w : Work) (tag : Nat) : Work :=
  { w with asks := w.asks.map fun a => if a.tag = tag then { a with state := .draining } else a }

/-- The answer of RELEASE (R67). -/
def releasePoint (p : Point) (s : State) : Reply :=
  let n := s.work.lineFires p.tag
  if n = 0 then
    ok (s.mapWork fun w =>
      ((w.passToConsole p).closeAsk p.tag).post .console .custody (.custodyDone p.tag true none)) [.u16 0]
  else ok (s.mapWork fun w => (w.setPoint { p with service := .outOfService }).startDraining p.tag) [.u16 n]

/-- ANSWER_ASK (R67): RELEASE 1, KEEP 2. -/
def answerAsk (tag answer : Nat) (s : State) : Reply :=
  if !within 1 2 answer then refuse s .invalid
  else match s.work.ask tag with
  | none => refuse s .notFound
  | some a =>
    if a.state = .draining then refuse s .busy
    else if answer = 2 then keepPoint tag s
    else match s.work.point tag with
    | none => refuse s .notFound
    | some p => releasePoint p s

/-- The time of an ask in ASKED expires (R69). -/
def expireAsk (tag : Nat) (w : Work) : Work :=
  match w.ask tag with
  | none => w
  | some a =>
    match a.state with
    | .asked _ => (w.closeAsk tag).post .console .custody (.custodyDone tag false (some .timeout))
    | .draining => w

/-- A fire of owner CONSOLE names the point as its chute (R71). -/
def Work.consoleFires (w : Work) (tag : Nat) : Bool :=
  w.fires.any fun e => e.owner == .console && e.chute == some tag

/-- GIVE_BACK (R71). -/
def giveBack (tag : Nat) (s : State) : Reply :=
  match s.work.point tag with
  | none => refuse s .notFound
  | some p =>
    if p.custody = .line then refuse s .custody
    else if s.work.underTrial tag || s.work.consoleFires tag then refuse s .busy
    else ok (s.mapWork fun w =>
      (w.setPoint { p with custody := .line, service := .outOfService }).post .line .custody
        (.custodyReturned tag p.kind p.proof))

/-- SET_SERVICE (R72). -/
def setService (tag service : Nat) (s : State) : Reply :=
  match Service.ofCode service with
  | none => refuse s .invalid
  | some x =>
    match s.work.point tag with
    | none => refuse s .notFound
    | some p =>
      if p.custody = .console then refuse s .custody
      else if (s.work.ask tag).isSome then refuse s .busy
      else if x = .inService && decide (p.proof ≠ .proven) then refuse s .notProven
      else ok (s.mapWork fun w => w.setPoint { p with service := x })

/-! ## Fencing -/

/-- The ZONE_DRIVE points of a zone, in ascending tag order. -/
def Work.drivesIn (w : Work) (zone : Nat) : List Nat :=
  (w.points.filter fun p => decide (p.kind = .zoneDrive) && p.config.zone == zone).map Point.tag

/-- The row's request is waiting for a grant. -/
def Work.speedWaits (w : Work) (tag : Nat) : Bool :=
  w.waits fun j => match j with | .setSpeed t _ => t == tag | _ => false

/-- A row of a drive whose zone is fenced (R136). -/
def fenceRow (w : Work) (tag : Nat) : Work :=
  match w.row tag with
  | none => w
  | some r =>
    match r.state with
    | .pending => w.setRow tag .withheld
    | .sent _ _ => if w.speedWaits tag then (w.setRow tag .withheld).withdrawSpeed tag else w
    | _ => w

/-- A row joins in ascending tag order (R131). -/
def insertRow (r : Row) : List Row → List Row
  | [] => [r]
  | q :: qs => if r.tag < q.tag then r :: q :: qs else q :: insertRow r qs

/-- The row of a drive whose zone is unfenced, in a distribution in flight (R136). A command on the field is marked to
be commanded again (log 12); a request still waiting is withdrawn and issued anew. -/
def unfenceRow (w : Work) (tag : Nat) : Work :=
  match w.dist, w.row tag with
  | some d, none => { w with dist := some { d with rows := insertRow ⟨tag, .pending⟩ d.rows } }
  | some _, some r =>
    match r.state with
    | .sent v _ =>
      if w.speedWaits tag then (w.setRow tag .pending).withdrawSpeed tag else w.setRow tag (.sent v true)
    | _ => w.setRow tag .pending
  | none, _ => w

/-- The Drive Supervisor at an unfence (R136). -/
def unfenceDrives (l : Loop) (zone : Nat) (w : Work) : Work :=
  let tags := w.drivesIn zone
  match w.dist with
  | some _ => commandRows l tags (tags.foldl unfenceRow w)
  | none =>
    commandRows l tags { w with
      dist := some { value := l.tracker.setpoint, cause := .unfence, rows := tags.map fun t => ⟨t, .pending⟩ } }

/-- The window's sensor is a point in the zone (R74). -/
def sensorIn (w : Work) (zone : Nat) (x : Window) : Bool :=
  match w.point x.sensor with
  | none => false
  | some p => p.config.zone == zone

/-- The neighbours at a fence: trials, then windows, then drives (R74 to R77, R136, log 8). -/
def fenceWork (l : Loop) (zone : Nat) (w : Work) : Work :=
  let w := reevaluate l w
  let w := cancelWindows l l (sensorIn w zone) w
  (w.drivesIn zone).foldl fenceRow w

/-- The fence state of a zone changes, and FENCE goes to both links (R73). -/
def setFence (zone : Nat) (stop : Bool) (s : State) : State :=
  let bit : BitVec 8 := 1#8 <<< zone
  let fences := if stop then s.loop.fences ||| bit else s.loop.fences &&& ~~~bit
  { s with
    loop := { s.loop with fences := fences }
    work := s.work.postBoth .custody (.fence zone stop fences) }

/-- A zone line changes from RUN to STOP (R73 to R77). -/
def fenceZone (zone : Nat) (s : State) : State :=
  if s.loop.fenced zone then s
  else
    let s := setFence zone true s
    s.mapWork (fenceWork s.loop zone)

/-- A zone line changes from STOP to RUN (R78, R136). -/
def unfenceZone (zone : Nat) (s : State) : State :=
  if s.loop.fenced zone then
    let s := setFence zone false s
    s.mapWork fun w => unfenceDrives s.loop zone (reevaluate s.loop w)
  else s

/-! ## Meanings -/

def execTake (rtag tag : Nat) (s : State) : Outcome :=
  .next (serve .console rtag (.take tag) (takePoint tag) s)

def execGiveBack (rtag tag : Nat) (s : State) : Outcome :=
  .next (serve .console rtag (.giveBack tag) (giveBack tag) s)

def execSetService (rtag tag service : Nat) (s : State) : Outcome :=
  .next (serve .line rtag (.setService tag service) (setService tag service) s)

def execAnswerAsk (rtag tag answer : Nat) (s : State) : Outcome :=
  .next (serve .line rtag (.answerAsk tag answer) (answerAsk tag answer) s)

/-- ASK_TIMER_EXPIRY (R69). -/
def execAskTimerExpiry (tag : Nat) (s : State) : Outcome := .next (s.mapWork (expireAsk tag)).settle

/-- ZONE_FENCED (R73 to R77). -/
def execZoneFenced (zone : Fin 8) (s : State) : Outcome := .next (fenceZone zone.val s).settle

/-- ZONE_UNFENCED (R73, R78). -/
def execZoneUnfenced (zone : Fin 8) (s : State) : Outcome := .next (unfenceZone zone.val s).settle

end Sys2Proof.Machine
end

