-- ==== Sys2Proof/Machine/Carriers.lean ====
section
/-! DEFINITION. The requests on carriers and the fire list (Chapter 6). -/

namespace Sys2Proof.Machine

/-- A carrier 0..N−1 of the loaded geometry. -/
def carrierOk (g : Geometry) (k : Nat) : Bool := decide (k < g.carriers)

/-- The chute may take discharges of master `m` (R85 step 7). -/
def chuteOpen (m : Link) (p : Point) : Bool :=
  match m with
  | .line => decide (p.custody = .line) && decide (p.service = .inService)
  | .console => decide (p.custody = .console)

def originFor : Link → Origin
  | .line => .lineDischarge
  | .console => .consoleDischarge

/-- DISCHARGE (R85). -/
def discharge (m : Link) (k chute : Nat) (s : State) : Reply :=
  match s.loop.geometry with
  | none => refuse s .noGeometry
  | some g =>
    if !carrierOk g k then refuse s .invalid
    else match s.work.point chute with
    | none => refuse s .notFound
    | some p =>
      if p.kind ≠ .chute then refuse s .invalid
      else if !s.work.loadedFor k m then refuse s .custody
      else if (s.work.entryOf k).isSome then refuse s .busy
      else if !chuteOpen m p then refuse s .custody
      else match addEntry s.loop k (some chute) (originFor m) m none s.work with
      | none => refuse s .full
      | some w =>
        let e := newEntry s.loop s.work g k (some chute) (originFor m) m none
        ok { s with work := w } [.u32 e.nominal, .u32 e.firePoint]

/-- CANCEL_DISCHARGE (R93). -/
def cancelDischarge (m : Link) (k : Nat) (s : State) : Reply :=
  match s.loop.geometry with
  | none => refuse s .noGeometry
  | some g =>
    if !carrierOk g k then refuse s .invalid
    else match s.work.entryOf k with
    | none => refuse s .notFound
    | some e =>
      if e.origin = .chuteItem || decide (e.origin = .beltJog) then refuse s .invalid
      else if e.owner ≠ m then refuse s .custody
      else if e.state = .sent then refuse s .busy
      else ok (s.mapWork (endDischarge s.loop .cancelled e))

/-- The plan holds a belt trial on the carrier (R82). -/
def Work.beltTrial (w : Work) (k : Nat) : Bool :=
  w.plan.any fun t => decide (t.kind = .belt) && t.target == k

/-- A WAITING entry of a carrier that is cleared is removed first (R82). -/
def clearEntry (l : Loop) (k : Nat) (w : Work) : Work :=
  match w.entryOf k with
  | none => w
  | some e =>
    match e.origin with
    | .lineDischarge => endDischarge l .cancelled e w
    | .consoleDischarge => endDischarge l .cancelled e w
    | .chuteItem => itemGone l e .withdrawn (removeEntry e (w.setLoad k .empty))
    | .beltJog => removeEntry e w

/-- The load state and fault reason of a carrier (R82, R79). -/
def LoadState.reason : LoadState → Option CarrierFault
  | .fault r => some r
  | _ => none

/-- CLEAR_CARRIER (R82). -/
def clearCarrier (k : Nat) (s : State) : Reply :=
  match s.loop.geometry with
  | none => refuse s .noGeometry
  | some g =>
    match s.work.carrier k with
    | none => refuse s .invalid
    | some c =>
      if !carrierOk g k then refuse s .invalid
      else if (s.work.entryOf k).any (fun e => decide (e.state = .sent)) || s.work.beltTrial k then refuse s .busy
      else
        ok (s.mapWork fun w => (clearEntry s.loop k w).setLoad k .empty)
          (.u8 c.load.code :: optField (fun r => [.u8 r.code]) c.load.reason)

/-- The fields of a load state, in the order of R79. -/
def LoadState.fields : LoadState → List Field
  | .empty => [.u8 1, .u8 0, .u8 0, .u8 0, .u8 0]
  | .loaded owner ref dest =>
    [.u8 2, .u8 1, .u8 (Link.code owner), .u8 1, refField ref] ++ optField (fun d => [.u16 d]) dest ++ [.u8 0]
  | .fault r => [.u8 3, .u8 0, .u8 0, .u8 0, .u8 1, .u8 r.code]

/-- The belt record as it is reported (R79). -/
def BeltRecord.fields (b : BeltRecord) : List Field :=
  optField (fun v => [.u16 v]) b.achieved ++ [.u16 b.hits, .u16 b.fails, .s16 b.mean, .u16 b.spread]

/-- The fields of an entry (R84, log 20). -/
def Entry.fields (e : Entry) : List Field :=
  [.u16 e.carrier] ++ optField (fun t => [.u16 t]) e.chute ++ [.u8 e.origin.code, .u8 (Link.code e.owner)] ++
  optField (fun t => [.u8 t]) e.trial ++ [.u32 e.nominal, .u32 e.firePoint, .u16 e.misses, .u8 e.state.code] ++
  optField (fun r => [flagField r]) (if e.state = .waiting then some e.requested else none) ++
  optField (fun r => [.s32 r]) e.lastPassed

/-- READ_CARRIER (R83). The fields of the belt record share one presence byte, and so do the fields of the entry with
the number of entries held; an owner and a load ref, though absent together, have one each (log 20). The prior belt
proof has the codes of the belt proof (log 21). -/
def readCarrier (k : Nat) (s : State) : Reply :=
  match s.loop.geometry with
  | none => refuse s .noGeometry
  | some _ =>
    match s.work.carrier k with
    | none => refuse s .invalid
    | some c =>
      ok s (c.load.fields ++ [.u8 c.proof.code] ++ optField (fun x => [.u8 x.code]) c.prior ++
        optField BeltRecord.fields c.belt ++
        optField (fun (e : Entry) => e.fields ++ [.u16 s.work.fires.length]) (s.work.entryOf k))

/-! ## Meanings -/

def execDischarge (k : Link) (rtag carrier chute : Nat) (s : State) : Outcome :=
  .next (serve k rtag (.discharge carrier chute) (discharge k carrier chute) s)

def execCancelDischarge (k : Link) (rtag carrier : Nat) (s : State) : Outcome :=
  .next (serve k rtag (.cancelDischarge carrier) (cancelDischarge k carrier) s)

def execClearCarrier (k : Link) (rtag carrier : Nat) (s : State) : Outcome :=
  .next (serve k rtag (.clearCarrier carrier) (clearCarrier carrier) s)

def execReadCarrier (k : Link) (rtag carrier : Nat) (s : State) : Outcome :=
  .next (serve k rtag (.readCarrier carrier) (readCarrier carrier) s)

end Sys2Proof.Machine
end

