-- ==== Sys2Proof/Machine/TrialCommands.lean ====
section
/-! DEFINITION. The commands of the trial plan (Chapter 8) and the poll timer (R138). -/

namespace Sys2Proof.Machine

/-! ## SUBMIT_TRIAL -/

/-- The point kind that a trial kind needs (R113 step 4). -/
def TrialKind.pointKind : TrialKind → PointKind
  | .sensor => .sensor
  | .chute => .chute
  | .zoneDrive => .zoneDrive
  | .belt => .sensor

/-- A target's route, or its entry sensor's for a CHUTE, is present (R113 step 7). -/
def trialRouted (w : Work) (k : TrialKind) (p : Point) : Bool :=
  match k with
  | .chute =>
    match (w.entrySensor p.tag).bind w.point with
    | some q => q.route.isSome
    | none => false
  | _ => p.route.isSome

/-- Steps 3 to 7 of R113: the first refusal, if any. -/
def trialRefusal (w : Work) (k : TrialKind) (target : Nat) : Option Status :=
  match k with
  | .belt =>
    if w.loadedFor target .line then some .custody
    else if w.beltTrial target then some .busy
    else none
  | _ =>
    match w.point target with
    | none => some .notFound
    | some p =>
      if p.kind ≠ k.pointKind then some .invalid
      else if p.custody = .line then some .custody
      else if w.underTrial target then some .busy
      else if !trialRouted w k p then some .unrouted
      else none

/-- The id after `n`, from 255 back to 1 (R114). -/
def idAfter (n : Nat) : Nat := if n ≥ 255 then 1 else n + 1

/-- The first id from `n` on that no trial of the plan holds (R114). -/
def freeId (w : Work) : Nat → Nat → Nat
  | 0, n => n
  | fuel + 1, n => if (w.trial n).isSome then freeId w fuel (idAfter n) else n

/-- A trial as it joins the plan (R114). -/
def newTrial (w : Work) (id : Nat) (k : TrialKind) (f : TrialFields) : Trial where
  id := id
  kind := k
  target := f.target
  order := w.submitCount
  state := .queued
  reasons := .none
  need := f.need
  limit := f.limit
  timeLimit := f.time
  remaining := f.time * 1000
  streak := 0
  fails := 0
  stats := .empty
  band := f.band
  jogSpeed := f.jogSpeed
  jogTime := f.jogTime
  armed := none
  startAt := none
  items := []
  claimed := 0
  outcomes := ⟨0, 0, 0, 0, 0, 0, 0, 0⟩
  drive := ⟨0, 0, 0, 0, none⟩
  belt := ⟨0, 0, 0, 0, 0, 0, none⟩
  begun := false
  jogDeclined := false

/-- The target's proof is saved as the prior proof and becomes IN_TRIAL (R114). -/
def enterTrial (k : TrialKind) (target : Nat) (w : Work) : Work :=
  match k with
  | .belt =>
    match w.carrier target with
    | none => w
    | some c => w.setCarrier target { c with proof := .inTrial, prior := some c.proof }
  | _ =>
    match w.point target with
    | none => w
    | some p => w.setPoint { p with proof := .inTrial, prior := some p.proof }

/-- An accepted SUBMIT_TRIAL (R114). -/
def acceptTrial (l : Loop) (k : TrialKind) (f : TrialFields) (w : Work) : Work :=
  let id := freeId w 255 w.nextId
  activate l (enterTrial k f.target { w with
    plan := w.plan ++ [newTrial w id k f]
    nextId := idAfter id
    submitCount := w.submitCount + 1 })

/-- SUBMIT_TRIAL (R113, R114). -/
def submitTrial (f : TrialFields) (s : State) : Reply :=
  match s.loop.geometry with
  | none => refuse s .noGeometry
  | some g =>
    match f.check with
    | none => refuse s .invalid
    | some k =>
      if decide (k = .belt) && !carrierOk g f.target then refuse s .invalid
      else match trialRefusal s.work k f.target with
      | some x => refuse s x
      | none =>
        if s.work.plan.length ≥ 64 then refuse s .full
        else ⟨s.mapWork (acceptTrial s.loop k f), .accepted, [.u8 (freeId s.work 255 s.work.nextId)]⟩

/-! ## CANCEL_TRIAL and READ_TRIAL -/

/-- CANCEL_TRIAL (R121). -/
def cancelTrial (id : Nat) (s : State) : Reply :=
  if !within 1 255 id then refuse s .invalid
  else match s.work.trial id with
  | none => refuse s .notFound
  | some t => ok (s.mapWork (finish s.loop t .cancelled none))

/-- The hold reasons in one byte, in the order of R116 (log 20). -/
def HoldReasons.byte (r : HoldReasons) : Nat :=
  (if r.unlocked then 1 else 0) + (if r.unsteady then 2 else 0) + (if r.fenced then 4 else 0) +
  (if r.noSpace then 8 else 0)

/-- The fields of R112; the items are sent as their number here and one by one at the end. Where the kind has no such
field, the band, the jog speed, the jog duration and the armed carrier are sent as absent, and the number of items,
the items claimed and the outcome counts are left out, without a presence byte (log 20). -/
def Trial.planFields (t : Trial) : List Field :=
  [.u8 t.id, .u8 t.kind.code, .u16 t.target, .u32 t.order, .u8 t.state.code, .u8 t.reasons.byte, .u8 t.need,
   .u8 t.limit, .u16 t.timeLimit, .u16 (t.remaining / 1000), .u16 t.streak, .u16 t.fails,
   .u16 t.stats.count, .s32 t.stats.sum] ++
  optField (fun d => [.s16 d]) t.stats.least ++ optField (fun d => [.s16 d]) t.stats.most ++
  optField (fun b => [.u16 b]) t.band ++ optField (fun b => [.u16 b]) t.jogSpeed ++
  optField (fun b => [.u16 b]) t.jogTime ++ optField (fun k => [.u16 k]) t.armed ++
  (match t.kind with
   | .chute => .u16 t.items.length :: .u16 t.claimed :: t.outcomes.fields
   | _ => [])

/-- The statistics as R35 reports them. -/
def Stats.fields (x : Stats) : List Field :=
  [.u16 x.count, .s16 x.mean, .u16 x.spread] ++ optField (fun d => [.s16 d]) x.least ++
  optField (fun d => [.s16 d]) x.most

/-- The deviation that a verdict comes with (R105). -/
def Verdict.dev : Verdict → Option Int
  | .hit d => some d
  | .early d => some d
  | .late d => some d
  | .miss => none
  | .cancelled => none

/-- An item in flight (R122). Under the presence byte of the held verdict stand its code and the d of R105, with a
presence byte of its own: present beside HIT, EARLY and LATE and absent beside MISS and CANCELLED (log 20). -/
def Item.fields (i : Item) : List Field :=
  [.u16 i.index, .u16 i.carrier, .u8 i.stage.code] ++
  optField (fun (v : Verdict) => .u8 v.code :: optField (fun d => [.s16 d]) v.dev) i.verdict ++
  optField (fun (r : ItemReply) => [.u8 r.code]) i.reply

/-- The window of a sensor trial. -/
def Work.trialWindow (w : Work) (id : Nat) : Option Window :=
  w.windows.find? fun x => x.trial == id && decide (x.purpose = .sensorPass)

/-- What a trial's kind adds to READ_TRIAL (R122, R139, R142). What belongs to another kind is left out without a presence
byte (log 20). -/
def Trial.kindFields (w : Work) (t : Trial) : List Field :=
  match t.kind with
  | .sensor =>
    optField (fun (x : Window) => [.u16 x.carrier, .u32 x.xexp, .u32 x.close]) (w.trialWindow t.id)
  | .chute => t.items.flatMap Item.fields
  | .zoneDrive =>
    [.u16 t.drive.sent, .u16 t.drive.inBand, .u16 t.drive.outBand, .u16 t.drive.failed] ++
    optField (fun (x : Nat × Int) => [.u16 x.1, .s16 x.2]) t.drive.last
  | .belt =>
    [.u16 t.belt.sent, .u16 t.belt.inBand, .u16 t.belt.outBand, .u16 t.belt.faults, .u16 t.belt.noReply,
     .u16 t.belt.misses] ++ optField (fun v => [.u16 v]) t.belt.achieved

/-- The number of QUEUED trials ahead of a QUEUED trial (R122). -/
def Work.queuedAhead (w : Work) (t : Trial) : Option Nat :=
  if t.state = .queued then
    some (w.plan.filter fun u => decide (u.state = .queued) && decide (u.order < t.order)).length
  else none

/-- READ_TRIAL (R122). The number of QUEUED trials ahead has its presence byte in every state (log 20). -/
def readTrial (id : Nat) (s : State) : Reply :=
  if !within 1 255 id then refuse s .invalid
  else match s.work.trial id with
  | none => refuse s .notFound
  | some t =>
    ok s (t.planFields ++ optField (fun n => [.u16 n]) (s.work.queuedAhead t) ++ t.stats.fields ++
      t.kindFields s.work)

/-! ## Timers -/

/-- The time remaining of an ACTIVE trial expires (R118). -/
def expireTrial (l : Loop) (id : Nat) (w : Work) : Work :=
  match w.trial id with
  | none => w
  | some t =>
    if t.isActive then finish l { t with remaining := 0 } .failed (some .timeLimit) w else w

/-- The trial has a query waiting for a grant or outstanding (R138). -/
def Work.querying (w : Work) (order : Nat) : Bool :=
  let p : Job → Bool := fun j => match j with | .speedQuery _ o => o == order | _ => false
  w.waits p || w.onField p

/-- A poll timer expires (R138). -/
def poll (l : Loop) (id : Nat) (w : Work) : Work :=
  match w.trial id, w.polls.find? fun p => p.trial == id with
  | some t, some _ =>
    let w := { w with polls := w.polls.map fun p => if p.trial = id then { p with due := l.clock + 100 } else p }
    if w.querying t.order then w
    else match (w.point t.target).bind Point.route with
    | none => w
    | some a => issue l a.branch (newReq (.speedQuery id t.order) a.node a.channel) w
  | _, _ => w

/-! ## Meanings -/

def execSubmitTrial (rtag : Nat) (f : TrialFields) (s : State) : Outcome :=
  .next (serve .console rtag (.submitTrial f) (submitTrial f) s)

def execCancelTrial (rtag id : Nat) (s : State) : Outcome :=
  .next (serve .console rtag (.cancelTrial id) (cancelTrial id) s)

def execReadTrial (k : Link) (rtag id : Nat) (s : State) : Outcome :=
  .next (serve k rtag (.readTrial id) (readTrial id) s)

/-- TRIAL_TIME_EXPIRY (R118). -/
def execTrialTimeExpiry (id : Nat) (s : State) : Outcome := .next (s.mapWork (expireTrial s.loop id)).settle

/-- POLL_TIMER_EXPIRY (R138). -/
def execPollTimerExpiry (id : Nat) (s : State) : Outcome := .next (s.mapWork (poll s.loop id)).settle

end Sys2Proof.Machine
end

