-- ==== Sys2Proof/Machine/Drives.lean ====
section
/-! DEFINITION. SET_LOOP_SPEED (R132, R135). -/

namespace Sys2Proof.Machine

/-- The rows of a distribution that begins now: the ZONE_DRIVE points whose zone is unfenced (R132). -/
def newRows (l : Loop) (w : Work) : List Row :=
  (w.points.filter fun p => decide (p.kind = .zoneDrive) && !l.fenced p.config.zone).map fun p => ⟨p.tag, .pending⟩

/-- The state of a row as a new value supersedes (R135). `waits` says that its request is waiting for a grant. -/
def RowState.supersede (waits : Bool) : RowState → RowState
  | .pending => .pending
  | .sent v again => if waits then .pending else .sent v again
  | .acked _ => .pending
  | .failed _ => .pending
  | .withheld => .withheld

/-- The waiting SET_SPEED requests of rows that are superseded are withdrawn (R135). -/
def withdrawSpeeds (tags : List Nat) (w : Work) : Work := tags.foldl Work.withdrawSpeed w

/-- The distribution takes a new value (R135). -/
def supersede (l : Loop) (value : Nat) (d : Distribution) (w : Work) : Work :=
  let rows := d.rows.map fun r => { r with state := r.state.supersede (w.speedWaits r.tag) }
  let tags := d.rows.map Row.tag
  commandRows l tags
    (withdrawSpeeds tags { w with dist := some { value := value, cause := .request, rows := rows } })

/-- The value is distributed (R132, R135). -/
def distribute (l : Loop) (value : Nat) (w : Work) : Work :=
  match w.dist with
  | some d => if d.value = value then w else supersede l value d w
  | none =>
    let rows := newRows l w
    commandRows l (rows.map Row.tag) { w with dist := some { value := value, cause := .request, rows := rows } }

/-- The number of drives a distribution will cover (R132, log 29). -/
def covered (l : Loop) (w : Work) : Nat :=
  match w.dist with
  | some d => d.rows.length
  | none => (newRows l w).length

/-- SET_LOOP_SPEED (R132). -/
def setLoopSpeed (speed : Nat) (s : State) : Reply :=
  match s.loop.geometry with
  | none => refuse s .noGeometry
  | some g =>
    let v := min speed g.vmax
    let s' := s.setTracker { s.loop.tracker with setpoint := v }
    ⟨s'.mapWork (distribute s'.loop v), .accepted, [.u16 v, .u16 (covered s.loop s.work)]⟩

def execSetLoopSpeed (rtag speed : Nat) (s : State) : Outcome :=
  .next (serve .line rtag (.setLoopSpeed speed) (setLoopSpeed speed) s)

end Sys2Proof.Machine
end

