-- ==== Sys2Proof/Machine/RingCommands.lean ====
section
/-! DEFINITION. The commands of the field ring: the masters' branch requests and the relay (10.7), and the events of the
branches (10.2, 10.4, 10.5, 10.6). -/

namespace Sys2Proof.Machine

/-! ## Branch requests -/

/-- RESTART_BRANCH (R158): with the branch DOWN it is answered OK with that state. -/
def restartBranch (code : Nat) (s : State) : Reply :=
  match Branch.ofCode code with
  | none => refuse s .invalid
  | some br =>
    if (s.work.ring br).state = .down then ok s [.u8 BranchState.down.code]
    else
      ⟨s.mapWork fun w => branchNotice s.loop br .enumerating .restart (enumerate s.loop br w), .accepted, []⟩

/-- A node as READ_BRANCH reports it (R158). Its kind has a presence byte, 0 while it is unknown (log 20). -/
def nodeFields (r : Ring) (n : Nat) (x : Node) : List Field :=
  [.u8 n, .u8 x.state.code] ++ optField (fun (k : NodeKind) => [.u8 k.code]) x.kind ++
  [.u16 x.channels, flagField x.expected, .u16 x.timeouts, .u16 (r.outstanding n)]

/-- The nodes that READ_BRANCH reports, from node `n` on: not ABSENT, or with a non-zero outstanding count (R158). -/
def reportedNodes (r : Ring) : Nat → List Node → List Field
  | _, [] => []
  | n, x :: xs =>
    (if x.state ≠ .absent || decide (r.outstanding n > 0) then nodeFields r n x else []) ++
    reportedNodes r (n + 1) xs

/-- The branch as READ_BRANCH reports it (R158). The waiting requests are those of FIRE, DRIVE and RELAY, and the ACK
queue is sent once, as the ACKs queued (log 20). -/
def Ring.fields (r : Ring) : List Field :=
  [.u8 r.state.code, flagField r.signal, .u16 r.stats.bad, .u16 r.stats.orphan, .u16 r.stats.dup,
   .u16 r.stats.deferred, .u16 r.stats.unmapped] ++ reportedNodes r 1 r.nodes ++
  [.u16 r.table.length, .u16 (16 - r.table.length), .u16 r.fireq.length, .u16 r.driveq.length, .u16 r.relayq.length,
   .u16 r.acks.length]

/-- READ_BRANCH (R158). -/
def readBranch (code : Nat) (s : State) : Reply :=
  match Branch.ofCode code with
  | none => refuse s .invalid
  | some br => ok s (s.work.ring br).fields

/-- The job is a relay of the link. -/
def Job.relayOf (k : Link) : Job → Bool
  | .relay link _ _ _ _ => decide (link = k)
  | _ => false

/-- The relays of a link in flight on a branch (R156). -/
def Ring.relays (r : Ring) (k : Link) : Nat :=
  (r.relayq.filter fun q => q.job.relayOf k).length + (r.table.filter fun x => x.job.relayOf k).length

/-- NODE_QUERY (R62, R156). -/
def nodeQuery (k : Link) (rtag tag item : Nat) (s : State) : Reply :=
  match QueryItem.ofCode item with
  | none => refuse s .invalid
  | some i =>
    match s.work.point tag with
    | none => refuse s .notFound
    | some p =>
      match p.route with
      | none => ⟨s, .unrouted, [.u16 0]⟩
      | some a =>
        if s.work.ringA.relays k + s.work.ringB.relays k ≥ 4 then refuse s .full
        else
          ⟨s.mapWork (issue s.loop a.branch (newReq (.relay k rtag tag i a) a.node a.channel)), .accepted, []⟩

/-! ## Uplink frames -/

/-- The branch takes uplink frames only while its ring signal is present (log 17). -/
def hears (s : State) (br : Branch) : Bool := decide ((s.work.ring br).state ≠ .down)

/-- An EVENT frame: discarded when R143 refuses it, else taken. -/
def eventArrives (br : Branch) (f : EventFields) (s : State) : State :=
  if f.passes then takeEvent br f s else s.mapWork (badFrame br)

def replyArrives (br : Branch) (f : ReplyFields) (s : State) : State :=
  if f.passes then s.mapWork (takeReply s.loop br f) else s.mapWork (badFrame br)

def announceArrives (br : Branch) (f : AnnounceFields) (s : State) : State :=
  if f.passes then s.mapWork (takeAnnounce br f) else s.mapWork (badFrame br)

/-- A whole uplink frame is handled by its kind. -/
def uplinkArrives (br : Branch) (f : UplinkFrame) (s : State) : State :=
  match f with
  | .event e => eventArrives br e s
  | .reply e => replyArrives br e s
  | .announce e => announceArrives br e s

/-- The bytes kept of a frame that is not yet whole. -/
def keepBytes (br : Branch) (bs : List Byte) (hunting : Bool) (s : State) : State :=
  s.mapWork fun w => w.setRing br { w.ring br with rx := bs, hunting := hunting }

/-- The frames that the received bytes hold are taken one after another (R143), each at an event of its own, whose
notices join the queues before those of the next (R170). Each takes at least one byte, so `fuel` above their number
suffices. -/
def uplinkFrames (br : Branch) : Nat → List Byte → State → State
  | 0, bs, s => keepBytes br bs false s
  | fuel + 1, bs, s =>
    match takeUplinkFrame bs with
    | .wait => keepBytes br bs false s
    | .skip rest => uplinkFrames br fuel rest s
    | .bad rest hunt =>
      let s := s.mapWork (badFrame br)
      if hunt then
        if (fromDelimiter rest).isEmpty then keepBytes br [] true s
        else uplinkFrames br fuel (fromDelimiter rest) s
      else uplinkFrames br fuel rest s
    | .whole f rest => uplinkFrames br fuel rest (uplinkArrives br f s).settle

/-- Bytes arrive on the uplink pair of a branch (10.1, R143, log 16). -/
def uplinkBytes (br : Branch) (bs : List Byte) (s : State) : State :=
  let r := s.work.ring br
  let bs := if r.hunting then fromDelimiter bs else r.rx ++ bs
  if r.hunting && bs.isEmpty then s else uplinkFrames br (bs.length + 1) bs s

/-! ## Meanings -/

def execRestartBranch (rtag branch : Nat) (s : State) : Outcome :=
  .next (serve .console rtag (.restartBranch branch) (restartBranch branch) s)

def execReadBranch (k : Link) (rtag branch : Nat) (s : State) : Outcome :=
  .next (serve k rtag (.readBranch branch) (readBranch branch) s)

def execNodeQuery (k : Link) (rtag tag item : Nat) (s : State) : Outcome :=
  .next (serve k rtag (.nodeQuery tag item) (nodeQuery k rtag tag item) s)

/-- RING_SIGNAL_LOST (R154). -/
def execRingSignalLost (br : Branch) (s : State) : Outcome := .next (s.mapWork (signalLost s.loop br)).settle

/-- RING_SIGNAL_RETURNED (R144, R145). -/
def execRingSignalReturned (br : Branch) (s : State) : Outcome := .next (s.mapWork (signalReturned s.loop br)).settle

/-- ANNOUNCE_PERIOD_END (R146). -/
def execAnnouncePeriodEnd (br : Branch) (s : State) : Outcome := .next (s.mapWork (endAnnounce s.loop br)).settle

/-- UPLINK_BAD_FRAME (R143): the bytes as they arrive. -/
def execUplinkBadFrame (br : Branch) (bs : List Byte) (s : State) : Outcome :=
  .next (if hears s br then (uplinkBytes br bs s).settle else s)

/-- ANNOUNCE_FRAME (R146). Bytes of a frame not yet whole wait on (log 16), as at the two commands that follow. -/
def execAnnounceFrame (br : Branch) (f : AnnounceFields) (s : State) : Outcome :=
  .next (if hears s br then (announceArrives br f s).settle else s)

/-- EVENT_FRAME (R155, log 16). -/
def execEventFrame (br : Branch) (f : EventFields) (s : State) : Outcome :=
  .next (if hears s br then (eventArrives br f s).settle else s)

/-- REPLY_FRAME (R152, log 16). -/
def execReplyFrame (br : Branch) (f : ReplyFields) (s : State) : Outcome :=
  .next (if hears s br then (replyArrives br f s).settle else s)

/-- DOWNLINK_FRAME_END (R148). -/
def execDownlinkFrameEnd (br : Branch) (s : State) : Outcome := .next (s.mapWork (frameEnd s.loop br)).settle

/-- REPLY_DEADLINE_EXPIRY (R153). -/
def execReplyDeadlineExpiry (br : Branch) (tag : Nat) (s : State) : Outcome :=
  .next (s.mapWork (expireTxn s.loop br tag)).settle

end Sys2Proof.Machine
end

