-- ==== Sys2Proof/Machine/Capture.lean ====
section
/-! DEFINITION. The requests on capture channels (11.2, 11.4). -/

namespace Sys2Proof.Machine

/-! ## CAPTURE_SET -/

/-- Another channel that is not OFF is bound to the tag (R160 step 5). -/
def boundElsewhere (cs : List (Option Channel)) (n tag : Nat) : Bool :=
  cs.zipIdx.any fun x => x.2 != n && (match x.1 with | none => false | some c => c.tag == tag)

/-- Two block ranges overlap. -/
def overlap (a m b n : Nat) : Bool := decide (a < b + n) && decide (b < a + m)

/-- The range overlaps that of another channel that is not OFF (R160 step 6). -/
def rangeTaken (cs : List (Option Channel)) (n first count : Nat) : Bool :=
  cs.zipIdx.any fun x =>
    x.2 != n && (match x.1 with | none => false | some c => overlap c.first c.count first count)

/-- The channel as CAPTURE_SET sets it up (R160). -/
def newChannel (k : Link) (f : CaptureFields) : Channel where
  mode := .accept
  reason := none
  tag := f.tag
  owner := k
  first := f.first
  count := f.count
  buffer :=
    if f.double = 1 then .double ⟨.filling, []⟩ ⟨.free, []⟩ false
    else .single (min (f.target.getD 0) (32 * f.count)) []

/-- The applied target of a single buffer (R160). -/
def Channel.target (c : Channel) : Option Nat :=
  match c.buffer with
  | .single t _ => some t
  | .double _ _ _ => none

/-- The channel is in ACCEPT. -/
def accepts (c : Option Channel) : Bool :=
  match c with
  | none => false
  | some c => decide (c.mode = .accept)

/-- CAPTURE_SET (R160). -/
def captureSet (k : Link) (f : CaptureFields) (s : State) : Reply :=
  if !f.check then refuse s .invalid
  else match s.work.point f.tag with
  | none => refuse s .notFound
  | some p =>
    if p.kind ≠ .sensor && decide (p.kind ≠ .induct) then refuse s .invalid
    else if accepts (s.channels.getD f.channel none) then refuse s .busy
    else if boundElsewhere s.channels f.channel f.tag then refuse s .busy
    else if rangeTaken s.channels f.channel f.first f.count then refuse s .conflict
    else
      let c := newChannel k f
      ok { s with channels := s.channels.set f.channel (some c) }
        (.u16 c.capacity :: optField (fun t => [.u16 t]) c.target)

/-! ## CAPTURE_STOP and CAPTURE_OFF -/

/-- The FILLING half becomes HANDED if it holds records and FREE if it holds none (R164). -/
def Half.stop (h : Half) : Half :=
  if h.state = .filling then
    if h.records.isEmpty then { h with state := .free } else { h with state := .handed }
  else h

/-- The buffer at a stop: a half handed now is read after one handed before (R164). -/
def Buffer.stop : Buffer → Buffer
  | .single t rs => .single t rs
  | .double a b newer =>
    .double a.stop b.stop (if a.state = .filling then false else if b.state = .filling then true else newer)

/-- The number of records stored. -/
def Buffer.stored : Buffer → Nat
  | .single _ rs => rs.length
  | .double a b _ => a.records.length + b.records.length

/-- CAPTURE_STOP (R164). -/
def captureStop (k : Link) (n : Nat) (s : State) : Reply :=
  match s.channels[n]? with
  | none => refuse s .invalid
  | some none => refuse s .notFound
  | some (some c) =>
    if c.owner ≠ k then refuse s .notPermitted
    else if c.mode = .accept then
      ok { s with channels := s.channels.set n
                    (some { c with mode := .hold, reason := some .stopped, buffer := c.buffer.stop }) }
        [.u16 c.buffer.stored]
    else ok s

/-- CAPTURE_OFF (R164). -/
def captureOff (n : Nat) (s : State) : Reply :=
  match s.channels[n]? with
  | none => refuse s .invalid
  | some _ => ok { s with channels := s.channels.set n none }

/-! ## CAPTURE_READ -/

/-- Up to `n` records leave a HANDED half, which becomes FREE as its last one leaves (R163). -/
def Half.read (h : Half) (n : Nat) : List CaptureRecord × Half :=
  if h.state = .handed then
    let rest := h.records.drop n
    (h.records.take n, { state := if rest.isEmpty then .free else .handed, records := rest })
  else ([], h)

/-- Up to `n` records leave the buffer, oldest first (R163). -/
def Buffer.read (x : Buffer) (n : Nat) : List CaptureRecord × Buffer :=
  match x with
  | .single t rs => (rs.take n, .single t (rs.drop n))
  | .double a b newer =>
    if newer then
      let ra := a.read n
      let rb := b.read (n - ra.1.length)
      (ra.1 ++ rb.1, .double ra.2 rb.2 newer)
    else
      let rb := b.read n
      let ra := a.read (n - rb.1.length)
      (rb.1 ++ ra.1, .double ra.2 rb.2 newer)

/-- The number of records left to read. -/
def Buffer.ready : Buffer → Nat
  | .single _ rs => rs.length
  | .double a b _ => a.ready + b.ready

/-- The states of the two halves, for a double buffer (R163). -/
def Buffer.halves : Buffer → Option (HalfState × HalfState)
  | .single _ _ => none
  | .double a b _ => some (a.state, b.state)

/-- A single buffer is not read while it fills (R163). -/
def Channel.unreadable (c : Channel) : Bool :=
  match c.buffer with
  | .single _ _ => decide (c.mode = .accept)
  | .double _ _ _ => false

/-- A record as it is read (R159): the age takes 2 bytes, and carrier and deviation share one presence byte (log 20). -/
def CaptureRecord.fields (r : CaptureRecord) : List Field :=
  [.u32 r.revolution] ++ optField (fun x => [.u32 x]) r.xc ++
  optField (fun (x : Nat × Int) => [.u16 x.1, .s16 x.2]) r.attributed ++
  [.u8 r.edge.code, .u16 r.age, flagField r.stale]

/-- CAPTURE_READ (R163); the two half states share one presence byte (log 20). -/
def captureRead (k : Link) (n count : Nat) (s : State) : Reply :=
  if !within 1 8 count then refuse s .invalid
  else match s.channels[n]? with
  | none => refuse s .invalid
  | some none => refuse s .notFound
  | some (some c) =>
    if c.owner ≠ k then refuse s .notPermitted
    else if c.unreadable then refuse s .busy
    else
      let r := c.buffer.read count
      ok { s with channels := s.channels.set n (some { c with buffer := r.2 }) }
        (r.1.flatMap CaptureRecord.fields ++ [.u16 r.2.ready, .u8 c.mode.code] ++
         optField (fun (x : CaptureReason) => [.u8 x.code]) c.reason ++
         optField (fun (x : HalfState × HalfState) => [.u8 x.1.code, .u8 x.2.code]) r.2.halves)

/-! ## Meanings -/

def execCaptureSet (k : Link) (rtag : Nat) (f : CaptureFields) (s : State) : Outcome :=
  .next (serve k rtag (.captureSet f) (captureSet k f) s)

def execCaptureStop (k : Link) (rtag channel : Nat) (s : State) : Outcome :=
  .next (serve k rtag (.captureStop channel) (captureStop k channel) s)

def execCaptureOff (k : Link) (rtag channel : Nat) (s : State) : Outcome :=
  .next (serve k rtag (.captureOff channel) (captureOff channel) s)

def execCaptureRead (k : Link) (rtag channel count : Nat) (s : State) : Outcome :=
  .next (serve k rtag (.captureRead channel count) (captureRead k channel count) s)

end Sys2Proof.Machine
end

