-- ==== Sys2Proof/Machine/Links.lean ====
section
/-! DEFINITION. The master links (Chapter 12): frames, answers, the notice queue, port resets, power-on and the reset
pin. -/

namespace Sys2Proof.Machine

/-! ## Request frames (R166, R167) -/

/-- A request code of the catalogue (R169). -/
def knownCode (code : Nat) : Bool := within 1 30 code

/-- A frame of the catalogue joins the intake, or is answered FULL (R167). -/
def Port.join (p : Port) (tag : Nat) (q : Request) : Port :=
  if p.intake.length < 8 then { p with intake := p.intake ++ [⟨tag, q⟩], answers := p.answers ++ [none] }
  else p.pushAnswer ⟨tag, q.code, .full, []⟩

/-- The checks 2 to 4 of R166 on a frame that is whole and whose CRC-16 matches. -/
def Port.frame (p : Port) (k : Link) (tag kind : Nat) (body : List Byte) : Port :=
  if !knownCode kind then p.pushAnswer ⟨tag, 0, .unknown, []⟩
  else if !permitted k kind then p.pushAnswer ⟨tag, kind, .notPermitted, []⟩
  else if tag = 0 then p.pushAnswer ⟨0, kind, .invalid, []⟩
  else match readBody kind body with
  | none => p.pushAnswer ⟨tag, kind, .invalid, []⟩
  | some q => p.join tag q

/-- The answer of check 1 of R166. -/
def badFrameAnswer : Answer := ⟨0, 0, .badFrame, []⟩

/-- The frames that the received bytes hold are checked one after another (R166). Each takes at least one byte, so
`fuel` above their number suffices. -/
def Port.frames (k : Link) : Nat → List Byte → Port → Port
  | 0, bs, p => { p with rx := bs, hunting := false }
  | fuel + 1, bs, p =>
    match takeRequestFrame bs with
    | .wait => { p with rx := bs, hunting := false }
    | .bad rest hunt =>
      let p := p.pushAnswer badFrameAnswer
      if hunt then
        if (fromDelimiter rest).isEmpty then { p with rx := [], hunting := true }
        else Port.frames k fuel (fromDelimiter rest) p
      else Port.frames k fuel rest p
    | .whole tag kind body rest => Port.frames k fuel rest (p.frame k tag kind body)

/-- Bytes arrive on the request pair (R166); during a break none are received (R174). -/
def Port.receive (p : Port) (k : Link) (bs : List Byte) : Port :=
  if p.breakHeld then p
  else
    let bs := if p.hunting then fromDelimiter bs else p.rx ++ bs
    if p.hunting && bs.isEmpty then p else Port.frames k (bs.length + 1) bs p

/-! ## Answers and notices (R168, R171) -/

/-- The first answer leaves on the answer pair (R168); none leaves during a break, nor past a request that still waits
in the intake (log 15). -/
def Port.sendAnswer (p : Port) : Port :=
  if p.breakHeld then p
  else match p.answers with
  | some a :: rest => { p with answers := rest, wire := a.bytes }
  | _ => p

/-- FETCH_NOTICES (R171). -/
def fetchNotices (k : Link) (max : Nat) (s : State) : Reply :=
  if !within 1 6 max then refuse s .invalid
  else
    let p := s.port k
    let taken := p.notices.take max
    ok (s.setPort k { p with notices := p.notices.drop max, overflow := false })
      ([.u8 (p.notices.drop max).length, flagField p.overflow, .u8 taken.length] ++ taken.flatMap Notice.wire)

/-! ## Breaks and resets (R173, R174) -/

/-- A break begins: a frame that it cuts short fails its check (R166, R174, log 15). Discarding up to the next 165 goes
on after it. -/
def Port.startBreak (p : Port) : Port :=
  let q := if p.rx.isEmpty then p else p.pushAnswer badFrameAnswer
  { q with rx := [], breakHeld := true }

/-- Steps 1 to 3 of the port reset, with the frame being received lost (R174). It does not end the discarding up to the
next 165 (log 15). -/
def Port.clear (p : Port) : Port :=
  { p with intake := [], answers := [], notices := [], overflow := false, rx := [] }

/-- The ask in ASKED is posted again with its time remaining (R70). -/
def askAgain (w : Work) (a : Ask) : Work :=
  match a.state with
  | .asked r =>
    match w.point a.tag with
    | some p => w.post .line .link (.custodyAsk a.tag p.kind r)
    | none => w
  | .draining => w

/-- The port reset of a link (R174). -/
def portReset (k : Link) (s : State) : State :=
  let s := s.setPort k (s.port k).clear
  let s := { s with digest := s.digest.map fun (x : Walk) => x.setWaiter k false }
  let s := s.mapWork fun w => w.post k .link (.started .port s.loop.fences)
  match k with
  | .line => s.mapWork fun w => w.asks.foldl askAgain w
  | .console => s

/-- A branch samples its ring signal; with signal present it begins an enumeration without a BRANCH notice (R144). -/
def sampleSignal (l : Loop) (br : Branch) (present : Bool) (w : Work) : Work :=
  if present then enumerate l br (w.setRing br { w.ring br with signal := true }) else w

/-- Every block returns to its power-on state with the sampled inputs (R20, R73, R144, R173). The commands that wait
are not the part's and stay. -/
def restart (cause : StartCause) (x : Samples) (s : State) : State :=
  (State.initial cause x.encA x.encB (~~~x.zones) s.pending).mapWork fun w =>
    sampleSignal ⟨Tracker.initial x.encA x.encB, ~~~x.zones, 0⟩ .b x.ringB
      (sampleSignal ⟨Tracker.initial x.encA x.encB, ~~~x.zones, 0⟩ .a x.ringA w)

/-! ## Meanings -/

/-- POWER_ON (R173). -/
def execPowerOn (x : Samples) (s : State) : Outcome := .next (restart .power x s)

/-- RESET_PIN (R173). -/
def execResetPin (x : Samples) (s : State) : Outcome := .next (restart .pin x s)

/-- BREAK_BEGIN (R174). -/
def execBreakBegin (k : Link) (s : State) : Outcome := .next (s.setPort k (s.port k).startBreak)

/-- PORT_RESET (R174). -/
def execPortReset (k : Link) (s : State) : Outcome := .next (portReset k s).settle

/-- BREAK_END (R174). -/
def execBreakEnd (k : Link) (s : State) : Outcome := .next (s.setPort k { s.port k with breakHeld := false })

/-- REQUEST_FRAME (R166, R167): the bytes as they arrive on the link. -/
def execRequestFrame (k : Link) (bs : List Byte) (s : State) : Outcome :=
  .next (s.setPort k ((s.port k).receive k bs))

/-- ANSWER_FRAME_SENT (R168). -/
def execAnswerFrameSent (k : Link) (s : State) : Outcome := .next (s.setPort k (s.port k).sendAnswer)

/-- FETCH_NOTICES (R171). -/
def execFetchNotices (k : Link) (rtag max : Nat) (s : State) : Outcome :=
  .next (serve k rtag (.fetchNotices max) (fetchNotices k max) s)

end Sys2Proof.Machine
end

