-- ==== Sys2Proof/Machine/Dispatch.lean ====
section
/-! DEFINITION. The dispatch: one arm for each command, each a direct call of its meaning. -/

namespace Sys2Proof.Machine

def exec (i : Instr) (s : State) : Host.Outcome State Fault Refusal :=
  match i with
  | .powerOn x => Sys2Proof.Machine.execPowerOn x s
  | .resetPin x => Sys2Proof.Machine.execResetPin x s
  | .breakBegin link => Sys2Proof.Machine.execBreakBegin link s
  | .portReset link => Sys2Proof.Machine.execPortReset link s
  | .breakEnd link => Sys2Proof.Machine.execBreakEnd link s
  | .requestFrame link bytes => Sys2Proof.Machine.execRequestFrame link bytes s
  | .loadGeometry rtag g => Sys2Proof.Machine.execLoadGeometry rtag g s
  | .writePoint rtag p => Sys2Proof.Machine.execWritePoint rtag p s
  | .deletePoint rtag tag => Sys2Proof.Machine.execDeletePoint rtag tag s
  | .clearRegister rtag => Sys2Proof.Machine.execClearRegister rtag s
  | .writeWindow rtag w => Sys2Proof.Machine.execWriteWindow rtag w s
  | .submitTrial rtag t => Sys2Proof.Machine.execSubmitTrial rtag t s
  | .cancelTrial rtag id => Sys2Proof.Machine.execCancelTrial rtag id s
  | .take rtag tag => Sys2Proof.Machine.execTake rtag tag s
  | .giveBack rtag tag => Sys2Proof.Machine.execGiveBack rtag tag s
  | .restartBranch rtag branch => Sys2Proof.Machine.execRestartBranch rtag branch s
  | .setLoopSpeed rtag speed => Sys2Proof.Machine.execSetLoopSpeed rtag speed s
  | .setService rtag tag service => Sys2Proof.Machine.execSetService rtag tag service s
  | .answerAsk rtag tag answer => Sys2Proof.Machine.execAnswerAsk rtag tag answer s
  | .discharge link rtag carrier chute => Sys2Proof.Machine.execDischarge link rtag carrier chute s
  | .cancelDischarge link rtag carrier => Sys2Proof.Machine.execCancelDischarge link rtag carrier s
  | .clearCarrier link rtag carrier => Sys2Proof.Machine.execClearCarrier link rtag carrier s
  | .readPoint link rtag tag => Sys2Proof.Machine.execReadPoint link rtag tag s
  | .listPoints link rtag q => Sys2Proof.Machine.execListPoints link rtag q s
  | .readWindow link rtag number => Sys2Proof.Machine.execReadWindow link rtag number s
  | .readCarrier link rtag carrier => Sys2Proof.Machine.execReadCarrier link rtag carrier s
  | .readTracker link rtag => Sys2Proof.Machine.execReadTracker link rtag s
  | .readTrial link rtag id => Sys2Proof.Machine.execReadTrial link rtag id s
  | .readBranch link rtag branch => Sys2Proof.Machine.execReadBranch link rtag branch s
  | .nodeQuery link rtag tag item => Sys2Proof.Machine.execNodeQuery link rtag tag item s
  | .digest link rtag => Sys2Proof.Machine.execDigest link rtag s
  | .captureSet link rtag c => Sys2Proof.Machine.execCaptureSet link rtag c s
  | .captureStop link rtag channel => Sys2Proof.Machine.execCaptureStop link rtag channel s
  | .captureOff link rtag channel => Sys2Proof.Machine.execCaptureOff link rtag channel s
  | .captureRead link rtag channel count => Sys2Proof.Machine.execCaptureRead link rtag channel count s
  | .fetchNotices link rtag max => Sys2Proof.Machine.execFetchNotices link rtag max s
  | .encoderEvent encA encB => Sys2Proof.Machine.execEncoderEvent encA encB s
  | .homeEvent => Sys2Proof.Machine.execHomeEvent s
  | .sampleTimerExpiry => Sys2Proof.Machine.execSampleTimerExpiry s
  | .zoneFenced zone => Sys2Proof.Machine.execZoneFenced zone s
  | .zoneUnfenced zone => Sys2Proof.Machine.execZoneUnfenced zone s
  | .ringSignalLost branch => Sys2Proof.Machine.execRingSignalLost branch s
  | .ringSignalReturned branch => Sys2Proof.Machine.execRingSignalReturned branch s
  | .announcePeriodEnd branch => Sys2Proof.Machine.execAnnouncePeriodEnd branch s
  | .uplinkBadFrame branch bytes => Sys2Proof.Machine.execUplinkBadFrame branch bytes s
  | .announceFrame branch f => Sys2Proof.Machine.execAnnounceFrame branch f s
  | .eventFrame branch f => Sys2Proof.Machine.execEventFrame branch f s
  | .replyFrame branch f => Sys2Proof.Machine.execReplyFrame branch f s
  | .downlinkFrameEnd branch => Sys2Proof.Machine.execDownlinkFrameEnd branch s
  | .replyDeadlineExpiry branch tag => Sys2Proof.Machine.execReplyDeadlineExpiry branch tag s
  | .askTimerExpiry tag => Sys2Proof.Machine.execAskTimerExpiry tag s
  | .digestWalkComplete => Sys2Proof.Machine.execDigestWalkComplete s
  | .trialTimeExpiry id => Sys2Proof.Machine.execTrialTimeExpiry id s
  | .pollTimerExpiry id => Sys2Proof.Machine.execPollTimerExpiry id s
  | .answerFrameSent link => Sys2Proof.Machine.execAnswerFrameSent link s

end Sys2Proof.Machine
end

