-- ==== Sys2Proof/Safety.lean ====
section
/-! DEFINITION. What claims are stated in: when a port takes a request at once, what the rest of the state is after an
answer and after notices, and the laws that the spec lays down on the state. -/

namespace Sys2Proof

/-- The link, the request tag and the request of a command that is a request; none for an event. -/
def Instr.request : Instr → Option (Link × Nat × Request)
  | .loadGeometry rtag g => some (.console, rtag, .loadGeometry g)
  | .writePoint rtag p => some (.console, rtag, .writePoint p)
  | .deletePoint rtag tag => some (.console, rtag, .deletePoint tag)
  | .clearRegister rtag => some (.console, rtag, .clearRegister)
  | .writeWindow rtag w => some (.console, rtag, .writeWindow w)
  | .submitTrial rtag t => some (.console, rtag, .submitTrial t)
  | .cancelTrial rtag id => some (.console, rtag, .cancelTrial id)
  | .take rtag tag => some (.console, rtag, .take tag)
  | .giveBack rtag tag => some (.console, rtag, .giveBack tag)
  | .restartBranch rtag branch => some (.console, rtag, .restartBranch branch)
  | .setLoopSpeed rtag speed => some (.line, rtag, .setLoopSpeed speed)
  | .setService rtag tag service => some (.line, rtag, .setService tag service)
  | .answerAsk rtag tag answer => some (.line, rtag, .answerAsk tag answer)
  | .discharge k rtag carrier chute => some (k, rtag, .discharge carrier chute)
  | .cancelDischarge k rtag carrier => some (k, rtag, .cancelDischarge carrier)
  | .clearCarrier k rtag carrier => some (k, rtag, .clearCarrier carrier)
  | .readPoint k rtag tag => some (k, rtag, .readPoint tag)
  | .listPoints k rtag q => some (k, rtag, .listPoints q)
  | .readWindow k rtag number => some (k, rtag, .readWindow number)
  | .readCarrier k rtag carrier => some (k, rtag, .readCarrier carrier)
  | .readTracker k rtag => some (k, rtag, .readTracker)
  | .readTrial k rtag id => some (k, rtag, .readTrial id)
  | .readBranch k rtag branch => some (k, rtag, .readBranch branch)
  | .nodeQuery k rtag tag item => some (k, rtag, .nodeQuery tag item)
  | .digest k rtag => some (k, rtag, .digest)
  | .captureSet k rtag c => some (k, rtag, .captureSet c)
  | .captureStop k rtag channel => some (k, rtag, .captureStop channel)
  | .captureOff k rtag channel => some (k, rtag, .captureOff channel)
  | .captureRead k rtag channel count => some (k, rtag, .captureRead channel count)
  | .fetchNotices k rtag max => some (k, rtag, .fetchNotices max)
  | .powerOn _ => none
  | .resetPin _ => none
  | .breakBegin _ => none
  | .portReset _ => none
  | .breakEnd _ => none
  | .requestFrame _ _ => none
  | .encoderEvent _ _ => none
  | .homeEvent => none
  | .sampleTimerExpiry => none
  | .zoneFenced _ => none
  | .zoneUnfenced _ => none
  | .ringSignalLost _ => none
  | .ringSignalReturned _ => none
  | .announcePeriodEnd _ => none
  | .uplinkBadFrame _ _ => none
  | .announceFrame _ _ => none
  | .eventFrame _ _ => none
  | .replyFrame _ _ => none
  | .downlinkFrameEnd _ => none
  | .replyDeadlineExpiry _ _ => none
  | .askTimerExpiry _ => none
  | .digestWalkComplete => none
  | .trialTimeExpiry _ => none
  | .pollTimerExpiry _ => none
  | .answerFrameSent _ => none

/-- The request only reads: R19, R45, R46, R63, R83, R122, R158 ("changes nothing"). -/
def Request.reads : Request → Bool
  | .readPoint _ => true
  | .listPoints _ => true
  | .readWindow _ => true
  | .readCarrier _ => true
  | .readTracker => true
  | .readTrial _ => true
  | .readBranch _ => true
  | .loadGeometry _ => false
  | .writePoint _ => false
  | .deletePoint _ => false
  | .clearRegister => false
  | .writeWindow _ => false
  | .submitTrial _ => false
  | .cancelTrial _ => false
  | .take _ => false
  | .giveBack _ => false
  | .restartBranch _ => false
  | .setLoopSpeed _ => false
  | .setService _ _ => false
  | .answerAsk _ _ => false
  | .discharge _ _ => false
  | .cancelDischarge _ => false
  | .clearCarrier _ => false
  | .nodeQuery _ _ => false
  | .digest => false
  | .captureSet _ => false
  | .captureStop _ => false
  | .captureOff _ => false
  | .captureRead _ _ => false
  | .fetchNotices _ => false

/-- The ranges of the table of R1, with the jog station against the new L, and N × P = L. -/
def GeometryFields.inRange (f : GeometryFields) : Prop :=
  (10000 ≤ f.length ∧ f.length ≤ 600000) ∧ (32 ≤ f.carriers ∧ f.carriers ≤ 1024) ∧
  (300 ≤ f.pitch ∧ f.pitch ≤ 2000) ∧ (1 ≤ f.scale ∧ f.scale ≤ 1048575) ∧ (1 ≤ f.homeTol ∧ f.homeTol ≤ 200) ∧
  f.grace ≤ 1000 ∧ f.slack ≤ 200 ∧ f.latency ≤ 20 ∧ (500 ≤ f.vmax ∧ f.vmax ≤ 4000) ∧ f.jog < f.length ∧
  (f.linkBranch = 1 ∨ f.linkBranch = 2) ∧ (1 ≤ f.linkNode ∧ f.linkNode ≤ 126) ∧
  (1 ≤ f.maxAge ∧ f.maxAge ≤ 4095) ∧ f.carriers * f.pitch = f.length

end Sys2Proof

namespace Sys2Proof.Machine

/-! ## Between commands -/

/-- No notice of the last event is still to join a queue, and no distribution is over: what holds between commands
(R137, R170). -/
def State.Quiet (s : State) : Prop := s.work.outbox = [] ∧ ∀ d, s.work.dist = some d → d.over = false

/-- Between commands, and the port of link `k` takes a request at once: its intake is empty, no break is held, and it
neither waits for the rest of a frame nor discards bytes up to the next 165 (R166, R167, R174). -/
def State.Takes (s : State) (k : Link) : Prop :=
  s.Quiet ∧ (s.port k).intake = [] ∧ (s.port k).breakHeld = false ∧ (s.port k).rx = [] ∧ (s.port k).hunting = false

/-- `s` with one more answer at the end of link `k`'s answers (R168). -/
def State.answered (s : State) (k : Link) (rtag : Nat) (q : Request) (x : Status) (body : List Field) : State :=
  s.setPort k { s.port k with answers := (s.port k).answers ++ [some ⟨rtag, q.code, x, body⟩] }

/-- `s` with the notices `ns` joined to link `k`'s queue in that order, as far as it has room (R170). -/
def State.notified (s : State) (k : Link) (ns : List Notice) : State := s.setPort k ((s.port k).enqueueAll ns)

/-- `s` with the notices `ns` joined to both queues (R170). -/
def State.notifiedBoth (s : State) (ns : List Notice) : State := (s.notified .line ns).notified .console ns

/-- `t` is `s` with the given notices joined to the two queues, each queue in an order that the part does not fix
(R170). -/
def State.Posted (s t : State) (toLine toConsole : List Notice) : Prop :=
  ∃ f a b, a.Perm toLine ∧ b.Perm toConsole ∧
    t = { (s.notified .line a).notified .console b with fresh := f }

/-- The node after a frame of its own that passes R143: its timeout count is 0, and a SILENT node is ONLINE (R147). -/
def Node.heard (x : Node) : Node := { x with state := if x.state = .silent then .online else x.state, timeouts := 0 }

/-- What a frame of a node posts to both links before it is handled: NODE_STATE of cause HEARD for a SILENT node (R147). -/
def heardNotices (br : Branch) (node : Nat) (x : Node) : List Notice :=
  if x.state = .silent then [.nodeState br node .online .heard] else []

/-- A frame of `node`, which stood as `x`, leaves the core as `w` and posts these notices for its effect; from a SILENT
node NODE_STATE(HEARD) goes to both links as well, in an order to the others that the part does not fix (R147, R170). -/
def State.FrameGives (s : State) (c : Instr) (br : Branch) (node : Nat) (x : Node) (w : Work)
    (toLine toConsole : List Notice) : Prop :=
  (x.state ≠ .silent →
    exec c s = .next (({ s with work := w }.notified .line toLine).notified .console toConsole)) ∧
  (x.state = .silent → ∃ u, exec c s = .next u ∧
    State.Posted { s with work := w } u (heardNotices br node x ++ toLine) (heardNotices br node x ++ toConsole))

/-- The request of a row is answered with a status that says the request was not taken (00 "Status codes"). -/
def Status.refuses (x : Status) : Bool := decide (x ≠ .ok) && decide (x ≠ .accepted)

/-- A WRITE_POINT's fields pass the checks of R39 and carry configuration `c` of kind `k`: tag, kind and ranges (R36), the
location below L or, without a geometry, below 600,000, the fields of the kind and no others, and for a CHUTE the entry
tag of a SENSOR record. -/
def State.Configures (s : State) (f : PointFields) (k : PointKind) (c : PointConfig) : Prop :=
  f.tag ≠ 0 ∧
  ((f.kind = 1 ∧ k = .sensor) ∨ (f.kind = 2 ∧ k = .chute) ∨ (f.kind = 3 ∧ k = .induct) ∨ (f.kind = 4 ∧ k = .zoneDrive)) ∧
  (-2000 ≤ f.bias ∧ f.bias ≤ 2000) ∧ (5 ≤ f.tol ∧ f.tol ≤ 500) ∧ f.zone ≤ 7 ∧
  f.loc < (match s.loop.tracker.geometry with | none => 600000 | some g => g.length) ∧
  (c.loc = f.loc ∧ c.bias = f.bias ∧ c.tol = f.tol ∧ c.zone = f.zone ∧ c.entry = f.entry ∧ c.throw = f.throw) ∧
  (if k = .sensor ∨ k = .induct then
    (f.edge = some 1 ∧ c.edge = some .rising) ∨ (f.edge = some 2 ∧ c.edge = some .falling)
   else f.edge = none ∧ c.edge = none) ∧
  if k = .chute then
    (∃ e p, f.entry = some e ∧ s.work.point e = some p ∧ p.kind = .sensor) ∧
    (∃ ms, f.throw = some ms ∧ 20 ≤ ms ∧ ms ≤ 400) ∧
    ((f.side = some 1 ∧ c.side = some .left) ∨ (f.side = some 2 ∧ c.side = some .right))
  else f.entry = none ∧ f.throw = none ∧ f.side = none ∧ c.side = none

/-- The point is referred to by work that an edit would disturb (R40): a trial on it, a CHUTE trial at it, a fire to
it, a channel in ACCEPT bound to it, or, for a ZONE_DRIVE, a distribution in flight. -/
def State.Refers (s : State) (p : Point) : Prop :=
  (∃ t ∈ s.work.plan, t.kind ≠ .belt ∧ t.target = p.tag) ∨
  (∃ t ∈ s.work.plan, t.kind = .chute ∧ ∃ q, s.work.point t.target = some q ∧ q.config.entry = some p.tag) ∨
  (∃ e ∈ s.work.fires, e.chute = some p.tag) ∨
  (∃ c : Channel, some c ∈ s.channels ∧ c.mode = .accept ∧ c.tag = p.tag) ∨
  (p.kind = .zoneDrive ∧ s.work.dist ≠ none)

/-- The point's route may not change (R59): a trial on it, a CHUTE trial at it, a channel in ACCEPT bound to it, or,
for a ZONE_DRIVE, a distribution in flight. -/
def State.RouteInUse (s : State) (p : Point) : Prop :=
  (∃ t ∈ s.work.plan, t.kind ≠ .belt ∧ t.target = p.tag) ∨
  (∃ t ∈ s.work.plan, t.kind = .chute ∧ ∃ q, s.work.point t.target = some q ∧ q.config.entry = some p.tag) ∨
  (∃ c : Channel, some c ∈ s.channels ∧ c.mode = .accept ∧ c.tag = p.tag) ∨
  (p.kind = .zoneDrive ∧ s.work.dist ≠ none)

/-- The window that arming forms for carrier `k` at a sensor (R23, R24, R28, R102, R103). -/
def windowFor (g : Geometry) (p : Point) (k : Nat) (purpose : Purpose) (trial : Nat) (item : Option Nat)
    (order : Nat) : Window :=
  let xexp := (((p.config.loc : Int) + k * g.pitch + p.config.bias) % g.length).toNat
  let te := min p.config.tol ((g.pitch - 1) / 2)
  { sensor := p.tag, carrier := k, xexp := xexp, te := te, close := (xexp + te + g.grace) % g.length
    purpose := purpose, trial := trial, item := item, coasted := false, order := order }

/-- Carrier `k` is the first carrier due at a sensor, seen from position `x` (R123). -/
def FirstDue (g : Geometry) (p : Point) (x k : Nat) : Prop :=
  let far (j : Nat) : Nat := (((p.config.loc : Int) + j * g.pitch + p.config.bias - x) % g.length).toNat
  let span := min p.config.tol ((g.pitch - 1) / 2) + g.grace
  k < g.carriers ∧ span < far k ∧ ∀ j < g.carriers, span < far j → far k < far j ∨ (far k = far j ∧ k ≤ j)

/-- A trial without hold reasons. -/
def HoldReasons.clear : HoldReasons := ⟨false, false, false, false⟩

/-- Every waiting request but the SPEED queries of the trial with this submission order (R138). -/
def keepsQueries (order : Nat) : Job → Bool
  | .speedQuery _ o => decide (o ≠ order)
  | _ => true

/-- Every waiting request but the SET_SPEED of this drive (R135, R136). -/
def keepsSpeeds (tag : Nat) : Job → Bool
  | .setSpeed t _ => decide (t ≠ tag)
  | _ => true

/-- The load without a destination (R79, R94). -/
def LoadState.unbound : LoadState → LoadState
  | .loaded owner ref _ => .loaded owner ref none
  | x => x

/-- The core once entry `e` has left the fire list with its waiting request; `f` changes its carrier's load, which
keeps no destination (R84, R91, R94, R149). -/
def Work.without (w : Work) (e : Entry) (f : LoadState → LoadState) : Work :=
  let others (j : Job) : Bool := decide (j ≠ .fire e.seq)
  { w with
    fires := w.fires.filter fun z => decide (z.seq ≠ e.seq)
    carriers := w.carriers.modify e.carrier fun c => { c with load := (f c.load).unbound }
    ringA := w.ringA.withdraw others
    ringB := w.ringB.withdraw others }

/-- The load becomes `x`, unless the carrier is in FAULT (R91, R92). -/
def LoadState.unlessFaulted (x : LoadState) : LoadState → LoadState
  | .fault why => .fault why
  | _ => x

/-- The load becomes `x`, where the carrier is LOADED for CONSOLE (R120, R128). -/
def LoadState.whereConsole (x : LoadState) : LoadState → LoadState
  | .loaded .console _ _ => x
  | y => y

/-- An EMPTY carrier becomes FAULT(BELT_FAULT) at a jog's FAULT (R120, R141). -/
def LoadState.whereEmpty : LoadState → LoadState
  | .empty => .fault .beltFault
  | y => y

/-- A counted result completes no trial yet: it is short of its hits and of its fails (R117). -/
def Trial.GoesOn (t : Trial) : Prop := t.streak + 1 < t.need ∧ t.fails + 1 < t.limit

/-- The trial with a hit counted, and with a fail counted, where it is ACTIVE (R117). -/
def Trial.hit (t : Trial) (d : Int) : Trial :=
  if t.state = .active then { t with streak := t.streak + 1, stats := t.stats.add d } else t

def Trial.failed (t : Trial) : Trial :=
  if t.state = .active then { t with fails := t.fails + 1, streak := 0 } else t

/-- The chute trial as an item ends: its outcome counted, as a hit or a fail where it is one, and the item gone (R117,
R128). -/
def Trial.ended (t : Trial) (i : Item) (o : ItemOutcome) (d : Int) : Trial :=
  let u : Trial := { t with outcomes := t.outcomes.add o, items := t.items.filter fun j => decide (j.index ≠ i.index) }
  match o with
  | .delivered => u.hit d
  | .notSeen => u.failed
  | .misplaced => u.failed
  | .sequenceError => u.failed
  | .beltFault => u.failed
  | .unjudged => u
  | .fireMissed => u
  | .withdrawn => u

/-- No carrier but that of entry `e` is LOADED for CONSOLE without an entry of its own: a claim pass as `e` leaves finds
none else (R125). -/
def Work.NoClaimBut (w : Work) (e : Entry) : Prop :=
  ∀ n c ref dest, w.carriers[n]? = some c → c.load = .loaded .console ref dest →
    n = e.carrier ∨ ∃ z ∈ w.fires, z.carrier = n ∧ z.seq ≠ e.seq

/-- The core with the jog entry that a belt trial, now `t`, asks for anew (R31, R32, R84, R140). -/
def Work.jogsAnew (w : Work) (g : Geometry) (v : Nat) (t : Trial) : Work :=
  let nominal := (g.jog + t.target * g.pitch) % g.length
  let lead := (v * g.latency + 500) / 1000
  let e : Entry :=
    { seq := w.fireCount, carrier := t.target, chute := none, origin := .beltJog, owner := .console, trial := some t.id
      nominal := nominal, firePoint := (((nominal : Int) - lead) % g.length).toNat, misses := 0, state := .waiting
      requested := false, lastPassed := none
      ref := match w.carriers[t.target]? with | some ⟨.loaded _ ref _, _, _, _⟩ => ref | _ => 0
      orphan := false }
  { w.setTrial { t with begun := true, jogDeclined := false } with fires := w.fires ++ [e], fireCount := w.fireCount + 1 }

/-- What the failure of the request `q` waiting on branch `br`, which takes requests no more, leads to at its requester
(R157), said of an event that `ends` with a change of the core and with notices to each link. A relay gives NODE_REPLY
(R156). An entry counts a miss (R90), and at the third leaves: a discharge RECIRCULATED (R94), an item FIRE_MISSED
(R126), a jog with a miss of its trial, which asks for another (R140, R141). A SET_SPEED makes its row FAILED (R134), also
one to be commanded again (R136, log 12), as the branch fails that command too, but WITHHELD in a fenced zone (R133);
this may end the distribution (R137). A query is a failed query of its trial, where it is ACTIVE (R139). -/
def State.RequestFails (s : State) (br : Branch) (q : Req) (outcome : RelayOutcome)
    (ends : (Work → Work) → (Link → List Notice) → Prop) : Prop :=
  let only (k j : Link) (n : Notice) : List Notice := if k = j then [n] else []
  (∀ k rtag ptag item route, q.job = .relay k rtag ptag item route →
    ends id fun j => only k j (.nodeReply rtag ptag item route outcome 0)) ∧
  (∀ e : Entry, q.job = .fire e.seq → s.work.entryAt e.seq = some e →
    (e.misses < 2 →
      ends (fun w => w.setEntry { e with misses := e.misses + 1, state := .waiting, requested := false }) fun _ => []) ∧
    (∀ c, 2 ≤ e.misses → e.chute = some c → (e.origin = .lineDischarge ∨ e.origin = .consoleDischarge) →
      (e.owner = .console ∨ s.work.ask c = none) →
      ends (fun w => w.without e id) fun j => only e.owner j
        (.dischargeDone e.carrier c .recirculated e.ref (e.misses + 1) s.loop.tracker.revolution)) ∧
    (∀ (t : Trial) (i : Item), 2 ≤ e.misses → e.origin = .chuteItem → e.trial = some t.id →
      s.work.trial t.id = some t → t.items.find? (fun j => j.carrier == e.carrier) = some i →
      (∀ z ∈ s.work.windows, ¬(z.trial = t.id ∧ z.item = some i.index)) →
      (∀ u ∈ s.work.plan, u.kind = .chute → u.state ≠ .active) →
      ends (fun w => (w.without e id).setTrial (t.ended i .fireMissed 0)) fun _ => []) ∧
    (∀ (t : Trial) (g : Geometry), 2 ≤ e.misses → e.origin = .beltJog → e.chute = none → e.trial = some t.id →
      s.work.trial t.id = some t → t.target = e.carrier → s.loop.tracker.geometry = some g →
      s.work.fires.length ≤ 256 → (∀ z ∈ s.work.fires, z.carrier = e.carrier → z.seq = e.seq) →
      ends (fun w => (w.without e id).jogsAnew g s.loop.tracker.v
        { t with belt := { t.belt with misses := t.belt.misses + 1 } }) fun _ => [])) ∧
  (∀ n v, q.job = .setSpeed n v →
    (s.work.dist = none → ends id fun _ => []) ∧
    ∀ (d : Distribution) (u : Nat) (m : Bool), s.work.dist = some d →
      d.rows.find? (fun z => z.tag == n) = some ⟨n, .sent u m⟩ →
      let becomes (x : RowState) : Prop :=
        let rows : List Row := d.rows.map fun z => if z.tag = n then { z with state := x } else z
        let settled : Prop := ∀ z ∈ rows, z.state = .withheld ∨ z.state = .acked d.value ∨ z.state = .failed d.value
        let number (y : RowState) : Nat := (rows.filter fun z => decide (z.state = y)).length
        (¬settled → ends (fun w => { w with dist := some { d with rows := rows } }) fun _ => []) ∧
        (settled → ends (fun w => { w with dist := none }) fun j => only .line j
          (.speedSet d.value d.cause (number (.acked d.value)) (number (.failed d.value))))
      (u = d.value → m = false → becomes (.failed d.value)) ∧
      (∀ p : Point, u ≠ d.value ∨ m = true → s.work.point n = some p →
        (s.loop.fences.getLsbD p.config.zone = true → becomes .withheld) ∧
        (s.loop.fences.getLsbD p.config.zone = false → (∀ a, p.route = some a → a.branch = br) →
          becomes (.failed d.value)))) ∧
  (∀ n o, q.job = .speedQuery n o →
    (∀ t : Trial, s.work.trial n = some t → t.order = o → t.state = .active → t.fails + 1 < t.limit →
      ends (fun w => w.setTrial
        { t with drive := { t.drive with failed := t.drive.failed + 1 }, fails := t.fails + 1, streak := 0 })
        fun _ => []) ∧
    ((∀ t : Trial, s.work.trial n = some t → t.order = o → t.state ≠ .active) → ends id fun _ => []))

/-- A walk of the digest in flight is marked DISTURBED (R49). -/
def State.disturbed (s : State) : State := { s with digest := s.digest.map fun x => { x with disturbed := true } }

/-! ## The laws -/

/-- R170: at most 64 notices. R167: at most 8 requests. R168: one awaited answer for each request in the intake. -/
def Port.Law (p : Port) : Prop :=
  p.notices.length ≤ 64 ∧ p.intake.length ≤ 8 ∧ (p.answers.filter Option.isNone).length = p.intake.length

/-- R1: a loaded geometry lies in the ranges. -/
def Geometry.Law (g : Geometry) : Prop :=
  (10000 ≤ g.length ∧ g.length ≤ 600000) ∧ (32 ≤ g.carriers ∧ g.carriers ≤ 1024) ∧
  (300 ≤ g.pitch ∧ g.pitch ≤ 2000) ∧ (1 ≤ g.scale ∧ g.scale ≤ 1048575) ∧ (1 ≤ g.homeTol ∧ g.homeTol ≤ 200) ∧
  g.grace ≤ 1000 ∧ g.slack ≤ 200 ∧ g.latency ≤ 20 ∧ (500 ≤ g.vmax ∧ g.vmax ≤ 4000) ∧ g.jog < g.length ∧
  (1 ≤ g.linkNode ∧ g.linkNode ≤ 126) ∧ (1 ≤ g.maxAge ∧ g.maxAge ≤ 4095) ∧ g.carriers * g.pitch = g.length

/-- R6: the position exists exactly in LOCKED and COASTING and lies in 0..L−1. R5, R7, R9, R10, R11, R14, R15: the
ranges of the tracker's counts. R10: the flag holds only in LOCKED, and in COASTING until the next sample. -/
def Tracker.Law (t : Tracker) : Prop :=
  (∀ g, t.geometry = some g → g.Law) ∧ (t.geometry = none ↔ t.lock = .noGeometry) ∧
  (t.pos.isSome ↔ t.lock = .locked ∨ t.lock = .coasting) ∧
  (∀ g x, t.geometry = some g → t.pos = some x → x < g.length) ∧
  t.frac < 65536 ∧ t.samples.length = 8 ∧ t.v ≤ 65535 ∧ t.still ≤ 250 ∧ t.run ≤ 250 ∧ t.coast ≤ 2 ∧ t.rejected ≤ 1 ∧
  t.setpoint ≤ 4000 ∧ (t.steady = true → t.lock = .locked ∨ t.lock = .coasting)

/-- R37: at most 2,048 records in ascending tag order, none sharing a tag, none with tag 0. R58: no two hold one route;
R57: a CHUTE has none. R38: a record in CONSOLE custody is OUT_OF_SERVICE. -/
def RegisterLaw (ps : List Point) : Prop :=
  ps.length ≤ 2048 ∧ ps.Pairwise (fun p q => p.tag < q.tag) ∧
  ps.Pairwise (fun p q => p.route = none ∨ p.route ≠ q.route) ∧
  ∀ p ∈ ps, p.tag ≠ 0 ∧ (p.kind = .chute → p.route = none) ∧ (p.custody = .console → p.service = .outOfService)

/-- R159 to R162: a channel's blocks lie in the memory's 64, and its records never exceed them. A single buffer in
ACCEPT has room; a double buffer in ACCEPT has exactly one half FILLING, with room, and a FREE half is empty. -/
def Channel.Law (c : Channel) : Prop :=
  1 ≤ c.count ∧ c.first + c.count ≤ 64 ∧
  match c.buffer with
  | .single t rs =>
    t ≤ 32 * c.count ∧ rs.length ≤ 32 * c.count ∧
    (c.mode = .accept → rs.length < if t = 0 then 32 * c.count else t)
  | .double a b _ =>
    c.count % 2 = 0 ∧ a.records.length ≤ 16 * c.count ∧ b.records.length ≤ 16 * c.count ∧
    (a.state = .free → a.records = []) ∧ (b.state = .free → b.records = []) ∧
    (c.mode = .accept →
      (a.state = .filling ∧ b.state ≠ .filling ∧ a.records.length < 16 * c.count) ∨
      (b.state = .filling ∧ a.state ≠ .filling ∧ b.records.length < 16 * c.count))

/-- R159, R160: eight channels; no block belongs to two of them, and no two are bound to one point. -/
def CaptureLaw (cs : List (Option Channel)) : Prop :=
  cs.length = 8 ∧ (∀ c, some c ∈ cs → c.Law) ∧
  cs.Pairwise (fun x y => ∀ c d, x = some c → y = some d →
    c.tag ≠ d.tag ∧ (c.first + c.count ≤ d.first ∨ d.first + d.count ≤ c.first))

/-- R150, R151: tags of the outstanding table lie in 0..15 and differ, at most 16 transactions, at most 8 to one node,
and at most 2 to one node that are not FIRE transactions. R152: at most four attempts. R155: at most 32
acknowledgements. R147: 126 nodes, timeout counts 0..3. -/
def Ring.Law (r : Ring) : Prop :=
  r.nodes.length = 126 ∧ (∀ x ∈ r.nodes, x.timeouts ≤ 3) ∧
  (r.table.map Txn.tag).Nodup ∧ r.table.length ≤ 16 ∧
  (∀ x ∈ r.table, x.tag < 16 ∧ 1 ≤ x.attempts ∧ x.attempts ≤ 4) ∧ (∀ n, r.outstanding n ≤ 8 ∧ r.otherOutstanding n ≤ 2) ∧
  r.acks.length ≤ 32 ∧ ∀ q ∈ r.waiting, q.attempts ≤ 3

/-- R84: at most 256 entries, at most one for a carrier; misses 0..2; requested only while WAITING. The joining numbers
differ and lie below the counter. R84: an entry that names a chute names one in the custody of its owner. R101: at most
512 windows, at most one for a sensor and a carrier. -/
def Work.ListLaw (w : Work) : Prop :=
  w.fires.length ≤ 256 ∧ w.fires.Pairwise (fun e f => e.carrier ≠ f.carrier ∧ e.seq ≠ f.seq) ∧
  (∀ e ∈ w.fires, e.seq < w.fireCount ∧ e.misses ≤ 2 ∧ (e.state = .sent → e.requested = false)) ∧
  (∀ e ∈ w.fires, ∀ c, e.chute = some c → ∃ p, w.point c = some p ∧ p.kind = .chute ∧ p.custody = e.owner) ∧
  w.windows.length ≤ 512 ∧ w.windows.Pairwise (fun x y => ¬(x.sensor = y.sensor ∧ x.carrier = y.carrier))

/-- R113, R40, R41, R71: a trial on a point targets a record of its kind in CONSOLE custody for as long as it is in the
plan. -/
def Work.TargetLaw (w : Work) : Prop :=
  ∀ t ∈ w.plan, t.kind ≠ .belt → ∃ p, w.point t.target = some p ∧ p.custody = .console ∧ p.kind = t.kind.pointKind

/-- R114: the proof of a point is IN_TRIAL exactly when the plan holds a trial on it, and a carrier's belt proof
likewise; a prior proof is held exactly then, and is never IN_TRIAL. R79: one carrier record for each carrier of the
geometry. -/
def State.ProofLaw (s : State) : Prop :=
  (∀ p ∈ s.work.points, (p.proof = .inTrial ↔ ∃ t ∈ s.work.plan, t.kind ≠ .belt ∧ t.target = p.tag) ∧
    (p.prior.isSome ↔ p.proof = .inTrial) ∧ p.prior ≠ some .inTrial) ∧
  (∀ n c, s.work.carriers[n]? = some c →
    (c.proof = .inTrial ↔ ∃ t ∈ s.work.plan, t.kind = .belt ∧ t.target = n) ∧
    (c.prior.isSome ↔ c.proof = .inTrial) ∧ c.prior ≠ some .inTrial) ∧
  (∀ t ∈ s.work.plan, t.kind = .belt → t.target < s.work.carriers.length) ∧
  ∀ g, s.loop.tracker.geometry = some g → s.work.carriers.length = g.carriers

/-- R65: at most 16 asks, at most one for a tag, each on a point in LINE custody that is IN_SERVICE while ASKED and
OUT_OF_SERVICE while DRAINING. -/
def Work.AskLaw (w : Work) : Prop :=
  w.asks.length ≤ 16 ∧ w.asks.Pairwise (fun a b => a.tag ≠ b.tag) ∧
  ∀ a ∈ w.asks, ∃ p, w.point a.tag = some p ∧ p.custody = .line ∧
    p.service = (if a.state = .draining then .outOfService else .inService)

/-- R112, R114: at most 64 trials, ids in 1..255 that differ, the next id in 1..255. R115: at most 16 are ACTIVE or
HELD. R40, R113: no two target the same point or carrier. R125: at most 4 items in flight. -/
def Work.PlanLaw (w : Work) : Prop :=
  w.plan.length ≤ 64 ∧ w.plan.Pairwise (fun t u => t.id ≠ u.id ∧
    ¬(t.target = u.target ∧ (t.kind = .belt ↔ u.kind = .belt))) ∧
  (∀ t ∈ w.plan, 1 ≤ t.id ∧ t.id ≤ 255 ∧ t.items.length ≤ 4) ∧ 1 ≤ w.nextId ∧ w.nextId ≤ 255 ∧ w.running ≤ 16

end Sys2Proof.Machine
end

