-- ==== Sys2Proof/Certificates/Slice0/Obligations.lean ====
section
/-! DEFINITION. The statements for the provers. Each says what a rule of spec/ says of the model; OBLIGATIONS.json gives
its title, its kind and the rules. `exec` of a request is stated for a port that takes the request at once. -/

open Sys2Proof Sys2Proof.Machine

/-! ## Steps, resets and links -/

/-- A step runs the command at the front of the queue; on an empty queue the part idles (the model's choice, log 2). -/
def Obligations.StepRunsFrontCommand : Prop :=
  (∀ (c : Instr) (s : State) (rest : List Instr),
    step { s with pending := c :: rest } = exec c { s with pending := rest }) ∧
  (∀ s : State, s.pending = [] → step s = .next s)

/-- POWER_ON and RESET_PIN (R20, R37, R51, R53, R65, R79, R84, R101, R112, R131, R144, R159, R173): whatever came
before, the part holds its power-on state, with the sampled inputs; a branch with ring signal is ENUMERATING, with
ENUMERATE on its downlink. The commands that wait stay (log 32); fields without a stated value take the model's, and a
break held over the reset is taken as ended (log 1). -/
def Obligations.StartsEveryBlock : Prop :=
  ∀ (x : Samples) (s : State),
    let ring (present : Bool) : Ring :=
      if present then
        { Ring.initial with
          state := .enumerating, signal := true, kept := some (List.replicate 126 .absent)
          downlink := some .enumerate, wire := DownFrame.enumerate.bytes, announceEnd := 50 }
      else Ring.initial
    let start (cause : StartCause) : State :=
      { loop := ⟨Tracker.initial x.encA x.encB, ~~~x.zones, 0⟩
        work := { points := [], asks := [], carriers := [], fires := [], fireCount := 0, windows := [], armCount := 0,
                  plan := [], nextId := 1, submitCount := 0, dist := none, polls := [],
                  ringA := ring x.ringA, ringB := ring x.ringB, outbox := [] }
        routes := List.replicate 8 ⟨false, 0, 0, .a, none, 1, false, false⟩
        channels := List.replicate 8 none
        digest := none
        line := { intake := [], answers := [], notices := [.started cause (~~~x.zones)], overflow := false,
                  breakHeld := false, rx := [], hunting := false, wire := [] }
        console := { intake := [], answers := [], notices := [.started cause (~~~x.zones)], overflow := false,
                     breakHeld := false, rx := [], hunting := false, wire := [] }
        fresh := 0
        pending := s.pending }
    exec (.powerOn x) s = .next (start .power) ∧ exec (.resetPin x) s = .next (start .pin)

/-- The state after reset, with the sampled inputs the model names (log 1), keeps every law that the statements below
say each step keeps. -/
def Obligations.ResetKeepsTheLaws : Prop :=
  State.reset.Quiet ∧ State.reset.line.Law ∧ State.reset.console.Law ∧ State.reset.loop.tracker.Law ∧
  RegisterLaw State.reset.work.points ∧ State.reset.work.AskLaw ∧ CaptureLaw State.reset.channels ∧
  State.reset.work.ringA.Law ∧ State.reset.work.ringB.Law ∧ State.reset.work.ListLaw ∧ State.reset.work.TargetLaw ∧
  State.reset.work.PlanLaw ∧ State.reset.ProofLaw

/-- BREAK_BEGIN, PORT_RESET, BREAK_END and ANSWER_FRAME_SENT (R70, R168, R174). The break that cuts a frame short adds
BAD_FRAME with tag 0 (R166). The port reset empties the link's intake, answers and queue, takes it from the digest's
waiters, and posts STARTED(PORT) and, to the line, the asks in ASKED in table order. A formed answer leaves, oldest
first, and none during a break (the model's reading of a break is log 15). -/
def Obligations.LinkBreaksAndAnswers : Prop :=
  ∀ (k : Link) (s : State),
    exec (.breakBegin k) s = .next (s.setPort k { s.port k with
      answers := (s.port k).answers ++ (if (s.port k).rx = [] then [] else [some ⟨0, 0, .badFrame, []⟩])
      rx := [], breakHeld := true }) ∧
    exec (.breakEnd k) s = .next (s.setPort k { s.port k with breakHeld := false }) ∧
    (s.Quiet →
      let asks : List Notice := s.work.asks.filterMap fun (a : Ask) =>
        match a.state, s.work.point a.tag with
        | .asked r, some p => some (.custodyAsk a.tag p.kind r)
        | _, _ => none
      let emptied : Port :=
        { s.port k with intake := [], answers := [], notices := [], overflow := false, rx := [] }
      let dropped : State := { s with digest := s.digest.map fun (x : Walk) => x.setWaiter k false }
      exec (.portReset k) s = .next
        ((dropped.setPort k emptied).notified k
          (.started .port s.loop.fences :: (if k = .line then asks else [])))) ∧
    (∀ a rest, (s.port k).answers = some a :: rest → (s.port k).breakHeld = false →
      exec (.answerFrameSent k) s = .next (s.setPort k { s.port k with answers := rest, wire := a.bytes })) ∧
    ((s.port k).breakHeld = true → exec (.answerFrameSent k) s = .next s)

/-- FETCH_NOTICES (R171): the oldest notices up to the maximum leave the queue, with the number left and the marker,
which is then cleared; a maximum outside 1..6 is INVALID and changes nothing. The marker's byte, 0 or 1, is the
model's code of a flag (log 21), and the layouts of the notices are its reading of 12.6 (log 20). -/
def Obligations.NoticesFetched : Prop :=
  ∀ (k : Link) (s : State) (rtag max : Nat), s.Takes k → rtag ≠ 0 →
    exec (.fetchNotices k rtag max) s = .next
      (if 1 ≤ max ∧ max ≤ 6 then
        (s.setPort k { s.port k with notices := (s.port k).notices.drop max, overflow := false }).answered k rtag
          (.fetchNotices max) .ok
          (.u8 ((s.port k).notices.length - max) :: .u8 (if (s.port k).overflow then 1 else 0) ::
           .u8 (min max (s.port k).notices.length) :: ((s.port k).notices.take max).flatMap Notice.wire)
       else s.answered k rtag (.fetchNotices max) .invalid [])

/-! ## Frames of the master links -/

/-- Reading a request body gives back the request that was laid out, for every request whose fields fit (12.6). -/
def Obligations.RequestBodyRoundTrip : Prop :=
  ∀ q : Request, q.wellFormed = true → readBody q.code (requestBody q) = some q

/-- REQUEST_FRAME (R166, R167, R169), the checks in their order, none of which does anything but answer. BAD_FRAME
with tag 0 for a frame that does not begin with 165 or whose length lies outside 2..1,024, after which bytes are
discarded up to the next 165, and for a CRC-16 that does not match; UNKNOWN for a kind that is none of the thirty;
NOT_PERMITTED; INVALID for tag 0 and for a body of another length than its kind's; FULL with eight requests held. Else
the request joins the intake of its link. That the kind of a bad frame counts as unknown, code 0, is the model's
reading (log 15). -/
def Obligations.RequestFrameAdmitted : Prop :=
  ∀ (k : Link) (s : State), (s.port k).breakHeld = false → (s.port k).rx = [] → (s.port k).hunting = false →
    let may (kind : Nat) : Bool :=
      match k with
      | .line => decide (11 ≤ kind ∧ kind ≤ 30)
      | .console => decide ((1 ≤ kind ∧ kind ≤ 10) ∨ (14 ≤ kind ∧ kind ≤ 30))
    let pushed (hunting : Bool) (a : Answer) : State :=
      s.setPort k { s.port k with answers := (s.port k).answers ++ [some a], hunting := hunting }
    let bad : Answer := ⟨0, 0, .badFrame, []⟩
    let framed (rtag kind : Nat) (body : List Byte) : List Byte :=
      let counted := bigEndian 2 (body.length + 2) ++ bigEndian 1 rtag ++ bigEndian 1 kind ++ body
      165#8 :: (counted ++ bigEndian 2 (crc16 counted))
    let lengths : List (Nat × Nat) :=
      [(1, 29), (3, 2), (4, 0), (7, 1), (8, 2), (9, 2), (10, 1), (11, 2), (12, 3), (13, 3), (14, 4), (15, 2), (16, 2),
       (17, 2), (19, 1), (20, 2), (21, 0), (22, 1), (23, 1), (24, 3), (25, 0), (27, 1), (28, 1), (29, 2), (30, 1)]
    (∀ (rtag : Nat) (q : Request), q.wellFormed = true → rtag < 256 →
      exec (.requestFrame k (requestFrame rtag q)) s = .next
        (if may q.code = false then s.answered k rtag q .notPermitted []
         else if rtag = 0 then s.answered k 0 q .invalid []
         else if (s.port k).intake.length < 8 then
           s.setPort k { s.port k with intake := (s.port k).intake ++ [⟨rtag, q⟩]
                                       answers := (s.port k).answers ++ [none] }
         else s.answered k rtag q .full [])) ∧
    (∀ (b : Byte) (rest : List Byte), b ≠ 165#8 → 165#8 ∉ rest →
      exec (.requestFrame k (b :: rest)) s = .next (pushed true bad)) ∧
    (∀ (h l : Byte) (rest : List Byte), numberOf [h, l] < 2 ∨ 1024 < numberOf [h, l] → 165#8 ∉ rest →
      exec (.requestFrame k (165#8 :: h :: l :: rest)) s = .next (pushed true bad)) ∧
    (∀ (h l : Byte) (inner : List Byte) (c1 c0 : Byte), numberOf [h, l] = inner.length → 2 ≤ inner.length →
      inner.length ≤ 1024 → crc16 (h :: l :: inner) ≠ numberOf [c1, c0] →
      exec (.requestFrame k (165#8 :: h :: l :: inner ++ [c1, c0])) s = .next (pushed false bad)) ∧
    (∀ (rtag kind : Nat) (body : List Byte), rtag < 256 → kind < 256 → body.length ≤ 1022 →
      (kind = 0 ∨ 30 < kind →
        exec (.requestFrame k (framed rtag kind body)) s = .next (pushed false ⟨rtag, 0, .unknown, []⟩)) ∧
      (1 ≤ kind → kind ≤ 30 → may kind = false →
        exec (.requestFrame k (framed rtag kind body)) s = .next (pushed false ⟨rtag, kind, .notPermitted, []⟩)) ∧
      (may kind = true → rtag = 0 →
        exec (.requestFrame k (framed rtag kind body)) s = .next (pushed false ⟨0, kind, .invalid, []⟩)) ∧
      (∀ n, may kind = true → rtag ≠ 0 → (kind, n) ∈ lengths → body.length ≠ n →
        exec (.requestFrame k (framed rtag kind body)) s = .next (pushed false ⟨rtag, kind, .invalid, []⟩)))

/-- Every request is answered once with its own tag and kind, on its own link, behind the answers that wait there; the
other link's intake and answers stay, and a refusal leaves everything else as it was (R168). A request taken from the
intake leaves it, and its answer takes the first awaited place. Tag 0 is INVALID (R166). On an empty intake a request's
arrival and its taking are one event, which ends a discarding of bytes up to the next 165; with another request in
front, during a break, or with a frame on the link not yet whole, nothing happens (the model's reading, log 4). -/
def Obligations.EveryRequestAnsweredOnce : Prop :=
  ∀ (c : Instr) (k : Link) (rtag : Nat) (q : Request) (s : State), c.request = some (k, rtag, q) → s.Quiet →
    ((s.port k).intake = [] → (s.port k).breakHeld = false → (s.port k).rx = [] →
      ∃ (t : State) (x : Status) (body : List Field), exec c s = .next t ∧
        (t.port k).answers = (s.port k).answers ++ [some ⟨rtag, q.code, x, body⟩] ∧ (t.port k).intake = [] ∧
        (t.port k).hunting = false ∧
        (∀ j, j ≠ k → (t.port j).answers = (s.port j).answers ∧ (t.port j).intake = (s.port j).intake) ∧
        t.pending = s.pending ∧ (rtag = 0 → x = .invalid) ∧
        (x.refuses = true →
          t = (s.setPort k { s.port k with hunting := false }).answered k rtag q x body)) ∧
    (∀ rest before after, (s.port k).intake = ⟨rtag, q⟩ :: rest →
      (s.port k).answers = before ++ none :: after → none ∉ before →
      ∃ (t : State) (x : Status) (body : List Field), exec c s = .next t ∧
        (t.port k).answers = before ++ some ⟨rtag, q.code, x, body⟩ :: after ∧ (t.port k).intake = rest ∧
        (x.refuses = true →
          t = s.setPort k { s.port k with answers := before ++ some ⟨rtag, q.code, x, body⟩ :: after
                                          intake := rest })) ∧
    (((s.port k).intake = [] ∧ ((s.port k).breakHeld = true ∨ (s.port k).rx ≠ [])) ∨
        (∃ h rest, (s.port k).intake = h :: rest ∧ h ≠ ⟨rtag, q⟩) →
      exec c s = .next s)

/-- The READ requests change nothing but the answers (R19, R45, R46, R63, R83, R122, R158). Each body is spelled out, an
optional field as a byte 0, or 1 and its value: READ_POINT; LIST_POINTS with the checks and the filters of R46;
READ_TRACKER; READ_WINDOW with the records its window decides, routed and unrouted for their node or their permission;
READ_CARRIER with the entry of the carrier; READ_TRIAL with the QUEUED trials ahead; READ_BRANCH. The layouts are the
model's reading of 12.6 (log 20), and so are the codes of prior proofs and of flags (log 21); a record unrouted for both
reasons counts for its node (log 37); READ_BRANCH of another value is INVALID, which R158 does not say (log 23). -/
def Obligations.ReadsChangeNothing : Prop :=
  ∀ (k : Link) (s : State) (rtag : Nat), s.Takes k → rtag ≠ 0 →
    let flag (b : Bool) : Field := .u8 (if b then 1 else 0)
    let one (x : Option Nat) : List Field := match x with | none => [.u8 0] | some n => [.u8 1, .u8 n]
    let two (x : Option Nat) : List Field := match x with | none => [.u8 0] | some n => [.u8 1, .u16 n]
    let dev (x : Option Int) : List Field := match x with | none => [.u8 0] | some d => [.u8 1, .s16 d]
    let four (x : Option Nat) : List Field := match x with | none => [.u8 0] | some n => [.u8 1, .u32 n]
    let branch (b : Branch) : Field := .u8 (match b with | .a => 1 | .b => 2)
    let link (j : Link) : Field := .u8 (match j with | .line => 1 | .console => 2)
    let record (x : ProofRecord) : List Field :=
      [.u8 x.kind.code, .u8 x.result.code] ++ one (x.reason.map FailReason.code) ++
      [.u16 x.hits, .u16 x.fails, .s16 x.mean, .u16 x.spread, .u32 x.revolution]
    let point (p : Point) : List Field :=
      [.u16 p.tag, .u8 p.kind.code, .u32 p.config.loc, .s16 p.config.bias, .u16 p.config.tol, .u8 p.config.zone,
       .u8 (if s.loop.fences.getLsbD p.config.zone then 1 else 2)] ++
      one (p.config.edge.map Edge.code) ++ two p.config.entry ++ two p.config.throw ++ one (p.config.side.map Side.code) ++
      (match p.route with | none => [.u8 0] | some a => [.u8 1, branch a.branch, .u8 a.node, .u8 a.channel]) ++
      [link p.custody, .u8 p.service.code, .u8 p.proof.code] ++ one (p.prior.map Proof.code) ++
      (match p.record with | none => [.u8 0] | some x => .u8 1 :: record x) ++
      (if p.kind = .sensor ∨ p.kind = .induct then
        two (s.loop.tracker.geometry.map fun g => min p.config.tol ((g.pitch - 1) / 2)) else [])
    (∀ tag, exec (.readPoint k rtag tag) s = .next
      (match s.work.point tag with
       | none => s.answered k rtag (.readPoint tag) .notFound []
       | some p => s.answered k rtag (.readPoint tag) .ok (point p))) ∧
    (∀ f : ListFields,
      let valid : Prop := f.start ≠ 0 ∧ 1 ≤ f.count ∧ f.count ≤ 16 ∧ (∀ x, f.kind = some x → 1 ≤ x ∧ x ≤ 4) ∧
        (∀ x, f.custody = some x → 1 ≤ x ∧ x ≤ 2) ∧ ∀ x, f.proof = some x → 1 ≤ x ∧ x ≤ 4
      (¬valid → exec (.listPoints k rtag f) s = .next (s.answered k rtag (.listPoints f) .invalid [])) ∧
      (valid → ∃ found : List Point,
        (∀ p, p ∈ found ↔ p ∈ s.work.points ∧ f.start ≤ p.tag ∧ (∀ x, f.kind = some x → p.kind.code = x) ∧
          (∀ x, f.custody = some x → Link.code p.custody = x) ∧ ∀ x, f.proof = some x → p.proof.code = x) ∧
        found.Sublist s.work.points ∧
        exec (.listPoints k rtag f) s = .next (s.answered k rtag (.listPoints f) .ok
          ((found.take f.count).flatMap point ++ two (found[f.count]?.map Point.tag))))) ∧
    (let tr := s.loop.tracker
     let homed : Prop := tr.lock = .verifying ∨ tr.lock = .locked ∨ tr.lock = .coasting
     exec (.readTracker k rtag) s = .next (s.answered k rtag .readTracker .ok
      ((match tr.geometry with
        | none => [.u8 0]
        | some g =>
          [.u8 1, .u32 g.length, .u16 g.carriers, .u16 g.pitch, .u32 g.scale, .u16 g.homeTol, .u16 g.grace, .u16 g.slack,
           .u16 g.latency, .u16 g.vmax, .u32 g.jog, branch g.linkBranch, .u8 g.linkNode, .u16 g.maxAge]) ++
       [.u8 tr.lock.code] ++ four tr.pos ++ (if homed then [.u8 1, .s32 tr.homeDist] else [.u8 0]) ++
       [.u32 tr.revolution, .u16 tr.coast, .u16 tr.rejected, .s16 tr.correction, .u16 tr.v, flag tr.reverse,
        .u8 tr.motion.code, flag tr.steady, .u16 tr.setpoint]))) ∧
    (∀ n, s.routes[n]? = none →
      exec (.readWindow k rtag n) s = .next (s.answered k rtag (.readWindow n) .invalid [])) ∧
    (∀ n x, s.routes[n]? = some x →
      let decides (p : Point) : Bool :=
        decide (p.kind ≠ .chute) && x.enabled && x.hits p.tag &&
        (s.routes.take n).all fun y => !(y.enabled && y.hits p.tag)
      let near (p : Point) : Bool := decide ((x.translate p.tag).node ≤ 126)
      let may (p : Point) : Bool :=
        match p.kind with
        | .sensor => x.observe
        | .induct => x.observe
        | .zoneDrive => x.observe && x.command
        | .chute => false
      let number (f : Point → Bool) : Nat := (s.work.points.filter f).length
      exec (.readWindow k rtag n) s = .next (s.answered k rtag (.readWindow n) .ok
        ([flag x.enabled, .u16 x.base, .u16 x.mask, .u8 x.mode.code] ++ two x.weight ++
         [.u8 x.nodeBase, .u8 ((if x.observe then 1 else 0) + (if x.command then 2 else 0)),
          .u16 (number fun p => decides p && near p && may p), .u16 (number fun p => decides p && !near p),
          .u16 (number fun p => decides p && near p && !may p)]))) ∧
    (∀ n, s.loop.tracker.geometry = none →
      exec (.readCarrier k rtag n) s = .next (s.answered k rtag (.readCarrier n) .noGeometry [])) ∧
    (∀ n, s.loop.tracker.geometry ≠ none → s.work.carriers[n]? = none →
      exec (.readCarrier k rtag n) s = .next (s.answered k rtag (.readCarrier n) .invalid [])) ∧
    (∀ n c, s.loop.tracker.geometry ≠ none → s.work.carriers[n]? = some c →
      exec (.readCarrier k rtag n) s = .next (s.answered k rtag (.readCarrier n) .ok
        ((match c.load with
          | .empty => [.u8 1, .u8 0, .u8 0, .u8 0, .u8 0]
          | .loaded owner ref dest => [.u8 2, .u8 1, link owner, .u8 1, .u32 ref.toNat] ++ two dest ++ [.u8 0]
          | .fault r => [.u8 3, .u8 0, .u8 0, .u8 0, .u8 1, .u8 r.code]) ++
         [.u8 c.proof.code] ++ one (c.prior.map Proof.code) ++
         (match c.belt with
          | none => [.u8 0]
          | some b => .u8 1 :: (two b.achieved ++ [.u16 b.hits, .u16 b.fails, .s16 b.mean, .u16 b.spread])) ++
         (match s.work.fires.find? fun (e : Entry) => e.carrier == n with
          | none => [.u8 0]
          | some e =>
            [.u8 1, .u16 e.carrier] ++ two e.chute ++ [.u8 e.origin.code, link e.owner] ++ one e.trial ++
            [.u32 e.nominal, .u32 e.firePoint, .u16 e.misses, .u8 e.state.code] ++
            (if e.state = .waiting then [.u8 1, flag e.requested] else [.u8 0]) ++
            (match e.lastPassed with | none => [.u8 0] | some v => [.u8 1, .s32 v]) ++
            [.u16 s.work.fires.length])))) ∧
    (∀ n, n = 0 ∨ 255 < n →
      exec (.readTrial k rtag n) s = .next (s.answered k rtag (.readTrial n) .invalid [])) ∧
    (∀ n, 1 ≤ n → n ≤ 255 → s.work.trial n = none →
      exec (.readTrial k rtag n) s = .next (s.answered k rtag (.readTrial n) .notFound [])) ∧
    (∀ n t, 1 ≤ n → n ≤ 255 → s.work.trial n = some t →
      let ahead : List Trial := s.work.plan.filter fun u => decide (u.state = .queued) && decide (u.order < t.order)
      let bit (b : Bool) (v : Nat) : Nat := if b then v else 0
      let o := t.outcomes
      exec (.readTrial k rtag n) s = .next (s.answered k rtag (.readTrial n) .ok
        ([.u8 t.id, .u8 t.kind.code, .u16 t.target, .u32 t.order, .u8 t.state.code,
          .u8 (bit t.reasons.unlocked 1 + bit t.reasons.unsteady 2 + bit t.reasons.fenced 4 + bit t.reasons.noSpace 8),
          .u8 t.need, .u8 t.limit, .u16 t.timeLimit, .u16 (t.remaining / 1000), .u16 t.streak, .u16 t.fails,
          .u16 t.stats.count, .s32 t.stats.sum] ++ dev t.stats.least ++ dev t.stats.most ++
         two t.band ++ two t.jogSpeed ++ two t.jogTime ++ two t.armed ++
         (if t.kind = .chute then
           [.u16 t.items.length, .u16 t.claimed, .u16 o.delivered, .u16 o.notSeen, .u16 o.misplaced,
            .u16 o.sequenceError, .u16 o.beltFault, .u16 o.unjudged, .u16 o.fireMissed, .u16 o.withdrawn] else []) ++
         (if t.state = .queued then [.u8 1, .u16 ahead.length] else [.u8 0]) ++
         [.u16 t.stats.count, .s16 (if t.stats.count = 0 then 0 else Int.tdiv t.stats.sum t.stats.count),
          .u16 t.stats.spread] ++ dev t.stats.least ++ dev t.stats.most ++
         (match t.kind with
          | .sensor =>
            (match s.work.windows.find? fun (y : Window) => y.trial == t.id && decide (y.purpose = .sensorPass) with
             | none => [.u8 0]
             | some y => [.u8 1, .u16 y.carrier, .u32 y.xexp, .u32 y.close])
          | .chute => t.items.flatMap fun (i : Item) =>
            [.u16 i.index, .u16 i.carrier, .u8 i.stage.code] ++
            (match i.verdict with
             | none => [.u8 0]
             | some (.hit d) => [.u8 1, .u8 1, .u8 1, .s16 d]
             | some (.early d) => [.u8 1, .u8 2, .u8 1, .s16 d]
             | some (.late d) => [.u8 1, .u8 3, .u8 1, .s16 d]
             | some .miss => [.u8 1, .u8 4, .u8 0]
             | some .cancelled => [.u8 1, .u8 5, .u8 0]) ++ one (i.reply.map ItemReply.code)
          | .zoneDrive =>
            [.u16 t.drive.sent, .u16 t.drive.inBand, .u16 t.drive.outBand, .u16 t.drive.failed] ++
            (match t.drive.last with | none => [.u8 0] | some x => [.u8 1, .u16 x.1, .s16 x.2])
          | .belt =>
            [.u16 t.belt.sent, .u16 t.belt.inBand, .u16 t.belt.outBand, .u16 t.belt.faults, .u16 t.belt.noReply,
             .u16 t.belt.misses] ++ two t.belt.achieved)))) ∧
    (let body (r : Ring) : List Field :=
      let out (n : Nat) : Nat := (r.table.filter fun y => decide (y.node = n)).length
      [.u8 r.state.code, flag r.signal, .u16 r.stats.bad, .u16 r.stats.orphan, .u16 r.stats.dup, .u16 r.stats.deferred,
       .u16 r.stats.unmapped] ++
      ((r.nodes.zipIdx 1).flatMap fun (x : Node × Nat) =>
        if x.1.state = .absent ∧ out x.2 = 0 then []
        else [.u8 x.2, .u8 x.1.state.code] ++ one (x.1.kind.map NodeKind.code) ++
          [.u16 x.1.channels, flag x.1.expected, .u16 x.1.timeouts, .u16 (out x.2)]) ++
      [.u16 r.table.length, .u16 (16 - r.table.length), .u16 r.fireq.length, .u16 r.driveq.length, .u16 r.relayq.length,
       .u16 r.acks.length]
     ∀ n, exec (.readBranch k rtag n) s = .next
      (if n = 1 then s.answered k rtag (.readBranch n) .ok (body s.work.ringA)
       else if n = 2 then s.answered k rtag (.readBranch n) .ok (body s.work.ringB)
       else s.answered k rtag (.readBranch n) .invalid []))

/-! ## Invariants: what every step keeps -/

/-- Between commands no notice waits to join a queue and no distribution is over (R137, R170). -/
def Obligations.QuietKept : Prop := ∀ s t : State, s.Quiet → step s = .next t → t.Quiet

/-- No queue holds more than 64 notices, no intake more than 8 requests, and a link awaits one answer for each request
in its intake (R167, R168, R170). -/
def Obligations.PortLawKept : Prop :=
  ∀ s t : State, s.line.Law ∧ s.console.Law → step s = .next t → t.line.Law ∧ t.console.Law

/-- The loop position exists exactly in LOCKED and COASTING and lies in 0..L−1, the geometry stays in its ranges, and
the tracker's counts in theirs (R1, R5, R6, R7, R9, R10, R11, R14, R15). -/
def Obligations.PositionLawKept : Prop := ∀ s t : State, s.loop.tracker.Law → step s = .next t → t.loop.tracker.Law

/-- The register stays in tag order within 2,048 records, no two records hold one route, and a record in CONSOLE custody
is OUT_OF_SERVICE (R37, R38, R57, R58). The ask table holds at most 16 asks, one for a tag, each on a point in LINE
custody that is IN_SERVICE while ASKED and OUT_OF_SERVICE while DRAINING (R65). -/
def Obligations.RegisterLawKept : Prop :=
  (∀ s t : State, RegisterLaw s.work.points → step s = .next t → RegisterLaw t.work.points) ∧
  (∀ s t : State, s.work.AskLaw → step s = .next t → t.work.AskLaw)

/-- The block ranges of capture channels never overlap, no two channels are bound to one point, and no channel holds
more records than its blocks take (R159 to R164). -/
def Obligations.CaptureLawKept : Prop :=
  ∀ s t : State, CaptureLaw s.channels → step s = .next t → CaptureLaw t.channels

/-- The outstanding table of a branch holds at most 16 transactions with tags that differ, at most 8 to one node and
at most 2 of those no fires, none beyond its fourth attempt; at most 32 acknowledgements wait (R147, R150, R151, R152,
R155). -/
def Obligations.TransactionLawKept : Prop :=
  ∀ s t : State, s.work.ringA.Law ∧ s.work.ringB.Law → step s = .next t → t.work.ringA.Law ∧ t.work.ringB.Law

/-- The fire list holds at most 256 entries, at most one for a carrier, each with fewer than three misses, and each that
names a chute names one in the custody of its owner; the window table holds at most 512 windows, at most one for a
sensor and a carrier (R84, R90, R101, R103). A trial on a point targets a record of its kind in CONSOLE custody. -/
def Obligations.ListLawKept : Prop :=
  ∀ s t : State, s.work.ListLaw ∧ s.work.TargetLaw → step s = .next t → t.work.ListLaw ∧ t.work.TargetLaw

/-- The plan holds at most 64 trials with ids that differ, no two on one target, at most 16 of them ACTIVE or HELD, and
at most 4 items in flight for each (R112, R113, R114, R115, R125). A point's proof is IN_TRIAL exactly when the plan
holds a trial on it, and a carrier's belt proof likewise (R114). -/
def Obligations.PlanLawKept : Prop :=
  (∀ s t : State, s.work.PlanLaw → step s = .next t → t.work.PlanLaw) ∧
  (∀ s t : State, s.work.PlanLaw ∧ s.work.TargetLaw ∧ s.ProofLaw → step s = .next t → t.ProofLaw)

/-- Only the loop's own events and LOAD_GEOMETRY change what the tracker and the zone lines say; SET_LOOP_SPEED changes
the setpoint copy alone, and a zone line its own fence state alone (R5, R7, R11, R12, R73). -/
def Obligations.LoopChangesOnlyAtItsEvents : Prop :=
  ∀ (c : Instr) (s t : State), exec c s = .next t →
    match c with
    | .powerOn _ => True
    | .resetPin _ => True
    | .loadGeometry _ _ => t.loop.fences = s.loop.fences
    | .encoderEvent _ _ => t.loop.fences = s.loop.fences
    | .homeEvent => t.loop.fences = s.loop.fences
    | .sampleTimerExpiry => t.loop.fences = s.loop.fences
    | .setLoopSpeed _ _ =>
      t.loop = { s.loop with tracker := { s.loop.tracker with setpoint := t.loop.tracker.setpoint } }
    | .zoneFenced z =>
      t.loop.tracker = s.loop.tracker ∧
      ∀ i < 8, t.loop.fences.getLsbD i = (if i = z.val then true else s.loop.fences.getLsbD i)
    | .zoneUnfenced z =>
      t.loop.tracker = s.loop.tracker ∧
      ∀ i < 8, t.loop.fences.getLsbD i = (if i = z.val then false else s.loop.fences.getLsbD i)
    | _ => t.loop = s.loop

/-- The revolution count never decreases, except that power-on, the reset pin and a geometry load set it to 0; it
grows by at most one at an event (R12, R13, R15). -/
def Obligations.RevolutionNeverDecreases : Prop :=
  ∀ (c : Instr) (s t : State), exec c s = .next t →
    match c with
    | .powerOn _ => t.loop.tracker.revolution = 0
    | .resetPin _ => t.loop.tracker.revolution = 0
    | .loadGeometry _ _ =>
      t.loop.tracker.revolution = 0 ∨ t.loop.tracker.revolution = s.loop.tracker.revolution
    | _ =>
      s.loop.tracker.revolution ≤ t.loop.tracker.revolution ∧
      t.loop.tracker.revolution ≤ s.loop.tracker.revolution + 1

/-! ## The Position Tracker -/

/-- LOAD_GEOMETRY is checked in the order of R1 and R2: the ranges, the BUSY conditions, the point locations; a request
refused changes nothing. -/
def Obligations.GeometryLoadChecks : Prop :=
  ∀ (s : State) (rtag : Nat) (f : GeometryFields), s.Takes .console → rtag ≠ 0 →
    let busy : Prop := s.work.plan ≠ [] ∨ s.work.fires ≠ [] ∨
      (s.loop.tracker.lock ≠ .noGeometry ∧ s.loop.tracker.motion ≠ .stopped)
    let outside : Prop := ∃ p ∈ s.work.points, f.length ≤ p.config.loc
    (¬f.inRange → exec (.loadGeometry rtag f) s = .next (s.answered .console rtag (.loadGeometry f) .invalid [])) ∧
    (f.inRange → busy →
      exec (.loadGeometry rtag f) s = .next (s.answered .console rtag (.loadGeometry f) .busy [])) ∧
    (f.inRange → ¬busy → outside →
      exec (.loadGeometry rtag f) s = .next (s.answered .console rtag (.loadGeometry f) .invalid [])) ∧
    (f.inRange → ¬busy → ¬outside → ∃ t, exec (.loadGeometry rtag f) s = .next t ∧
      t.console.answers = s.console.answers ++ [some ⟨rtag, 1, .ok, []⟩])

/-- An accepted LOAD_GEOMETRY (R3): the record is replaced, the tracker is SEEKING with its counts 0, the Carrier
Table is rebuilt EMPTY and UNPROVEN, the window table is emptied, LOCK is posted to both links, and STEADY where the
flag fell (R10). Everything else stays. -/
def Obligations.GeometryLoadResets : Prop :=
  ∀ (s : State) (rtag : Nat) (f : GeometryFields) (br : Branch), s.Takes .console → rtag ≠ 0 → f.inRange →
    f.linkBranch = br.code → s.work.plan = [] → s.work.fires = [] →
    (s.loop.tracker.lock = .noGeometry ∨ s.loop.tracker.motion = .stopped) →
    (∀ p ∈ s.work.points, p.config.loc < f.length) →
    let g : Geometry :=
      { length := f.length, carriers := f.carriers, pitch := f.pitch, scale := f.scale, homeTol := f.homeTol,
        grace := f.grace, slack := f.slack, latency := f.latency, vmax := f.vmax, jog := f.jog, linkBranch := br,
        linkNode := f.linkNode, maxAge := f.maxAge }
    let tr := s.loop.tracker
    let tr' : Tracker :=
      { tr with geometry := some g, lock := .seeking, pos := none, homeDist := 0, revolution := 0, coast := 0,
                rejected := 0, correction := 0, frac := 0, samples := List.replicate 8 0, steady := false, run := 0 }
    let s' : State :=
      { s with loop := { s.loop with tracker := tr' }
               work := { s.work with carriers := List.replicate f.carriers ⟨.empty, .unproven, none, none⟩
                                     windows := [] } }
    let ns : List Notice :=
      .lock .seeking 0 .geometry :: (if tr.steady then [.steady false tr.v tr.setpoint] else [])
    ∃ t, exec (.loadGeometry rtag f) s = .next t ∧
      (s'.answered .console rtag (.loadGeometry f) .ok []).Posted t ns ns

/-- ENCODER_EVENT (R4, R5, R6, R12, R15, R17). Without a geometry only the levels change. A count moves the
accumulator and the sample in progress; in VERIFYING the home distance too, held at L + H + 1 (a backward step lowers
a held one: the model's choice, log 36); in LOCKED and COASTING also the position. A forward move that reaches no
window's close and no fire point changes nothing outside the tracker; a backward move never does. A move past L + H
misses a home: LOCKED goes to COASTING with a synthesized home, every window coasted and LOCK(HOME_MISSED); a second
miss synthesizes another without a notice; the third loses lock, and so does an illegal transition. -/
def Obligations.EncoderMoves : Prop :=
  ∀ (s : State) (a b : Bool),
    let tr := s.loop.tracker
    let turned : Tracker := { tr with encA := a, encB := b }
    let now (t : Tracker) : State := { s with loop := { s.loop with tracker := t } }
    let loses (t : Tracker) (cause : LockCause) : Prop :=
      let ns : List Notice :=
        .lock .seeking tr.revolution cause :: (if tr.steady then [.steady false tr.v tr.setpoint] else [])
      ∃ u, exec (.encoderEvent a b) s = .next u ∧
        (now { t with lock := .seeking, pos := none, homeDist := 0, coast := 0, rejected := 0, steady := false,
                      run := 0 }).Posted u ns ns
    let illegal : Prop := levelOf a b = (levelOf tr.encA tr.encB + 2) % 4
    let ahead : Prop := levelOf a b = (levelOf tr.encA tr.encB + 1) % 4
    let back : Prop := levelOf tr.encA tr.encB = (levelOf a b + 1) % 4
    s.Quiet → tr.frac < 65536 →
    (tr.geometry = none → exec (.encoderEvent a b) s = .next (now turned)) ∧
    (levelOf a b = levelOf tr.encA tr.encB → exec (.encoderEvent a b) s = .next (now turned)) ∧
    ∀ g : Geometry, tr.geometry = some g →
      let up := (tr.frac + g.scale) / 65536
      let down := (g.scale + 65535 - tr.frac) / 65536
      let counted : Tracker := { turned with frac := (tr.frac + g.scale) % 65536, current := tr.current + up }
      let uncounted : Tracker := { turned with frac := tr.frac + down * 65536 - g.scale, current := tr.current - down }
      let cap : Int := g.length + g.homeTol + 1
      (illegal → tr.lock = .seeking → exec (.encoderEvent a b) s = .next (now turned)) ∧
      (illegal → tr.lock = .verifying ∨ tr.lock = .locked ∨ tr.lock = .coasting → s.work.plan = [] →
        s.work.windows = [] → loses turned .encoderFault) ∧
      (tr.lock = .seeking → tr.pos = none →
        (ahead → exec (.encoderEvent a b) s = .next (now counted)) ∧
        (back → exec (.encoderEvent a b) s = .next (now uncounted))) ∧
      (tr.lock = .verifying → tr.pos = none →
        (ahead → exec (.encoderEvent a b) s = .next (now { counted with homeDist := min (tr.homeDist + up) cap })) ∧
        (back → exec (.encoderEvent a b) s = .next (now { uncounted with homeDist := min (tr.homeDist - down) cap }))) ∧
      ∀ x, tr.pos = some x → x < g.length → tr.lock = .locked ∨ tr.lock = .coasting →
        let moved : Tracker :=
          { counted with homeDist := tr.homeDist + up, pos := some ((x + up) % g.length) }
        let quietMove : Prop := (∀ y ∈ s.work.windows, reaches g.length x up y.close = false) ∧
          ∀ e ∈ s.work.fires, reaches g.length x up e.firePoint = false
        let missed : Prop := ahead ∧ 0 < up ∧ (g.length : Int) + g.homeTol < tr.homeDist + up ∧ quietMove
        let synthesized : Tracker :=
          { moved with revolution := tr.revolution + 1, homeDist := tr.homeDist + up - g.length, coast := tr.coast + 1 }
        (ahead → tr.homeDist + up ≤ (g.length : Int) + g.homeTol →
          ∃ t, exec (.encoderEvent a b) s = .next t ∧ t.loop = (now moved).loop ∧ (quietMove → t = now moved)) ∧
        (back → exec (.encoderEvent a b) s = .next (now
          { uncounted with homeDist := tr.homeDist - down, pos := some (((x : Int) - down) % g.length).toNat })) ∧
        (missed → tr.lock = .locked → s.work.plan = [] →
          let coasts : State :=
            { now { synthesized with lock := .coasting, coast := 1 } with
              work := { s.work with windows := s.work.windows.map fun y => { y with coasted := true } } }
          exec (.encoderEvent a b) s = .next (coasts.notifiedBoth [.lock .coasting (tr.revolution + 1) .homeMissed])) ∧
        (missed → tr.lock = .coasting → tr.coast < 2 → exec (.encoderEvent a b) s = .next (now synthesized)) ∧
        (missed → tr.lock = .coasting → 2 ≤ tr.coast → s.work.plan = [] → s.work.windows = [] →
          loses moved .missedHomes)

/-- HOME_EVENT (R12, R13, R14, R16, R18). NO_GEOMETRY ignores it. A first home posts LOCK(FIRST_HOME), and the
confirming home LOCK(ACQUIRED). An accepted home snaps the position to 0; in COASTING it posts LOCK(HOME_REGAINED). A
late one reaches nothing. An early one moves forward by L − a: over no window's close and no fire point it changes the
tracker alone; a window it reaches expires, here the one of a sensor trial; the fire point of a discharge it reaches
is found due. That move has the lock state and revolution of before the home (the model's reading, log 28), and the
entry the pass revolution of its own fire point (log 10). A first rejected home is counted, and a second posts
LOCK(REJECTED_HOMES) with the STEADY of a flag that falls; here without trials and windows. -/
def Obligations.HomeEvents : Prop :=
  ∀ s : State, s.Quiet →
    let tr := s.loop.tracker
    let now (t : Tracker) (w : Work) : State := { s with loop := { s.loop with tracker := t }, work := w }
    (tr.lock = .noGeometry → exec .homeEvent s = .next s) ∧
    ∀ g : Geometry, tr.geometry = some g →
      let near : Prop := (tr.homeDist - g.length).natAbs ≤ g.homeTol
      let home : Tracker :=
        { tr with pos := some 0, correction := tr.homeDist - g.length, revolution := tr.revolution + 1, homeDist := 0,
                  rejected := 0 }
      let locks : Tracker := { home with lock := .locked, coast := 0 }
      let lost : Tracker :=
        { tr with lock := .verifying, pos := none, homeDist := 0, coast := 0, rejected := 0, steady := false, run := 0 }
      (tr.lock = .seeking → s.work.plan = [] →
        exec .homeEvent s = .next ((now { tr with lock := .verifying, homeDist := 0 } s.work).notifiedBoth
          [.lock .verifying tr.revolution .firstHome])) ∧
      (tr.lock = .verifying → ¬near → exec .homeEvent s = .next (now { tr with homeDist := 0 } s.work)) ∧
      (tr.lock = .verifying → near →
        (∃ t, exec .homeEvent s = .next t ∧ t.loop = (now locks s.work).loop) ∧
        (s.work.plan = [] → exec .homeEvent s = .next ((now locks s.work).notifiedBoth
          [.lock .locked (tr.revolution + 1) .acquired]))) ∧
      (tr.lock = .locked ∨ tr.lock = .coasting → near →
        let snaps (w : Work) : Prop :=
          (tr.lock = .locked → exec .homeEvent s = .next (now home w)) ∧
          (tr.lock = .coasting → s.work.plan = [] → exec .homeEvent s = .next ((now locks w).notifiedBoth
            [.lock .locked (tr.revolution + 1) .homeRegained]))
        (∃ t, exec .homeEvent s = .next t ∧
          t.loop = (now (if tr.lock = .locked then home else locks) s.work).loop) ∧
        ((g.length : Int) ≤ tr.homeDist → snaps s.work) ∧
        ∀ x, tr.pos = some x → tr.homeDist < g.length →
          let span := ((g.length : Int) - tr.homeDist).toNat
          ((∀ y ∈ s.work.windows, reaches g.length x span y.close = false) →
            (∀ e ∈ s.work.fires, reaches g.length x span e.firePoint = false) → snaps s.work) ∧
          (∀ (p : Point) (t : Trial) (y : Window), tr.lock = .locked → g.Law → s.work.plan = [t] →
            s.work.windows = [y] → s.work.fires = [] → s.work.point p.tag = some p → t.kind = .sensor →
            t.target = p.tag → t.state = .active → y.trial = t.id → y.sensor = p.tag → y.purpose = .sensorPass →
            y.carrier < g.carriers → t.fails + 1 < t.limit →
            reaches g.length x span y.close = true →
            let armedAt (u : Trial) (k : Nat) : Work :=
              { s.work with
                plan := [{ u with reasons := .clear, armed := some k, startAt := none }]
                windows := [windowFor g p k .sensorPass t.id none s.work.armCount]
                armCount := s.work.armCount + 1 }
            (y.coasted = false →
              snaps (armedAt { t with fails := t.fails + 1, streak := 0 } ((y.carrier + 1) % g.carriers))) ∧
            (∀ k, y.coasted = true → FirstDue g p 0 k → snaps (armedAt t k))) ∧
          (∀ (e : Entry) (p : Point) (c : Nat), s.work.windows = [] → s.work.fires = [e] →
            reaches g.length x span e.firePoint = true → e.origin = .lineDischarge ∨ e.origin = .consoleDischarge →
            e.chute = some c → s.work.point c = some p →
            let r := s.work.ring g.linkBranch
            let at' : Int := tr.homeDist + (((e.firePoint : Int) - x) % g.length).toNat
            let pass : Int := (tr.revolution : Int) + (if (g.length : Int) ≤ at' then 1 else if at' < 0 then -1 else 0)
            let skipped : Prop := tr.lock ≠ .locked ∨ tr.v = 0 ∨ s.loop.fences.getLsbD p.config.zone = true
            let due : Entry := { e with lastPassed := some pass }
            (e.state = .sent ∨ e.requested = true ∨ e.lastPassed = some pass → snaps s.work) ∧
            (e.state = .waiting → e.requested = false → e.lastPassed ≠ some pass →
              (skipped → snaps { s.work with fires := [due] }) ∧
              (¬skipped → r.state = .running → r.nodeState g.linkNode ≠ .silent → r.downlink ≠ none →
                snaps (Work.setRing { s.work with fires := [{ due with requested := true }] } g.linkBranch
                  { r with fireq := r.fireq ++ [⟨.fire e.seq, g.linkNode, 0, 0, false⟩] })) ∧
              (¬skipped → r.state ≠ .running ∨ r.nodeState g.linkNode = .silent → e.misses < 2 →
                snaps { s.work with fires := [{ due with misses := e.misses + 1 }] })))) ∧
      (tr.lock = .locked ∨ tr.lock = .coasting → ¬near → tr.rejected = 0 →
        exec .homeEvent s = .next (now { tr with rejected := 1 } s.work)) ∧
      (tr.lock = .locked ∨ tr.lock = .coasting → ¬near → 1 ≤ tr.rejected →
        (∃ t, exec .homeEvent s = .next t ∧ t.loop = (now lost s.work).loop) ∧
        (s.work.plan = [] → s.work.windows = [] →
          let ns : List Notice :=
            .lock .verifying tr.revolution .rejectedHomes :: (if tr.steady then [.steady false tr.v tr.setpoint] else [])
          ∃ t, exec .homeEvent s = .next t ∧ (now lost s.work).Posted t ns ns))

/-- SAMPLE_TIMER_EXPIRY (R7 to R10, R65, R87 to R89): the eight advances, the speed with its reverse flag, the motion
state, the steady flag with its run, and the lock that a reverse sample loses, with LOCK(REVERSE). A change of the
flag posts STEADY, gained or lost, to both links. With no trial nothing else changes but the times remaining of asks,
by the 4 ms of a sample (log 6), and the fire points of WAITING entries: one carried forward over the position takes
its request back, and one carried back over it is found due, which is skipped, requests its fire, or counts a miss at
once where the branch is not RUNNING or the node SILENT (the order within a sample and the edges of a crossing are the
model's reading, log 9). -/
def Obligations.SampleExpires : Prop :=
  ∀ s : State,
    let tr := s.loop.tracker
    let adv := (tr.current :: tr.samples.take 7).sum
    let back : Prop := tr.current < 0
    let lost : Prop := back ∧ (tr.lock = .verifying ∨ tr.lock = .locked ∨ tr.lock = .coasting)
    ∃ t, exec .sampleTimerExpiry s = .next t ∧
      let tr' := t.loop.tracker
      tr'.samples = tr.current :: tr.samples.take 7 ∧ tr'.current = 0 ∧
      (tr'.reverse = true ↔ back) ∧
      tr'.v = (if tr.current < 0 then 0 else if adv < 0 then 0 else min (adv.toNat * 125 / 4) 65535) ∧
      (0 < tr'.v ∨ back → tr'.motion = .moving ∧ tr'.still = 0) ∧
      (tr'.v = 0 → ¬back → tr'.still = min (tr.still + 1) 250 ∧
        tr'.motion = if 250 ≤ tr.still + 1 then .stopped else tr.motion) ∧
      (lost → tr'.lock = .seeking ∧ tr'.pos = none ∧ tr'.homeDist = 0 ∧ tr'.coast = 0 ∧ tr'.rejected = 0) ∧
      (¬lost → tr'.lock = tr.lock ∧ tr'.pos = tr.pos ∧ tr'.homeDist = tr.homeDist ∧ tr'.coast = tr.coast ∧
        tr'.rejected = tr.rejected) ∧
      tr'.revolution = tr.revolution ∧ tr'.frac = tr.frac ∧ tr'.geometry = tr.geometry ∧
      tr'.setpoint = tr.setpoint ∧ tr'.correction = tr.correction ∧
      (tr'.lock = .locked ∧ 0 < tr.setpoint ∧
          ((tr'.v : Int) - tr.setpoint).natAbs ≤ max (tr.setpoint / 50) 10 →
        tr'.run = min (tr.run + 1) 250 ∧ (tr'.steady = true ↔ tr.steady = true ∨ 250 ≤ tr.run + 1)) ∧
      (¬(tr'.lock = .locked ∧ 0 < tr.setpoint ∧
          ((tr'.v : Int) - tr.setpoint).natAbs ≤ max (tr.setpoint / 50) 10) →
        tr'.run = 0 ∧ tr'.steady = false) ∧
      t.loop.fences = s.loop.fences ∧ t.loop.clock = s.loop.clock + 4 ∧
      (s.Quiet → s.work.plan = [] →
        let passed (w : Work) : State :=
          { s with
            loop := t.loop
            work := { w with asks := s.work.asks.map fun k =>
              match k.state with
              | .asked r => { k with state := .asked (r - 4) }
              | .draining => k } }
        let told : List Notice := if tr'.steady = tr.steady then [] else [.steady tr'.steady tr'.v tr.setpoint]
        let leaves (w : Work) : Prop := t = (passed w).notifiedBoth told
        (¬lost → s.work.fires = [] → leaves s.work) ∧
        ∀ g, tr.geometry = some g →
          let throw (e : Entry) : Nat :=
            match e.chute.bind s.work.point with | none => 0 | some p => p.config.throw.getD 0
          let point (e : Entry) : Nat :=
            (((e.nominal : Int) - ((tr'.v * (throw e + g.latency) + 500) / 1000 : Nat)) % g.length).toNat
          let takes (e : Entry) : Entry := if e.state = .sent then e else { e with firePoint := point e }
          let gap (y z : Nat) : Nat := (((z : Int) - y) % g.length).toNat
          let back (x : Nat) (e : Entry) : Prop :=
            signedDiff g.length (point e) e.firePoint < 0 ∧ gap (point e) x < gap (point e) e.firePoint
          let ahead (x : Nat) (e : Entry) : Prop :=
            0 < signedDiff g.length (point e) e.firePoint ∧ gap e.firePoint x < gap e.firePoint (point e)
          (lost → s.work.windows = [] →
            let ns : List Notice := .lock .seeking tr.revolution .reverse :: told
            (passed { s.work with fires := s.work.fires.map takes }).Posted t ns ns) ∧
          (¬lost → (∀ e ∈ s.work.fires, e.state = .waiting → ∀ x, tr.pos = some x →
              ¬back x e ∧ ¬(e.requested = true ∧ ahead x e)) →
            leaves { s.work with fires := s.work.fires.map takes }) ∧
          (∀ x e, ¬lost → tr.pos = some x → s.work.fires = [e] → e.state = .waiting → e.requested = true → ahead x e →
            let others (j : Job) : Bool := decide (j ≠ .fire e.seq)
            leaves { s.work with
              fires := [{ takes e with requested := false, lastPassed := none }]
              ringA := s.work.ringA.withdraw others
              ringB := s.work.ringB.withdraw others }) ∧
          (∀ x e c p, ¬lost → tr.pos = some x → s.work.fires = [e] → e.state = .waiting → back x e →
            e.origin = .lineDischarge ∨ e.origin = .consoleDischarge → e.chute = some c → s.work.point c = some p →
            let pass : Int := (tr.revolution : Int) +
              (if (g.length : Int) ≤ tr.homeDist then 1 else if tr.homeDist < 0 then -1 else 0)
            let skipped : Prop := tr.lock ≠ .locked ∨ tr'.v = 0 ∨ s.loop.fences.getLsbD p.config.zone = true
            let r := s.work.ring g.linkBranch
            (e.requested = true ∨ e.lastPassed = some pass → leaves { s.work with fires := [takes e] }) ∧
            (e.requested = false → e.lastPassed ≠ some pass → skipped →
              leaves { s.work with fires := [{ takes e with lastPassed := some pass }] }) ∧
            (e.requested = false → e.lastPassed ≠ some pass → ¬skipped → r.state = .running →
              r.nodeState g.linkNode ≠ .silent → r.downlink ≠ none →
              let due : Work :=
                { s.work with fires := [{ takes e with lastPassed := some pass, requested := true }] }
              leaves (due.setRing g.linkBranch
                { r with fireq := r.fireq ++ [⟨.fire e.seq, g.linkNode, 0, 0, false⟩] })) ∧
            (e.requested = false → e.lastPassed ≠ some pass → ¬skipped →
              r.state ≠ .running ∨ r.nodeState g.linkNode = .silent →
              let missed : Entry := { takes e with lastPassed := some pass, misses := e.misses + 1 }
              (e.misses < 2 → leaves { s.work with fires := [missed] }) ∧
              (e.misses = 2 → e.owner = .console ∨ s.work.ask c = none →
                let done : Notice := .dischargeDone e.carrier c .recirculated e.ref 3 tr.revolution
                (passed (s.work.without e id)).Posted t
                  (if e.owner = .line then done :: told else told)
                  (if e.owner = .console then done :: told else told)))))

/-! ## Position arithmetic -/

/-- The signed loop difference (R22): it is a − b on the loop, lies in −(L − 1 − floor(L/2))..floor(L/2), is 0 only
when a equals b, and changes its sign with the order of its arguments except at half a loop. -/
def Obligations.SignedLoopDifference : Prop :=
  ∀ L a b : Nat, a < L → b < L →
    (∃ n : Int, signedDiff L a b = (a : Int) - b + n * L) ∧
    -((L : Int) - 1 - (L / 2 : Nat)) ≤ signedDiff L a b ∧ signedDiff L a b ≤ (L / 2 : Nat) ∧
    (signedDiff L a b = 0 ↔ a = b) ∧
    (signedDiff L b a = -signedDiff L a b ∨
      (L = 2 * (L / 2) ∧ signedDiff L a b = (L / 2 : Nat) ∧ signedDiff L b a = (L / 2 : Nat)))

/-- Attribution (R29): every corrected position is attributed to exactly one carrier k in 0..N−1 with a deviation d in
−floor(P/2)..P − 1 − floor(P/2), and stands d past carrier k's place at the point. -/
def Obligations.AttributionIsUnique : Prop :=
  ∀ (g : Geometry) (loc xc : Nat) (bias : Int), g.Law → xc < g.length →
    ∃ (k : Nat) (d : Int), attribution g loc bias xc = (k, d) ∧ k < g.carriers ∧
      -(g.pitch / 2 : Nat) ≤ d ∧ d ≤ (g.pitch : Int) - 1 - (g.pitch / 2 : Nat) ∧
      ((loc : Int) + bias + k * g.pitch + d - xc) % g.length = 0 ∧
      ∀ (k' : Nat) (d' : Int), k' < g.carriers → -(g.pitch / 2 : Nat) ≤ d' →
        d' ≤ (g.pitch : Int) - 1 - (g.pitch / 2 : Nat) →
        ((loc : Int) + bias + k' * g.pitch + d' - xc) % g.length = 0 → k' = k ∧ d' = d

/-- The window that a judgeable event is judged against (R106): among the windows of the sensor with |d| ≤ Te + G, the
one with the smallest |d|, and of equals the one armed first; and its verdict (R27). Then the life of the one window
of an ACTIVE sensor trial (R102, R105, R108 to R110, R116, R117, R124): reached at its close it expires, a MISS that
counts a fail and arms the next carrier, or CANCELLED under the coasted mark, which counts nothing and arms the first
carrier due; a loss of lock cancels it and holds the trial; an event is a hit, a late or an early fail, or unclaimed.
A window with the coasted mark takes no verdict from an event (R109; that the event is then given to no other window
is the model's choice, log 41). That a trial is HELD before its window is cancelled is the model's order (log 8). The
entry window of a FIRED chute item (R126 to R128): its verdict removes it, at EARLY too, and the item holds the
verdict, with the d of the event that gave it and none at MISS and CANCELLED (R105), until its reply is there, or is
decided by the table of R127 with the reply it holds; an event of a sensor in a fenced zone is unclaimed (R98). -/
def Obligations.NearestWindowJudges : Prop :=
  (∀ (g : Geometry) (sensor xc : Nat) (w : Work),
    let d (y : Window) : Int := signedDiff g.length xc y.xexp
    let reached (y : Window) : Prop := y ∈ w.windows ∧ y.sensor = sensor ∧ (d y).natAbs ≤ y.te + g.grace
    (candidate g sensor xc w = none ↔ ∀ y, ¬reached y) ∧
    (∀ y e, candidate g sensor xc w = some (y, e) → reached y ∧ e = d y ∧
      (∀ z, reached z → (d y).natAbs < (d z).natAbs ∨ ((d y).natAbs = (d z).natAbs ∧ y.order ≤ z.order)) ∧
      (verdictOf y.te e = .hit e ↔ (d y).natAbs ≤ y.te) ∧ (verdictOf y.te e = .early e ↔ d y < -(y.te : Int)) ∧
      (verdictOf y.te e = .late e ↔ (y.te : Int) < d y) ∧
      (y.coasted = true → ∀ l, judge l g sensor xc w = w))) ∧
  (∀ (s : State) (g : Geometry) (p : Point) (t : Trial) (y : Window) (x : Nat),
    let tr := s.loop.tracker
    s.Quiet → tr.geometry = some g → g.Law → tr.pos = some x → x < g.length → tr.frac < 65536 →
    s.work.plan = [t] → s.work.windows = [y] → s.work.point p.tag = some p → t.kind = .sensor → t.target = p.tag →
    t.state = .active → t.reasons = .clear → y.trial = t.id → y.sensor = p.tag → y.purpose = .sensorPass →
    y.carrier < g.carriers → t.streak + 1 < t.need → t.fails + 1 < t.limit →
    s.loop.fences.getLsbD p.config.zone = false →
    let armedAt (u : Trial) (k : Nat) : Work :=
      { s.work with
        plan := [{ u with armed := some k, startAt := none }]
        windows := [windowFor g p k .sensorPass t.id none s.work.armCount]
        armCount := s.work.armCount + 1 }
    let next := (y.carrier + 1) % g.carriers
    let failed : Trial := { t with fails := t.fails + 1, streak := 0 }
    (∀ a b, tr.lock = .locked → s.work.fires = [] →
      let up := (tr.frac + g.scale) / 65536
      let moved : Tracker :=
        { tr with encA := a, encB := b, frac := (tr.frac + g.scale) % 65536, current := tr.current + up,
                  homeDist := tr.homeDist + up, pos := some ((x + up) % g.length) }
      let now (w : Work) : State := { s with loop := { s.loop with tracker := moved }, work := w }
      levelOf a b = (levelOf tr.encA tr.encB + 1) % 4 → tr.homeDist + up ≤ (g.length : Int) + g.homeTol →
      reaches g.length x up y.close = true →
      (y.coasted = false → exec (.encoderEvent a b) s = .next (now (armedAt failed next))) ∧
      (∀ k, y.coasted = true → FirstDue g p ((x + up) % g.length) k →
        exec (.encoderEvent a b) s = .next (now (armedAt t k)))) ∧
    (∀ a b, levelOf a b = (levelOf tr.encA tr.encB + 2) % 4 → tr.lock = .locked ∨ tr.lock = .coasting →
      let lost : Tracker :=
        { tr with encA := a, encB := b, lock := .seeking, pos := none, homeDist := 0, coast := 0, rejected := 0,
                  steady := false, run := 0 }
      let held : State :=
        { s with
          loop := { s.loop with tracker := lost }
          work := { s.work with
            plan := [{ t with state := .held, reasons := ⟨true, false, false, false⟩, armed := none }]
            windows := []
            polls := s.work.polls.filter fun q => decide (q.trial ≠ t.id)
            ringA := s.work.ringA.withdraw (keepsQueries t.order)
            ringB := s.work.ringB.withdraw (keepsQueries t.order) } }
      let ns : List Notice :=
        .lock .seeking tr.revolution .encoderFault :: (if tr.steady then [.steady false tr.v tr.setpoint] else [])
      ∃ u, exec (.encoderEvent a b) s = .next u ∧ held.Posted u ns ns) ∧
    (∀ (br : Branch) (f : EventFields) (n : Node),
      let r := s.work.ring br
      let xc := (((x : Int) - ((tr.v * f.age + 10000) / 20000 : Nat)) % g.length).toNat
      let d := signedDiff g.length xc y.xexp
      let heard : Ring :=
        { r.setNode f.node { n with expected := !n.expected, timeouts := 0 } with acks := r.acks ++ [⟨f.node, f.seq⟩] }
      let taken (w : Work) : State := { s with work := w.setRing br heard }
      tr.lock = .locked → f.passes = true → r.state = .running → r.downlink ≠ none → r.acks.length < 32 →
      r.node f.node = some n → n.state = .online → f.seq = n.expected → eventPoint br f s.work = some p →
      p.kind = .sensor → p.config.edge = some (if f.falling then .falling else .rising) → f.age ≤ g.maxAge →
      (∀ ch : Channel, some ch ∈ s.channels → ch.mode = .accept → ch.tag ≠ p.tag) →
      (y.te + g.grace < d.natAbs ∨ y.coasted = true → exec (.eventFrame br f) s = .next (taken s.work)) ∧
      (y.coasted = false → d.natAbs ≤ y.te → exec (.eventFrame br f) s =
        .next (taken (armedAt { t with streak := t.streak + 1, stats := t.stats.add d } next))) ∧
      (y.coasted = false → d.natAbs ≤ y.te + g.grace → (y.te : Int) < d →
        exec (.eventFrame br f) s = .next (taken (armedAt failed next))) ∧
      (y.coasted = false → d.natAbs ≤ y.te + g.grace → d < -(y.te : Int) →
        exec (.eventFrame br f) s = .next (taken { s.work with plan := [failed] })))) ∧
  ∀ (s : State) (g : Geometry) (p : Point) (t : Trial) (i : Item) (e : Entry) (y : Window) (x : Nat),
    let tr := s.loop.tracker
    s.Quiet → tr.geometry = some g → tr.pos = some x → x < g.length → tr.frac < 65536 →
    s.work.plan = [t] → s.work.windows = [y] → s.work.fires = [e] → s.work.point p.tag = some p → t.kind = .chute →
    t.reasons.noSpace = false → y.purpose = .chuteEntry → y.trial = t.id → y.sensor = p.tag → y.item = some i.index →
    t.items.find? (fun j => j.index == i.index) = some i → e.carrier = i.carrier → e.state = .sent → t.GoesOn →
    s.work.NoClaimBut e →
    let noted (v : Verdict) : Work :=
      match i.reply with
      | none =>
        let holds : Item := { i with verdict := some v }
        { s.work with
          plan := [{ t with items := t.items.map fun j => if j.index = i.index then holds else j }], windows := [] }
      | some how =>
        { s.work.without e (LoadState.whereConsole (outcomeTable how v).2) with
          plan := [t.ended i (outcomeTable how v).1 v.hitDev], windows := [] }
    (∀ a b, tr.lock = .locked ∨ tr.lock = .coasting →
      let up := (tr.frac + g.scale) / 65536
      let moved : Tracker :=
        { tr with encA := a, encB := b, frac := (tr.frac + g.scale) % 65536, current := tr.current + up,
                  homeDist := tr.homeDist + up, pos := some ((x + up) % g.length) }
      levelOf a b = (levelOf tr.encA tr.encB + 1) % 4 → tr.homeDist + up ≤ (g.length : Int) + g.homeTol →
      reaches g.length x up y.close = true →
      exec (.encoderEvent a b) s = .next
        { s with loop := { s.loop with tracker := moved }
                 work := noted (if y.coasted then .cancelled else .miss) }) ∧
    (∀ (br : Branch) (f : EventFields) (n : Node),
      let r := s.work.ring br
      let xc := (((x : Int) - ((tr.v * f.age + 10000) / 20000 : Nat)) % g.length).toNat
      let d := signedDiff g.length xc y.xexp
      let heard : Ring :=
        { r.setNode f.node { n with expected := !n.expected, timeouts := 0 } with acks := r.acks ++ [⟨f.node, f.seq⟩] }
      g.Law → tr.lock = .locked → f.passes = true → r.state = .running → r.downlink ≠ none → r.acks.length < 32 →
      r.node f.node = some n → n.state = .online → f.seq = n.expected → eventPoint br f s.work = some p →
      p.kind = .sensor → p.config.edge = some (if f.falling then .falling else .rising) → f.age ≤ g.maxAge →
      (∀ ch : Channel, some ch ∈ s.channels → ch.mode = .accept → ch.tag ≠ p.tag) →
      let w := noted (if d.natAbs ≤ y.te then .hit d else if d < 0 then .early d else .late d)
      let others (j : Job) : Bool := decide (j ≠ .fire e.seq)
      let left : Ring := if i.reply = none then heard else heard.withdraw others
      let fenced : Bool := s.loop.fences.getLsbD p.config.zone
      (fenced = true ∨ y.te + g.grace < d.natAbs ∨ y.coasted = true →
        exec (.eventFrame br f) s = .next { s with work := s.work.setRing br heard }) ∧
      (fenced = false → y.coasted = false → d.natAbs ≤ y.te + g.grace →
        exec (.eventFrame br f) s = .next { s with work := w.setRing br left }))

/-- The statistics of a trial's hits (R34, R35): the count, the sum, the smallest and the largest of the deviations; the
mean truncated toward zero, the spread. A hit that leaves the streak short raises it, and a fail short of the limit
ends it (R117). -/
def Obligations.HitsAreCounted : Prop :=
  (∀ ds : List Int,
    let st := ds.foldl Stats.add Stats.empty
    st.count = ds.length ∧ st.sum = ds.sum ∧ st.least = ds.min? ∧ st.most = ds.max? ∧
    st.mean = (if ds = [] then 0 else Int.tdiv ds.sum ds.length) ∧
    (ds = [] → st.spread = 0) ∧ ∀ a b, ds.min? = some a → ds.max? = some b → (st.spread : Int) = b - a) ∧
  (∀ (l : Loop) (w : Work) (t : Trial), w.trial t.id = some t → t.state = .active →
    (∀ d, t.streak + 1 < t.need → count l t.id (.hit d) w =
      w.setTrial { t with streak := t.streak + 1, stats := t.stats.add d }) ∧
    (t.fails + 1 < t.limit → count l t.id .fail w = w.setTrial { t with fails := t.fails + 1, streak := 0 })) ∧
  (∀ (l : Loop) (w : Work) (t : Trial) (x : Evidence), w.trial t.id = some t → t.state ≠ .active →
    count l t.id x w = w)

/-! ## The point register -/

/-- WRITE_POINT of a configuration that fails a check of R39 is INVALID, whatever the register holds (an edge code
other than 1 and 2 too: the model's reading, log 23). Creating a record (R37, R38, R39): FULL with 2,048 records held,
CONFLICT where another record has its route; else the record stands in the register in CONSOLE custody, OUT_OF_SERVICE
and UNPROVEN, every other record stays, a walk in flight is disturbed (R49), and the answer says "created" with the
route. Its byte 1 for "created" is the model's choice (log 21). -/
def Obligations.WritePointCreates : Prop :=
  ∀ (s : State) (rtag : Nat) (f : PointFields), s.Takes .console → rtag ≠ 0 →
    let answers (x : Status) : Prop :=
      exec (.writePoint rtag f) s = .next (s.answered .console rtag (.writePoint f) x [])
    ((∀ k c, ¬s.Configures f k c) → answers .invalid) ∧
    ∀ k c, s.Configures f k c → (∀ p ∈ s.work.points, p.tag ≠ f.tag) →
      let route := routeOf s.routes f.tag k
      let taken : Prop := route ≠ none ∧ ∃ p ∈ s.work.points, p.route = route
      (2048 ≤ s.work.points.length → answers .full) ∧
      (s.work.points.length < 2048 → taken → answers .conflict) ∧
      (s.work.points.length < 2048 → ¬taken → ∃ ps : List Point,
        exec (.writePoint rtag f) s = .next (({ s with work := { s.work with points := ps } }.disturbed).answered
          .console rtag (.writePoint f) .ok
          (.u8 1 :: (match route with
            | none => [.u8 0]
            | some a => [.u8 1, .u8 (match a.branch with | .a => 1 | .b => 2), .u8 a.node, .u8 a.channel]))) ∧
        ps.Perm (⟨f.tag, k, c, route, .console, .outOfService, .unproven, none, none⟩ :: s.work.points) ∧
        (s.work.points.Pairwise (fun p q => p.tag < q.tag) → ps.Pairwise (fun p q => p.tag < q.tag)))

/-- WRITE_POINT replacing a record, with a configuration that passes the checks of R39 (R40): INVALID for another kind,
CUSTODY in LINE custody, BUSY while work refers to it; else a changed configuration is stored, UNPROVEN and without its
proof record, and an equal one leaves the record; both disturb a walk in flight (R49). The bytes 2 for "replaced" and 3
for "unchanged" are the model's choice (log 21). -/
def Obligations.WritePointReplaces : Prop :=
  ∀ (s : State) (rtag : Nat) (f : PointFields) (k : PointKind) (c : PointConfig) (p : Point), s.Takes .console →
    rtag ≠ 0 → s.Configures f k c → s.work.point f.tag = some p →
    (k ≠ p.kind →
      exec (.writePoint rtag f) s = .next (s.answered .console rtag (.writePoint f) .invalid [])) ∧
    (k = p.kind → p.custody = .line →
      exec (.writePoint rtag f) s = .next (s.answered .console rtag (.writePoint f) .custody [])) ∧
    (k = p.kind → p.custody = .console → s.Refers p →
      exec (.writePoint rtag f) s = .next (s.answered .console rtag (.writePoint f) .busy [])) ∧
    (k = p.kind → p.custody = .console → ¬s.Refers p → c = p.config →
      exec (.writePoint rtag f) s = .next (s.disturbed.answered .console rtag (.writePoint f) .ok [.u8 3])) ∧
    (k = p.kind → p.custody = .console → ¬s.Refers p → c ≠ p.config →
      ∃ ps : List Point,
        exec (.writePoint rtag f) s = .next (({ s with work := { s.work with points := ps } }.disturbed).answered
          .console rtag (.writePoint f) .ok [.u8 2]) ∧
        ps.find? (fun q => q.tag == f.tag) = some { p with config := c, proof := .unproven, record := none,
                                                           prior := none } ∧
        ps.map Point.tag = s.work.points.map Point.tag ∧
        ∀ u, u ≠ f.tag → ps.find? (fun q => q.tag == u) = s.work.point u)

/-- DELETE_POINT (R41): NOT_FOUND, CUSTODY, BUSY in that order; else the record is removed and the others keep their
order. -/
def Obligations.DeletePointRemoves : Prop :=
  ∀ (s : State) (rtag tag : Nat), s.Takes .console → rtag ≠ 0 →
    let entry : Prop := ∃ q ∈ s.work.points, q.kind = .chute ∧ q.config.entry = some tag
    (s.work.point tag = none →
      exec (.deletePoint rtag tag) s = .next (s.answered .console rtag (.deletePoint tag) .notFound [])) ∧
    (∀ p, s.work.point tag = some p → p.custody = .line →
      exec (.deletePoint rtag tag) s = .next (s.answered .console rtag (.deletePoint tag) .custody [])) ∧
    (∀ p, s.work.point tag = some p → p.custody = .console → s.Refers p ∨ entry →
      exec (.deletePoint rtag tag) s = .next (s.answered .console rtag (.deletePoint tag) .busy [])) ∧
    (∀ p, s.work.point tag = some p → p.custody = .console → ¬(s.Refers p ∨ entry) →
      exec (.deletePoint rtag tag) s = .next
        (({ s with work := { s.work with points := s.work.points.filter fun q => decide (q.tag ≠ tag) } }.disturbed).answered
          .console rtag (.deletePoint tag) .ok []))

/-- CLEAR_REGISTER (R42): BUSY while a trial, a fire, an ask, a channel in ACCEPT or a distribution is there; else every
record is removed and the answer carries their number. -/
def Obligations.ClearRegisterEmpties : Prop :=
  ∀ (s : State) (rtag : Nat), s.Takes .console → rtag ≠ 0 →
    let busy : Prop := s.work.plan ≠ [] ∨ s.work.fires ≠ [] ∨ s.work.asks ≠ [] ∨
      (∃ c : Channel, some c ∈ s.channels ∧ c.mode = .accept) ∨ s.work.dist ≠ none
    (busy → exec (.clearRegister rtag) s = .next (s.answered .console rtag .clearRegister .busy [])) ∧
    (¬busy → exec (.clearRegister rtag) s = .next
      (({ s with work := { s.work with points := [] } }.disturbed).answered .console rtag .clearRegister .ok
        [.u16 s.work.points.length]))

/-- DIGEST (R47, R48, R49) begins a walk over the words as they stand, 9 for each point and 7 for each route window,
with their two running sums modulo 65,535; joins one; or is BUSY. DIGEST_WALK_COMPLETE (R50, R51) posts DIGEST_DONE to
each link that waits and ends the walk. Without a walk it does nothing (the model's choice, log 3). -/
def Obligations.DigestWalks : Prop :=
  ∀ (k : Link) (s : State) (rtag : Nat), s.Takes k → rtag ≠ 0 →
    let pointWords (p : Point) : List Nat :=
      [p.tag, match p.kind with | .sensor => 1 | .chute => 2 | .induct => 3 | .zoneDrive => 4,
       p.config.loc % 65536, p.config.loc / 65536, (p.config.bias + 32768).toNat, p.config.tol,
       p.config.zone * 4 + (match p.config.edge, p.config.side with
         | some .rising, _ => 1
         | some .falling, _ => 2
         | none, some .left => 1
         | none, some .right => 2
         | none, none => 0),
       p.config.entry.getD 0, p.config.throw.getD 0]
    let windowWords (x : RouteWindow) : List Nat :=
      [if x.enabled then 1 else 0, x.base, x.mask % 65536, match x.mode with | .a => 1 | .b => 2 | .interleaved => 3,
       x.weight.getD 0, x.nodeBase, (if x.observe then 1 else 0) + (if x.command then 2 else 0)]
    let words : List Nat := s.work.points.flatMap pointWords ++ s.routes.flatMap windowWords
    let sumA (n : Nat) : Nat := (words.take n).sum % 65535
    let sumB : Nat := ((List.range words.length).map fun n => sumA (n + 1)).sum % 65535
    let walk : Walk :=
      ⟨sumA words.length, sumB, s.work.points.length, false, decide (k = .line), decide (k = .console)⟩
    (s.routes.length = 8 → words.length = 9 * s.work.points.length + 56) ∧
    (s.digest = none → exec (.digest k rtag) s = .next
      ({ s with digest := some walk }.answered k rtag .digest .accepted [])) ∧
    (∀ x, s.digest = some x → (if k = .line then x.line else x.console) = false →
      let joined : Walk := match k with | .line => { x with line := true } | .console => { x with console := true }
      exec (.digest k rtag) s = .next ({ s with digest := some joined }.answered k rtag .digest .accepted [])) ∧
    (∀ x, s.digest = some x →
      (if k = .line then x.line else x.console) = true →
      exec (.digest k rtag) s = .next (s.answered k rtag .digest .busy [])) ∧
    (s.digest = none → exec .digestWalkComplete s = .next s) ∧
    (∀ x, s.digest = some x → exec .digestWalkComplete s = .next
      (({ s with digest := none }.notified .line
          (if x.line then [.digestDone x.a x.b x.count x.disturbed] else [])).notified .console
          (if x.console then [.digestDone x.a x.b x.count x.disturbed] else [])))

/-! ## Route windows -/

/-- WRITE_WINDOW (R53, R54, R57, R59, R60): INVALID of a window that fails R54, its number, its mask, a base with a bit
outside the mask, a mode and weight that do not go together, its node base or its permissions, with nothing changed; so
are an enabled byte other than 0 and 1 and another mode code (the model's reading, log 23). CONFLICT when two records
would hold one route, with the first record whose route an earlier one holds and that earlier one; else BUSY with the
lowest-tagged record in the way; else the window takes the new record, every record its route under the new set, nothing
else of a record changes, and the answer counts the routes changed, gained and lost. -/
def Obligations.WriteWindowReroutes : Prop :=
  ∀ (s : State) (rtag : Nat) (f : WindowFields), s.Takes .console → rtag ≠ 0 →
    let gives (x : RouteWindow) : Prop := f.number ≤ 7 ∧ f.enabled = (if x.enabled then 1 else 0) ∧
      (∃ z ≤ 16, f.mask = 65536 - 2 ^ z ∧ f.base ≤ 65535 ∧ f.base % 2 ^ z = 0 ∧
        ((f.mode = 1 ∧ x.mode = .a ∧ f.weight = none) ∨ (f.mode = 2 ∧ x.mode = .b ∧ f.weight = none) ∨
         (f.mode = 3 ∧ x.mode = .interleaved ∧ ∃ y < z, f.weight = some (2 ^ y)))) ∧
      1 ≤ f.nodeBase ∧ f.nodeBase ≤ 126 ∧ f.perms = (if x.observe then 1 else 0) + (if x.command then 2 else 0) ∧
      x.base = f.base ∧ x.mask = f.mask ∧ x.weight = f.weight ∧ x.nodeBase = f.nodeBase
    ((∀ x, ¬gives x) →
      exec (.writeWindow rtag f) s = .next (s.answered .console rtag (.writeWindow f) .invalid [])) ∧
    ∀ x : RouteWindow, gives x → s.work.points.Pairwise (fun p q => p.tag < q.tag) →
    let ws := s.routes.set f.number x
    let new (p : Point) : Option Route := routeOf ws p.tag p.kind
    let clash (p q : Point) : Prop :=
      p ∈ s.work.points ∧ q ∈ s.work.points ∧ q.tag < p.tag ∧ new p ≠ none ∧ new p = new q
    let inWay (p : Point) : Prop := p ∈ s.work.points ∧ new p ≠ p.route ∧ s.RouteInUse p
    let ps : List Point := s.work.points.map fun p => { p with route := new p }
    let changed : List Point := s.work.points.filter fun p => decide (new p ≠ p.route)
    (∀ p q, clash p q → (∀ p' q', clash p' q' → p.tag ≤ p'.tag) → (∀ q', clash p q' → q.tag ≤ q'.tag) →
      exec (.writeWindow rtag f) s = .next
        (s.answered .console rtag (.writeWindow f) .conflict [.u16 p.tag, .u16 q.tag])) ∧
    (∀ p, (∀ p' q', ¬clash p' q') → inWay p → (∀ p', inWay p' → p.tag ≤ p'.tag) →
      exec (.writeWindow rtag f) s = .next (s.answered .console rtag (.writeWindow f) .busy [.u16 p.tag])) ∧
    ((∀ p' q', ¬clash p' q') → (∀ p, ¬inWay p) →
      exec (.writeWindow rtag f) s = .next
        (({ s with routes := ws, work := { s.work with points := ps } }.disturbed).answered .console rtag
          (.writeWindow f) .ok
          [.u16 changed.length, .u16 (changed.filter fun (p : Point) => p.route.isNone).length,
           .u16 (changed.filter fun (p : Point) => (new p).isNone).length]))

/-- A window hits the tags base..base + 2^z − 1 and no other, enabled or not; with base 0 and z 0 it hits no point tag
(R55). The first enabled window that hits a tag decides: its address is the point's route where the node is 126 at most
and the window has every permission the kind needs; without such a window, and for a CHUTE, there is no route (R57). -/
def Obligations.WindowHitsItsBlock : Prop :=
  (∀ (ws : List RouteWindow) (tag : Nat) (k : PointKind),
    routeOf ws tag .chute = none ∧
    ((∀ y ∈ ws, y.enabled = true → y.hits tag = false) → routeOf ws tag k = none) ∧
    ∀ before y after, ws = before ++ y :: after → (∀ b ∈ before, b.enabled = true → b.hits tag = false) →
      y.enabled = true → y.hits tag = true → k ≠ .chute →
      let a := y.translate tag
      let may : Bool :=
        match k with
        | .sensor => y.observe
        | .induct => y.observe
        | .zoneDrive => y.observe && y.command
        | .chute => false
      (a.node ≤ 126 → may = true → routeOf ws tag k = some a) ∧
      (126 < a.node ∨ may = false → routeOf ws tag k = none)) ∧
  ∀ (x : RouteWindow) (z : Nat), z ≤ 16 → x.mask = 65536 - 2 ^ z → x.base % 2 ^ z = 0 →
    (∀ tag, x.hits tag = true ↔ x.base ≤ tag ∧ tag < x.base + 2 ^ z) ∧
    (∀ tag, x.hits tag = true ↔ tag - tag % 2 ^ z = x.base) ∧
    (∀ tag, x.hits tag = true → tag % 2 ^ z < 2 ^ z ∧ tag = x.base + tag % 2 ^ z) ∧
    (∀ (on : Bool) tag, RouteWindow.hits { x with enabled := on } tag = x.hits tag) ∧
    (x.base = 0 → z = 0 → ∀ tag, tag ≠ 0 → x.hits tag = false)

/-- The translation of an offset (R56): on A or B the laid-out offset is the offset; interleaved, runs of w tags
alternate between A and B, the laid-out offsets of either branch run in 0..2^(z−1) − 1 and each value occurs once on
each branch. -/
def Obligations.TranslationLaysOut : Prop :=
  (∀ (w : Option Nat) (o : Nat), layOut .a w o = (.a, o) ∧ layOut .b w o = (.b, o)) ∧
  (∀ y z : Nat, y < z →
    (∀ o, o < 2 ^ z →
      layOut .interleaved (some (2 ^ y)) o =
        (if o / 2 ^ y % 2 = 0 then .a else .b, o / (2 * 2 ^ y) * 2 ^ y + o % 2 ^ y) ∧
      (layOut .interleaved (some (2 ^ y)) o).2 < 2 ^ (z - 1)) ∧
    (∀ (br : Branch) (v : Nat), v < 2 ^ (z - 1) →
      ∃ o, o < 2 ^ z ∧ layOut .interleaved (some (2 ^ y)) o = (br, v) ∧
        ∀ o', layOut .interleaved (some (2 ^ y)) o' = (br, v) → o' = o)) ∧
  (∀ (x : RouteWindow) (z tag : Nat), z ≤ 16 → x.mask = 65536 - 2 ^ z →
    let o := layOut x.mode x.weight (tag % 2 ^ z)
    x.translate tag = ⟨o.1, x.nodeBase + o.2 / 16, o.2 % 16⟩)

/-! ## Custody and fencing -/

/-- TAKE (R66): the five steps in order. -/
def Obligations.TakeHandsOver : Prop :=
  ∀ (s : State) (rtag tag : Nat), s.Takes .console → rtag ≠ 0 →
    let fires : Prop := ∃ e ∈ s.work.fires, e.owner = .line ∧ e.chute = some tag
    (s.work.point tag = none → exec (.take rtag tag) s = .next (s.answered .console rtag (.take tag) .notFound [])) ∧
    (∀ p, s.work.point tag = some p →
      (p.custody = .console → exec (.take rtag tag) s = .next (s.answered .console rtag (.take tag) .ok [])) ∧
      (p.custody = .line →
        ((∃ a ∈ s.work.asks, a.tag = tag) →
          exec (.take rtag tag) s = .next (s.answered .console rtag (.take tag) .busy [])) ∧
        ((∀ a ∈ s.work.asks, a.tag ≠ tag) →
          (p.service = .outOfService → fires →
            exec (.take rtag tag) s = .next (s.answered .console rtag (.take tag) .busy [])) ∧
          (p.service = .outOfService → ¬fires →
            exec (.take rtag tag) s = .next
              ({ s with work := s.work.setPoint { p with custody := .console, service := .outOfService } }.answered
                .console rtag (.take tag) .ok [])) ∧
          (p.service = .inService → 16 ≤ s.work.asks.length →
            exec (.take rtag tag) s = .next (s.answered .console rtag (.take tag) .full [])) ∧
          (p.service = .inService → s.work.asks.length < 16 →
            let asks : List Ask := s.work.asks ++ [⟨tag, .asked 30000⟩]
            exec (.take rtag tag) s = .next
              (({ s with work := { s.work with asks := asks } }.answered .console rtag
                (.take tag) .accepted []).notified .line [.custodyAsk tag p.kind 30000])))))

/-- ANSWER_ASK (R67) and ASK_TIMER_EXPIRY (R69). KEEP and the expiry close the ask and tell the console why; RELEASE
moves custody at once, or drains while LINE fires name the point; an answer to a closed ask is NOT_FOUND. An expiry
without an ask in ASKED does nothing (the model's choice, log 3). -/
def Obligations.AsksAreAnswered : Prop :=
  ∀ (s : State) (rtag tag : Nat), s.Takes .line → rtag ≠ 0 →
    let without : List Ask := s.work.asks.filter fun a => decide (a.tag ≠ tag)
    let n := (s.work.fires.filter fun e => decide (e.owner = .line ∧ e.chute = some tag)).length
    let q (x : Nat) : Request := .answerAsk tag x
    (∀ x, x ≠ 1 → x ≠ 2 → exec (.answerAsk rtag tag x) s = .next (s.answered .line rtag (q x) .invalid [])) ∧
    (∀ x, x = 1 ∨ x = 2 → s.work.ask tag = none →
      exec (.answerAsk rtag tag x) s = .next (s.answered .line rtag (q x) .notFound [])) ∧
    (∀ x, x = 1 ∨ x = 2 → s.work.ask tag = some ⟨tag, .draining⟩ →
      exec (.answerAsk rtag tag x) s = .next (s.answered .line rtag (q x) .busy [])) ∧
    (s.work.ask tag = some ⟨tag, .draining⟩ → exec (.askTimerExpiry tag) s = .next s) ∧
    (s.work.ask tag = none → exec (.askTimerExpiry tag) s = .next s) ∧
    (∀ r p, s.work.ask tag = some ⟨tag, .asked r⟩ → s.work.point tag = some p →
      exec (.answerAsk rtag tag 2) s = .next
        (({ s with work := { s.work with asks := without } }.answered .line rtag (q 2) .ok []).notified .console
          [.custodyDone tag false (some .kept)]) ∧
      exec (.askTimerExpiry tag) s = .next
        ({ s with work := { s.work with asks := without } }.notified .console
          [.custodyDone tag false (some .timeout)]) ∧
      (n = 0 → exec (.answerAsk rtag tag 1) s = .next
        (({ s with work := { s.work.setPoint { p with custody := .console, service := .outOfService } with
                              asks := without } }.answered .line rtag (q 1) .ok [.u16 0]).notified .console
          [.custodyDone tag true none])) ∧
      (n ≠ 0 →
        let draining : List Ask := s.work.asks.map fun a => if a.tag = tag then ⟨tag, .draining⟩ else a
        exec (.answerAsk rtag tag 1) s = .next
          ({ s with work := { s.work.setPoint { p with service := .outOfService } with asks := draining } }.answered
            .line rtag (q 1) .ok [.u16 n])))

/-- GIVE_BACK (R71): NOT_FOUND, CUSTODY, BUSY in that order; else the point is in LINE custody out of service, its proof
stays, and CUSTODY_RETURNED goes to the line. -/
def Obligations.GiveBackReturns : Prop :=
  ∀ (s : State) (rtag tag : Nat), s.Takes .console → rtag ≠ 0 →
    let held : Prop := (∃ t ∈ s.work.plan, t.kind ≠ .belt ∧ t.target = tag) ∨
      (∃ e ∈ s.work.fires, e.owner = .console ∧ e.chute = some tag)
    (s.work.point tag = none →
      exec (.giveBack rtag tag) s = .next (s.answered .console rtag (.giveBack tag) .notFound [])) ∧
    (∀ p, s.work.point tag = some p →
      (p.custody = .line →
        exec (.giveBack rtag tag) s = .next (s.answered .console rtag (.giveBack tag) .custody [])) ∧
      (p.custody = .console → held →
        exec (.giveBack rtag tag) s = .next (s.answered .console rtag (.giveBack tag) .busy [])) ∧
      (p.custody = .console → ¬held →
        exec (.giveBack rtag tag) s = .next
          (({ s with work := s.work.setPoint { p with custody := .line, service := .outOfService } }.answered .console
            rtag (.giveBack tag) .ok []).notified .line [.custodyReturned tag p.kind p.proof])))

/-- SET_SERVICE (R72): INVALID, NOT_FOUND, CUSTODY, BUSY, NOT_PROVEN in that order; else the service is set as named and
nothing else changes. -/
def Obligations.ServiceIsSet : Prop :=
  ∀ (s : State) (rtag tag x : Nat), s.Takes .line → rtag ≠ 0 →
    let answer (y : Status) : State := s.answered .line rtag (.setService tag x) y []
    (x ≠ 1 ∧ x ≠ 2 → exec (.setService rtag tag x) s = .next (answer .invalid)) ∧
    (x = 1 ∨ x = 2 → s.work.point tag = none → exec (.setService rtag tag x) s = .next (answer .notFound)) ∧
    (∀ p, x = 1 ∨ x = 2 → s.work.point tag = some p →
      (p.custody = .console → exec (.setService rtag tag x) s = .next (answer .custody)) ∧
      (p.custody = .line → (∃ a ∈ s.work.asks, a.tag = tag) →
        exec (.setService rtag tag x) s = .next (answer .busy)) ∧
      (p.custody = .line → (∀ a ∈ s.work.asks, a.tag ≠ tag) → x = 1 → p.proof ≠ .proven →
        exec (.setService rtag tag x) s = .next (answer .notProven)) ∧
      (p.custody = .line → (∀ a ∈ s.work.asks, a.tag ≠ tag) → (x = 2 ∨ p.proof = .proven) →
        exec (.setService rtag tag x) s = .next
          ({ s with work := s.work.setPoint { p with service := if x = 1 then .inService else .outOfService } }.answered
            .line rtag (.setService tag x) .ok [])))

/-- ZONE_FENCED and ZONE_UNFENCED (R73 to R78, R116, R131, R136, R137). The zone's state changes and FENCE goes to
both links; a line that already stands so does nothing (the model's choice, log 3). At the fence the windows of the
zone's sensors are CANCELLED, a sensor trial there is HELD(FENCED), and a drive's row whose request still waits is
WITHHELD, its request withdrawn; a command on the field stays. At the unfence a trial held for the fence alone
returns, a sensor trial by arming the first carrier due, a zone-drive trial with its poll timer (kept on the model's
clock, log 7), and the zone's drive is commanded: by a new distribution of the setpoint where none is in flight (over
no drive it ends with SPEED_SET 0, 0, log 14), else by its row, which joins in tag order where it had none, and a
command on the field is marked to be sent again (log 12). That a trial is HELD before its window is cancelled is the
model's order (log 8). -/
def Obligations.FenceEvents : Prop :=
  ∀ (s : State) (z : Fin 8), s.Quiet →
    let fenced (w : Work) : State :=
      { s with loop := { s.loop with fences := s.loop.fences ||| (1#8 <<< z.val) }, work := w }
    let freed (w : Work) : State :=
      { s with loop := { s.loop with fences := s.loop.fences &&& ~~~(1#8 <<< z.val) }, work := w }
    let stop : Notice := .fence z.val true (s.loop.fences ||| (1#8 <<< z.val))
    let run : Notice := .fence z.val false (s.loop.fences &&& ~~~(1#8 <<< z.val))
    let isStop := s.loop.fences.getLsbD z.val
    let drives : List Point := s.work.points.filter fun q => decide (q.kind = .zoneDrive) && q.config.zone == z.val
    (isStop = true → exec (.zoneFenced z) s = .next s) ∧
    (isStop = false → exec (.zoneUnfenced z) s = .next s) ∧
    (s.work.plan = [] → (∀ y ∈ s.work.windows, ∀ p, s.work.point y.sensor = some p → p.config.zone ≠ z.val) →
      drives = [] →
      (isStop = false → exec (.zoneFenced z) s = .next ((fenced s.work).notifiedBoth [stop])) ∧
      (isStop = true → s.work.dist ≠ none →
        exec (.zoneUnfenced z) s = .next ((freed s.work).notifiedBoth [run])) ∧
      (isStop = true → s.work.dist = none → ∃ t, exec (.zoneUnfenced z) s = .next t ∧
        (freed s.work).Posted t [run, .speedSet s.loop.tracker.setpoint .unfence 0 0] [run])) ∧
    (∀ (g : Geometry) (p : Point) (t : Trial) (x : Nat), s.loop.tracker.geometry = some g → g.Law →
      s.loop.tracker.lock = .locked → s.loop.tracker.pos = some x → x < g.length → drives = [] →
      s.work.plan = [t] → t.kind = .sensor → t.target = p.tag → s.work.point p.tag = some p → p.config.zone = z.val →
      (∀ y, isStop = false → t.state = .active → t.reasons = .clear → s.work.windows = [y] → y.sensor = p.tag →
        y.trial = t.id → y.purpose = .sensorPass →
        let held : Work :=
          { s.work with
            plan := [{ t with state := .held, reasons := ⟨false, false, true, false⟩, armed := none }]
            windows := []
            polls := s.work.polls.filter fun q => decide (q.trial ≠ t.id)
            ringA := s.work.ringA.withdraw (keepsQueries t.order)
            ringB := s.work.ringB.withdraw (keepsQueries t.order) }
        exec (.zoneFenced z) s = .next ((fenced held).notifiedBoth [stop])) ∧
      (∀ k, isStop = true → t.state = .held → t.reasons = ⟨false, false, true, false⟩ → t.armed = none →
        s.work.windows = [] → s.work.dist ≠ none → FirstDue g p x k →
        let armed : Work :=
          { s.work with
            plan := [{ t with state := .active, reasons := .clear, armed := some k, startAt := none }]
            windows := [windowFor g p k .sensorPass t.id none s.work.armCount]
            armCount := s.work.armCount + 1 }
        exec (.zoneUnfenced z) s = .next ((freed armed).notifiedBoth [run]))) ∧
    ∀ (p : Point) (a : Route), drives = [p] → s.work.point p.tag = some p → p.route = some a →
      s.work.windows = [] →
      let r := s.work.ring a.branch
      let order (v : Nat) : Ring := { r with driveq := r.driveq ++ [⟨.setSpeed p.tag v, a.node, a.channel, 0, false⟩] }
      let commands (v : Nat) (c : SpeedCause) (rows : List Row) (w : Work) : Work :=
        { w with dist := some ⟨v, c, rows⟩ }.setRing a.branch (order v)
      let begins : List Row := [⟨p.tag, .sent s.loop.tracker.setpoint false⟩]
      let ready : Prop := r.state = .running ∧ r.nodeState a.node ≠ .silent ∧ r.downlink ≠ none
      (isStop = true → ready → s.work.dist = none →
        (s.work.plan = [] → exec (.zoneUnfenced z) s = .next
          ((freed (commands s.loop.tracker.setpoint .unfence begins s.work)).notifiedBoth [run])) ∧
        (∀ t, s.work.plan = [t] → t.kind = .zoneDrive → t.target = p.tag → t.state = .held →
          t.reasons = ⟨false, false, true, false⟩ → s.loop.tracker.steady = true →
          let w : Work :=
            { s.work with
              plan := [{ t with state := .active, reasons := .clear }]
              polls := s.work.polls ++ [⟨t.id, s.loop.clock + 100⟩] }
          exec (.zoneUnfenced z) s = .next
            ((freed (commands s.loop.tracker.setpoint .unfence begins w)).notifiedBoth [run]))) ∧
      ∀ d, s.work.plan = [] → s.work.dist = some d →
        let put (x : RowState) : List Row := d.rows.map fun y => if y.tag = p.tag then { y with state := x } else y
        let waits : Prop := ∃ q ∈ s.work.ringA.driveq ++ s.work.ringB.driveq, ∃ v, q.job = .setSpeed p.tag v
        (∀ v again, isStop = false → d.rows.find? (fun y => y.tag == p.tag) = some ⟨p.tag, .sent v again⟩ → waits →
          let settled : Prop := ∀ y ∈ put .withheld,
            y.state = .withheld ∨ y.state = .acked d.value ∨ y.state = .failed d.value
          let withdrawn (x : Option Distribution) : Work :=
            { s.work with
              dist := x
              ringA := s.work.ringA.withdraw (keepsSpeeds p.tag)
              ringB := s.work.ringB.withdraw (keepsSpeeds p.tag) }
          let acked := ((put .withheld).filter fun y => decide (y.state = .acked d.value)).length
          let failed := ((put .withheld).filter fun y => decide (y.state = .failed d.value)).length
          (¬settled → exec (.zoneFenced z) s =
            .next ((fenced (withdrawn (some { d with rows := put .withheld }))).notifiedBoth [stop])) ∧
          (settled → ∃ t, exec (.zoneFenced z) s = .next t ∧
            (fenced (withdrawn none)).Posted t [stop, .speedSet d.value d.cause acked failed] [stop])) ∧
        (∀ v again, d.rows.find? (fun y => y.tag == p.tag) = some ⟨p.tag, .sent v again⟩ →
          (∀ q ∈ s.work.ringA.waiting ++ s.work.ringB.waiting, ∀ u, q.job ≠ .setSpeed p.tag u) →
          (isStop = false → exec (.zoneFenced z) s = .next ((fenced s.work).notifiedBoth [stop])) ∧
          (isStop = true → exec (.zoneUnfenced z) s =
            .next ((freed { s.work with dist := some { d with rows := put (.sent v true) } }).notifiedBoth [run]))) ∧
        (isStop = true → ready → d.rows.find? (fun y => y.tag == p.tag) = some ⟨p.tag, .withheld⟩ →
          exec (.zoneUnfenced z) s = .next
            ((freed (commands d.value d.cause (put (.sent d.value false)) s.work)).notifiedBoth [run])) ∧
        (∀ before after, isStop = true → ready → d.rows = before ++ after → (∀ y ∈ before, y.tag < p.tag) →
          (∀ y ∈ after, p.tag < y.tag) →
          exec (.zoneUnfenced z) s = .next
            ((freed (commands d.value d.cause (before ++ ⟨p.tag, .sent d.value false⟩ :: after) s.work)).notifiedBoth
              [run]))

/-! ## Carriers and the fire list -/

/-- DISCHARGE (R32, R84, R85, R94): the refusals of R85 in their order, which change nothing; else the entry joins at
the end with its nominal position, its fire point and the load ref its carrier holds, the carrier takes the chute as
its destination, and nothing else changes. -/
def Obligations.DischargeJoins : Prop :=
  (∀ (m : Link) (s : State) (rtag n chute : Nat), s.Takes m → rtag ≠ 0 →
    let answers (x : Status) : Prop :=
      exec (.discharge m rtag n chute) s = .next (s.answered m rtag (.discharge n chute) x [])
    (s.loop.tracker.geometry = none → answers .noGeometry) ∧
    ∀ g, s.loop.tracker.geometry = some g →
      (g.carriers ≤ n → answers .invalid) ∧
      (n < g.carriers → s.work.point chute = none → answers .notFound) ∧
      ∀ p, n < g.carriers → s.work.point chute = some p →
        let mine : Prop := ∃ c ref dest, s.work.carriers[n]? = some c ∧ c.load = .loaded m ref dest
        let listed : Prop := ∃ e ∈ s.work.fires, e.carrier = n
        let taken : Prop := p.custody = m ∧ (m = .line → p.service = .inService)
        (p.kind ≠ .chute → answers .invalid) ∧
        (p.kind = .chute → ¬mine → answers .custody) ∧
        (p.kind = .chute → mine → listed → answers .busy) ∧
        (p.kind = .chute → mine → ¬listed → ¬taken → answers .custody) ∧
        (p.kind = .chute → mine → ¬listed → taken → 256 ≤ s.work.fires.length → answers .full)) ∧
  ∀ (k : Link) (s : State) (rtag n chute : Nat) (g : Geometry) (p : Point) (c : Carrier) (ref : BitVec 32)
    (dest : Option Nat), s.Takes k → rtag ≠ 0 → s.loop.tracker.geometry = some g → n < g.carriers →
    s.work.point chute = some p → p.kind = .chute → s.work.carriers[n]? = some c → c.load = .loaded k ref dest →
    (∀ e ∈ s.work.fires, e.carrier ≠ n) → (k = .line → p.custody = .line ∧ p.service = .inService) →
    (k = .console → p.custody = .console) → s.work.fires.length < 256 →
    let nominal := (p.config.loc + n * g.pitch) % g.length
    let lead := (s.loop.tracker.v * (p.config.throw.getD 0 + g.latency) + 500) / 1000
    let point := (((nominal : Int) - lead) % g.length).toNat
    let e : Entry :=
      { seq := s.work.fireCount, carrier := n, chute := some chute,
        origin := match k with | .line => .lineDischarge | .console => .consoleDischarge
        owner := k, trial := none, nominal := nominal, firePoint := point, misses := 0, state := .waiting,
        requested := false, lastPassed := none, ref := ref, orphan := false }
    exec (.discharge k rtag n chute) s = .next
      ({ s with work := { s.work with
          fires := s.work.fires ++ [e]
          fireCount := s.work.fireCount + 1
          carriers := s.work.carriers.set n { c with load := .loaded k ref (some chute) } } }.answered k rtag
        (.discharge n chute) .ok [.u32 nominal, .u32 point])

/-- CANCEL_DISCHARGE (R68, R93, R94): the refusals of R93 in their order, which change nothing. Else the discharge,
WAITING and its owner's own, leaves the list with its request, the carrier's destination becomes absent, and
DISCHARGE_DONE(CANCELLED) goes to its owner; as the last LINE fire naming a DRAINING chute it also passes the chute's
custody to the console. -/
def Obligations.CancelDischargeEnds : Prop :=
  (∀ (m : Link) (s : State) (rtag n : Nat), s.Takes m → rtag ≠ 0 →
    let answers (x : Status) : Prop :=
      exec (.cancelDischarge m rtag n) s = .next (s.answered m rtag (.cancelDischarge n) x [])
    (s.loop.tracker.geometry = none → answers .noGeometry) ∧
    ∀ g, s.loop.tracker.geometry = some g →
      (g.carriers ≤ n → answers .invalid) ∧
      (n < g.carriers → (∀ e ∈ s.work.fires, e.carrier ≠ n) → answers .notFound) ∧
      ∀ e, n < g.carriers → s.work.entryOf n = some e →
        let trialEntry : Prop := e.origin = .chuteItem ∨ e.origin = .beltJog
        (trialEntry → answers .invalid) ∧
        (¬trialEntry → e.owner ≠ m → answers .custody) ∧
        (¬trialEntry → e.owner = m → e.state = .sent → answers .busy)) ∧
  ∀ (k : Link) (s : State) (rtag n c : Nat) (g : Geometry) (e : Entry), s.Takes k → rtag ≠ 0 →
    s.loop.tracker.geometry = some g → n < g.carriers → s.work.entryOf n = some e → e.chute = some c →
    (e.origin = .lineDischarge ∨ e.origin = .consoleDischarge) → e.owner = k → e.state = .waiting →
    let others (j : Job) : Bool := decide (j ≠ .fire e.seq)
    let w : Work :=
      { s.work with
        fires := s.work.fires.filter fun f => decide (f.seq ≠ e.seq)
        carriers := s.work.carriers.modify n fun x => { x with load :=
          match x.load with | .loaded owner ref _ => .loaded owner ref none | y => y }
        ringA := s.work.ringA.withdraw others
        ringB := s.work.ringB.withdraw others }
    let done : Notice := .dischargeDone n c .cancelled e.ref e.misses s.loop.tracker.revolution
    ((k = .console ∨ s.work.ask c = none) →
      exec (.cancelDischarge k rtag n) s = .next
        (({ s with work := w }.answered k rtag (.cancelDischarge n) .ok []).notified k [done])) ∧
    (∀ p, k = .line → s.work.ask c = some ⟨c, .draining⟩ → s.work.point c = some p →
      (∀ f ∈ s.work.fires, f.owner = .line → f.chute = some c → f.seq = e.seq) →
      let w' : Work :=
        { w.setPoint { p with custody := .console, service := .outOfService } with
          asks := s.work.asks.filter fun a => decide (a.tag ≠ c) }
      exec (.cancelDischarge k rtag n) s = .next
        ((({ s with work := w' }.answered k rtag (.cancelDischarge n) .ok []).notified .line [done]).notified .console
          [.custodyDone c true none]))

/-- CLEAR_CARRIER (R82): NO_GEOMETRY, INVALID, then BUSY with an entry on the field or a belt trial on the carrier; else
the carrier is EMPTY, the answer carries what it was, and a discharge still WAITING leaves the list with
DISCHARGE_DONE(CANCELLED) to its owner. -/
def Obligations.CarrierIsCleared : Prop :=
  (∀ (k : Link) (s : State) (rtag n : Nat), s.Takes k → rtag ≠ 0 →
    let answers (x : Status) : Prop := exec (.clearCarrier k rtag n) s = .next (s.answered k rtag (.clearCarrier n) x [])
    (s.loop.tracker.geometry = none → answers .noGeometry) ∧
    (∀ g, s.loop.tracker.geometry = some g → g.carriers ≤ n → answers .invalid)) ∧
  ∀ (k : Link) (s : State) (rtag n : Nat) (g : Geometry) (c : Carrier), s.Takes k → rtag ≠ 0 →
    s.loop.tracker.geometry = some g → n < g.carriers → s.work.carriers[n]? = some c →
    let belt : Prop := ∃ t ∈ s.work.plan, t.kind = .belt ∧ t.target = n
    ((∃ e, s.work.entryOf n = some e ∧ e.state = .sent) ∨ belt →
      exec (.clearCarrier k rtag n) s = .next (s.answered k rtag (.clearCarrier n) .busy [])) ∧
    let was : List Field :=
      match c.load with
      | .empty => [.u8 1, .u8 0]
      | .loaded _ _ _ => [.u8 2, .u8 0]
      | .fault r => [.u8 3, .u8 1, .u8 r.code]
    let cleared : Work := { s.work with carriers := s.work.carriers.set n { c with load := .empty } }
    (¬belt → (∀ e ∈ s.work.fires, e.carrier ≠ n) →
      exec (.clearCarrier k rtag n) s = .next
        ({ s with work := cleared }.answered k rtag (.clearCarrier n) .ok was)) ∧
    (∀ e d, ¬belt → s.work.entryOf n = some e → e.state = .waiting → e.chute = some d →
      (e.origin = .lineDischarge ∨ e.origin = .consoleDischarge) → (e.owner = .console ∨ s.work.ask d = none) →
      let w : Work :=
        { cleared with
          fires := s.work.fires.filter fun f => decide (f.seq ≠ e.seq)
          ringA := s.work.ringA.withdraw fun j => decide (j ≠ .fire e.seq)
          ringB := s.work.ringB.withdraw fun j => decide (j ≠ .fire e.seq) }
      exec (.clearCarrier k rtag n) s = .next
        (({ s with work := w }.answered k rtag (.clearCarrier n) .ok was).notified e.owner
          [.dischargeDone n d .cancelled e.ref e.misses s.loop.tracker.revolution]))

/-- An accepted EVENT of an INDUCT on whose point no capture channel is in ACCEPT (R26, R29, R30, R80, R81, R97, R99,
R155). The node's expected bit turns and its acknowledgement joins the ACK queue. A stale event or one of the other
edge does nothing more. While the tracker is not LOCKED, LOAD_UNPLACED goes to the induct's custody, and so it does,
with the carrier and its deviation, beyond the tolerance of every carrier. Else the nearest carrier takes the load:
EMPTY, it is LOADED for the induct's custody with LOAD to it; LOADED, it is FAULT(DOUBLE_LOAD) with CARRIER_FAULT to
both links, and a discharge still WAITING for it is CANCELLED; in FAULT it stays so, with CARRIER_FAULT to both links.
-/
def Obligations.LoadsArePlaced : Prop :=
  ∀ (br : Branch) (s : State) (f : EventFields) (p : Point) (y : Node),
    let r := s.work.ring br
    let tr := s.loop.tracker
    s.Quiet → f.passes = true → r.state = .running → r.downlink ≠ none → r.acks.length < 32 →
    r.node f.node = some y → y.state = .online → f.seq = y.expected → eventPoint br f s.work = some p →
    p.kind = .induct → (∀ ch : Channel, some ch ∈ s.channels → ch.mode = .accept → ch.tag ≠ p.tag) →
    let age := min f.age 4095
    let stale : Prop := ∃ g, tr.geometry = some g ∧ g.maxAge < age
    let edge : Prop := p.config.edge = some (if f.falling then .falling else .rising)
    let heard : Ring :=
      { r.setNode f.node { y with expected := !y.expected, timeouts := 0 } with acks := r.acks ++ [⟨f.node, f.seq⟩] }
    let taken (w : Work) : State := { s with work := w.setRing br heard }
    (stale ∨ ¬edge → exec (.eventFrame br f) s = .next (taken s.work)) ∧
    (¬stale → edge → tr.lock ≠ .locked →
      exec (.eventFrame br f) s =
        .next ((taken s.work).notified p.custody [.loadUnplaced p.tag f.ref .notLocked none])) ∧
    ∀ (g : Geometry) (x n : Nat) (d : Int) (c : Carrier), ¬stale → edge → tr.geometry = some g → tr.lock = .locked →
      tr.pos = some x →
      attribution g p.config.loc p.config.bias
        (((x : Int) - ((tr.v * age + 10000) / 20000 : Nat)) % g.length).toNat = (n, d) →
      let tol := min p.config.tol ((g.pitch - 1) / 2)
      (tol < d.natAbs →
        exec (.eventFrame br f) s =
          .next ((taken s.work).notified p.custody [.loadUnplaced p.tag f.ref .offCarrier (some (n, d))])) ∧
      (d.natAbs ≤ tol → s.work.carriers[n]? = some c →
        let now (load : LoadState) : Work := { s.work with carriers := s.work.carriers.set n { c with load := load } }
        (c.load = .empty → (p.custody = .console → s.work.plan = []) →
          exec (.eventFrame br f) s = .next ((taken (now (.loaded p.custody f.ref none))).notified p.custody
            [.load n f.ref p.tag d tr.revolution])) ∧
        (∀ owner old dest, c.load = .loaded owner old dest →
          let fault : Notice := .carrierFault n .doubleLoad (some (owner, old)) f.ref p.tag
          ((∀ e ∈ s.work.fires, e.carrier = n → e.state = .sent) →
            exec (.eventFrame br f) s = .next ((taken (now (.fault .doubleLoad))).notifiedBoth [fault])) ∧
          (∀ e chute, s.work.entryOf n = some e → e.state = .waiting → e.chute = some chute →
            (e.origin = .lineDischarge ∨ e.origin = .consoleDischarge) →
            (e.owner = .console ∨ s.work.ask chute = none) →
            let others (j : Job) : Bool := decide (j ≠ .fire e.seq)
            let left : Work :=
              { (now (.fault .doubleLoad)).setRing br heard with
                fires := s.work.fires.filter fun z => decide (z.seq ≠ e.seq) }
            let done : Notice := .dischargeDone n chute .cancelled e.ref e.misses tr.revolution
            ∃ t, exec (.eventFrame br f) s = .next t ∧
              State.Posted { s with work := left.withdraw others } t
                (if e.owner = .line then [fault, done] else [fault])
                (if e.owner = .console then [fault, done] else [fault]))) ∧
        (∀ why, c.load = .fault why →
          exec (.eventFrame br f) s =
            .next ((taken s.work).notifiedBoth [.carrierFault n why none f.ref p.tag])))

/-- From a fire point to the grant of its FIRE request (R33, R88 to R91, R103, R126, R141, R150, R157). The move that
reaches the fire point of a WAITING discharge finds it due once in a pass revolution: it is skipped while not LOCKED, at
rest or in a fenced zone, requests its fire from the carrier link node, or counts a miss where the branch is not RUNNING
or the node SILENT. At the grant, which goes before every DRIVE and RELAY request, the same tests withdraw the request;
within the slack past the fire point the command leaves under the lowest free tag and the entry is SENT, a chute item
FIRED with its entry window armed, a belt jog counted; beyond the slack the entry counts a miss, and the third ends the
discharge RECIRCULATED. The pass revolution is formed at the fire point itself (log 10), a jog counts as sent at its
grant (log 24), and the deadline is kept on the model's clock (log 7): the model's readings. -/
def Obligations.FireIsGranted : Prop :=
  (∀ (s : State) (a b : Bool) (g : Geometry) (e : Entry) (p : Point) (c x : Nat),
    let tr := s.loop.tracker
    let up := (tr.frac + g.scale) / 65536
    let moved : Tracker :=
      { tr with encA := a, encB := b, frac := (tr.frac + g.scale) % 65536, current := tr.current + up,
                homeDist := tr.homeDist + up, pos := some ((x + up) % g.length) }
    s.Quiet → tr.geometry = some g → tr.frac < 65536 → tr.pos = some x → x < g.length →
    (tr.lock = .locked ∨ tr.lock = .coasting) → levelOf a b = (levelOf tr.encA tr.encB + 1) % 4 →
    tr.homeDist + up ≤ (g.length : Int) + g.homeTol → s.work.windows = [] → s.work.fires = [e] →
    reaches g.length x up e.firePoint = true → (e.origin = .lineDischarge ∨ e.origin = .consoleDischarge) →
    e.chute = some c → s.work.point c = some p →
    let r := s.work.ring g.linkBranch
    let at' : Int := tr.homeDist + (((e.firePoint : Int) - x) % g.length).toNat
    let pass : Int := (tr.revolution : Int) + (if (g.length : Int) ≤ at' then 1 else if at' < 0 then -1 else 0)
    let skipped : Prop := tr.lock ≠ .locked ∨ tr.v = 0 ∨ s.loop.fences.getLsbD p.config.zone = true
    let now (w : Work) : Outcome := .next { s with loop := { s.loop with tracker := moved }, work := w }
    (e.state = .sent ∨ e.requested = true ∨ e.lastPassed = some pass → exec (.encoderEvent a b) s = now s.work) ∧
    (e.state = .waiting → e.requested = false → e.lastPassed ≠ some pass →
      (skipped → exec (.encoderEvent a b) s = now { s.work with fires := [{ e with lastPassed := some pass }] }) ∧
      (¬skipped → r.state = .running → r.nodeState g.linkNode ≠ .silent → r.downlink ≠ none →
        let due : Work := { s.work with fires := [{ e with lastPassed := some pass, requested := true }] }
        exec (.encoderEvent a b) s = now (due.setRing g.linkBranch
          { r with fireq := r.fireq ++ [⟨.fire e.seq, g.linkNode, 0, 0, false⟩] })) ∧
      (¬skipped → r.state ≠ .running ∨ r.nodeState g.linkNode = .silent → e.misses < 2 →
        exec (.encoderEvent a b) s =
          now { s.work with fires := [{ e with lastPassed := some pass, misses := e.misses + 1 }] }))) ∧
  ∀ (s : State) (g : Geometry) (q : Req) (rest : List Req) (e : Entry) (tag x : Nat) (f0 : DownFrame),
    let r := s.work.ring g.linkBranch
    let tr := s.loop.tracker
    s.Quiet → tr.geometry = some g → tr.pos = some x → r.state = .running → r.downlink = some f0 → r.acks = [] →
    r.fireq = q :: rest → q.job = .fire e.seq → q.node = g.linkNode → q.yield = false →
    r.outstanding q.node < 8 → tag < 16 → (∀ y ∈ r.table, y.tag ≠ tag) → (∀ m < tag, ∃ y ∈ r.table, y.tag = m) →
    s.work.entryAt e.seq = some e → e.state = .waiting → e.requested = true →
    let past := (((x : Int) - e.firePoint) % g.length).toNat
    let sent (w : Work) (action : Action) : Outcome :=
      let frame : DownFrame := .command tag q.node q.channel action
      .next { s with
        work := (w.setEntry { e with state := .sent, requested := false }).setRing g.linkBranch { r with
          fireq := rest, downlink := some frame, wire := frame.bytes
          table := r.table ++
            [⟨tag, .fire e.seq, q.node, q.channel, .command, q.attempts + 1, s.loop.clock + 10⟩] } }
    let idle : Ring := { r with fireq := [], downlink := none }
    (∀ c p side, (e.origin = .lineDischarge ∨ e.origin = .consoleDischarge) → e.chute = some c →
      s.work.point c = some p → p.config.side = some side →
      let skipped : Prop := tr.lock ≠ .locked ∨ tr.v = 0 ∨ s.loop.fences.getLsbD p.config.zone = true
      (¬skipped → past ≤ g.slack →
        exec (.downlinkFrameEnd g.linkBranch) s = sent s.work (.discharge e.carrier side)) ∧
      (rest = [] → r.driveq = [] → r.relayq = [] →
        (skipped → exec (.downlinkFrameEnd g.linkBranch) s = .next { s with
          work := (s.work.setEntry { e with requested := false }).setRing g.linkBranch idle }) ∧
        (¬skipped → g.slack < past → e.misses < 2 →
          exec (.downlinkFrameEnd g.linkBranch) s = .next { s with
            work := (s.work.setEntry { e with misses := e.misses + 1, requested := false }).setRing g.linkBranch idle }) ∧
        (¬skipped → g.slack < past → e.misses = 2 → (e.owner = .console ∨ s.work.ask c = none) →
          let others (j : Job) : Bool := decide (j ≠ .fire e.seq)
          let left : Work :=
            { s.work.setRing g.linkBranch idle with
              fires := s.work.fires.filter fun z => decide (z.seq ≠ e.seq)
              carriers := s.work.carriers.modify e.carrier fun y => { y with load :=
                match y.load with | .loaded owner ref _ => .loaded owner ref none | z => z } }
          exec (.downlinkFrameEnd g.linkBranch) s = .next
            (State.notified { s with work := left.withdraw others } e.owner
              [.dischargeDone e.carrier c .recirculated e.ref 3 tr.revolution])))) ∧
    (∀ c u p n side t i, e.origin = .chuteItem → e.trial = some t.id → s.work.trial t.id = some t → e.chute = some c →
      s.work.point c = some p → p.config.side = some side → p.config.entry = some u → s.work.point u = some n →
      t.items.find? (fun j => j.carrier == e.carrier) = some i → tr.lock = .locked → 0 < tr.v → tr.steady = true →
      s.loop.fences.getLsbD p.config.zone = false → s.loop.fences.getLsbD n.config.zone = false →
      s.work.windows.length < 512 → (∀ y ∈ s.work.windows, ¬(y.sensor = u ∧ y.carrier = e.carrier)) →
      past ≤ g.slack →
      let fired : Trial :=
        { t with items := t.items.map fun j => if j.index = i.index then { i with stage := .fired } else j }
      let armed : Work :=
        { s.work.setTrial fired with
          windows := s.work.windows ++ [windowFor g n e.carrier .chuteEntry t.id (some i.index) s.work.armCount]
          armCount := s.work.armCount + 1 }
      exec (.downlinkFrameEnd g.linkBranch) s = sent armed (.discharge e.carrier side)) ∧
    (∀ t speed time car, e.origin = .beltJog → e.chute = none → e.trial = some t.id → s.work.trial t.id = some t →
      t.jogSpeed = some speed → t.jogTime = some time → s.work.carriers[e.carrier]? = some car →
      tr.lock = .locked → 0 < tr.v → past ≤ g.slack →
      (car.load = .empty →
        exec (.downlinkFrameEnd g.linkBranch) s =
          sent (s.work.setTrial { t with belt := { t.belt with sent := t.belt.sent + 1 } })
            (.jog e.carrier speed time)) ∧
      (car.load ≠ .empty → rest = [] → r.driveq = [] → r.relayq = [] →
        exec (.downlinkFrameEnd g.linkBranch) s = .next { s with
          work := (s.work.setEntry { e with requested := false }).setRing g.linkBranch idle }))

/-! ## Trials -/

/-- SUBMIT_TRIAL (R102, R112 to R116, R123, R125, R138, R140): the refusals of R113 in their order, which change
nothing. Else the trial joins the plan with its parameters under the next id to assign, or the first after it, from
255 back to 1, that no trial holds, the target is IN_TRIAL with its prior proof kept, and the answer carries the id.
With sixteen trials ACTIVE or HELD it stays QUEUED; else it is HELD with the reasons that apply, or ACTIVE: a
ZONE_DRIVE trial with its poll timer, kept on the model's clock (log 7); a sensor trial with the window of the first
carrier due, of the next where that pair is taken, or HELD(NO_WINDOW_SPACE) with the table full; a chute trial with
the loaded carrier it claims; a belt trial with its jog in the fire list. -/
def Obligations.TrialIsSubmitted : Prop :=
  ∀ (s : State) (rtag : Nat) (f : TrialFields), s.Takes .console → rtag ≠ 0 →
    let answers (x : Status) : Prop :=
      exec (.submitTrial rtag f) s = .next (s.answered .console rtag (.submitTrial f) x [])
    let banded : Prop := ∃ b, f.band = some b ∧ 5 ≤ b ∧ b ≤ 500
    let jogged : Prop :=
      (∃ v, f.jogSpeed = some v ∧ 100 ≤ v ∧ v ≤ 2500) ∧ ∃ d, f.jogTime = some d ∧ 20 ≤ d ∧ d ≤ 500
    let unjogged : Prop := f.jogSpeed = none ∧ f.jogTime = none
    let valid : Prop := 1 ≤ f.need ∧ f.need ≤ 64 ∧ 1 ≤ f.limit ∧ f.limit ≤ 16 ∧ 10 ≤ f.time ∧ f.time ≤ 3600 ∧
      (((f.kind = 1 ∨ f.kind = 2) ∧ f.band = none ∧ unjogged) ∨ (f.kind = 3 ∧ banded ∧ unjogged) ∨
       (f.kind = 4 ∧ banded ∧ jogged))
    let kind : TrialKind := match f.kind with | 1 => .sensor | 2 => .chute | 3 => .zoneDrive | _ => .belt
    let following (n : Nat) : Nat := (s.work.nextId - 1 + n) % 255 + 1
    let chosen (id : Nat) : Prop := 1 ≤ s.work.nextId ∧ s.work.nextId ≤ 255 ∧
      ∃ n < 255, id = following n ∧ s.work.trial id = none ∧ ∀ m < n, s.work.trial (following m) ≠ none
    let queued (id : Nat) : Trial :=
      { id := id, kind := kind, target := f.target, order := s.work.submitCount, state := .queued, reasons := .clear,
        need := f.need, limit := f.limit, timeLimit := f.time, remaining := f.time * 1000, streak := 0, fails := 0,
        stats := ⟨0, 0, none, none⟩, band := f.band, jogSpeed := f.jogSpeed, jogTime := f.jogTime, armed := none,
        startAt := none, items := [], claimed := 0, outcomes := ⟨0, 0, 0, 0, 0, 0, 0, 0⟩, drive := ⟨0, 0, 0, 0, none⟩,
        belt := ⟨0, 0, 0, 0, 0, 0, none⟩, begun := false, jogDeclined := false }
    let accepts (w : Work) (u : Trial) : Prop :=
      let w' : Work :=
        { w with plan := s.work.plan ++ [u], nextId := if 255 ≤ u.id then 1 else u.id + 1,
                 submitCount := s.work.submitCount + 1 }
      exec (.submitTrial rtag f) s =
        .next ({ s with work := w' }.answered .console rtag (.submitTrial f) .accepted [.u8 u.id])
    let first : Prop := s.work.running < 16 ∧ ∀ u ∈ s.work.plan, u.state ≠ .queued
    let tr := s.loop.tracker
    let fenced (zone : Nat) : Bool := s.loop.fences.getLsbD zone
    (1 ≤ s.work.nextId → s.work.nextId ≤ 255 → s.work.plan.length < 64 → ∃ id, chosen id) ∧
    (tr.geometry = none → answers .noGeometry) ∧
    ∀ g, tr.geometry = some g →
      (¬valid ∨ (f.kind = 4 ∧ g.carriers ≤ f.target) → answers .invalid) ∧
      (valid → f.kind ≠ 4 → s.work.point f.target = none → answers .notFound) ∧
      (∀ p, valid → f.kind ≠ 4 → s.work.point f.target = some p →
        let agrees : Prop := (f.kind = 1 ∧ p.kind = .sensor) ∨ (f.kind = 2 ∧ p.kind = .chute) ∨
          (f.kind = 3 ∧ p.kind = .zoneDrive)
        let held : Prop := ∃ u ∈ s.work.plan, u.kind ≠ .belt ∧ u.target = f.target
        let routed : Prop := (f.kind ≠ 2 → p.route ≠ none) ∧
          (f.kind = 2 → ∃ u n, p.config.entry = some u ∧ s.work.point u = some n ∧ n.route ≠ none)
        (¬agrees → answers .invalid) ∧
        (agrees → p.custody = .line → answers .custody) ∧
        (agrees → p.custody = .console → held → answers .busy) ∧
        (agrees → p.custody = .console → ¬held → ¬routed → answers .unrouted) ∧
        (agrees → p.custody = .console → ¬held → routed → 64 ≤ s.work.plan.length → answers .full) ∧
        (∀ id, agrees → p.custody = .console → ¬held → routed → s.work.plan.length < 64 → chosen id →
          let t := queued id
          let entered : Work := s.work.setPoint { p with proof := .inTrial, prior := some p.proof }
          let why : HoldReasons :=
            { unlocked := decide (f.kind ≠ 3 ∧ tr.lock ≠ .locked)
              unsteady := decide (f.kind ≠ 1) && !tr.steady
              fenced := fenced p.config.zone ||
                (decide (f.kind = 2) &&
                  (match p.config.entry.bind s.work.point with | none => false | some n => fenced n.config.zone))
              noSpace := false }
          let active : Trial := { t with state := .active }
          (16 ≤ s.work.running → accepts entered t) ∧
          (first → why ≠ .clear → accepts entered { t with state := .held, reasons := why }) ∧
          (first → why = .clear → f.kind = 3 →
            accepts { entered with polls := s.work.polls ++ [⟨id, s.loop.clock + 100⟩] } active) ∧
          (∀ x k, first → why = .clear → f.kind = 1 → g.Law → tr.pos = some x → x < g.length → FirstDue g p x k →
            let armedAt (j : Nat) : Prop :=
              accepts { entered with
                windows := s.work.windows ++ [windowFor g p j .sensorPass id none s.work.armCount]
                armCount := s.work.armCount + 1 } { active with armed := some j }
            let taken (j : Nat) : Prop := ∃ y ∈ s.work.windows, y.sensor = p.tag ∧ y.carrier = j
            (s.work.windows.length < 512 → ¬taken k → armedAt k) ∧
            (s.work.windows.length < 512 → taken k → ¬taken ((k + 1) % g.carriers) → armedAt ((k + 1) % g.carriers)) ∧
            (512 ≤ s.work.windows.length →
              accepts entered { t with state := .held, reasons := ⟨false, false, false, true⟩, startAt := some k })) ∧
          (first → why = .clear → f.kind = 2 → s.work.fires.length < 256 →
            (∀ u ∈ s.work.plan, u.kind = .chute → u.state ≠ .active) →
            let free (n : Nat) : Prop := (∃ c ref dest, s.work.carriers[n]? = some c ∧ c.load = .loaded .console ref dest) ∧
              ∀ e ∈ s.work.fires, e.carrier ≠ n
            ((∀ n, ¬free n) → accepts entered active) ∧
            (∀ n c ref dest, free n → (∀ m, free m → m = n) → s.work.carriers[n]? = some c →
              c.load = .loaded .console ref dest →
              let nominal := (p.config.loc + n * g.pitch) % g.length
              let lead := (tr.v * (p.config.throw.getD 0 + g.latency) + 500) / 1000
              let e : Entry :=
                { seq := s.work.fireCount, carrier := n, chute := some f.target, origin := .chuteItem, owner := .console,
                  trial := some id, nominal := nominal, firePoint := (((nominal : Int) - lead) % g.length).toNat,
                  misses := 0, state := .waiting, requested := false, lastPassed := none, ref := ref, orphan := false }
              accepts { entered with
                  fires := s.work.fires ++ [e]
                  fireCount := s.work.fireCount + 1
                  carriers := s.work.carriers.set n { c with load := .loaded .console ref (some f.target) } }
                { active with claimed := 1, items := [⟨1, n, ref, .assigned, none, none⟩] })))) ∧
      (∀ c, valid → f.kind = 4 → f.target < g.carriers → s.work.carriers[f.target]? = some c →
        let theirs : Prop := ∃ ref dest, c.load = .loaded .line ref dest
        let held : Prop := ∃ u ∈ s.work.plan, u.kind = .belt ∧ u.target = f.target
        (theirs → answers .custody) ∧
        (¬theirs → held → answers .busy) ∧
        (¬theirs → ¬held → 64 ≤ s.work.plan.length → answers .full) ∧
        (∀ id, ¬theirs → ¬held → s.work.plan.length < 64 → chosen id →
          let t := queued id
          let entered : Work :=
            { s.work with carriers := s.work.carriers.set f.target { c with proof := .inTrial, prior := some c.proof } }
          let listed : Prop := ∃ e ∈ s.work.fires, e.carrier = f.target
          (16 ≤ s.work.running → accepts entered t) ∧
          (first → tr.lock ≠ .locked →
            accepts entered { t with state := .held, reasons := ⟨true, false, false, false⟩ }) ∧
          (first → tr.lock = .locked → listed ∨ 256 ≤ s.work.fires.length →
            accepts entered { t with state := .active, begun := true, jogDeclined := true }) ∧
          (first → tr.lock = .locked → ¬listed → s.work.fires.length < 256 →
            let nominal := (g.jog + f.target * g.pitch) % g.length
            let lead := (tr.v * g.latency + 500) / 1000
            let e : Entry :=
              { seq := s.work.fireCount, carrier := f.target, chute := none, origin := .beltJog, owner := .console,
                trial := some id, nominal := nominal, firePoint := (((nominal : Int) - lead) % g.length).toNat,
                misses := 0, state := .waiting, requested := false, lastPassed := none
                ref := match c.load with | .loaded _ ref _ => ref | _ => 0
                orphan := false }
            accepts { entered with fires := s.work.fires ++ [e], fireCount := s.work.fireCount + 1 }
              { t with state := .active, begun := true })))

/-- CANCEL_TRIAL and TRIAL_TIME_EXPIRY, and completion by a SPEED query's reply (R43, R44, R111, R115, R117 to R121,
R139, R142). CANCEL_TRIAL of an id outside 1..255 is INVALID, and of one that no trial holds NOT_FOUND. Else the trial
leaves the plan with its windows, its poll timer and its waiting query; its WAITING entry leaves the fire list with
its request, a SENT one stays as an orphan, or is settled at once from the reply its item holds. A cancelled trial
gives its target the prior proof back and keeps the record; a completed one leaves PROVEN or FAILED with the record
written anew. TRIAL_DONE goes to the console, and a QUEUED trial, here on a drive, is activated: ACTIVE with its poll
timer (kept on the model's clock, log 7), or HELD with its reasons. TRIAL_TIME_EXPIRY of a trial that is not ACTIVE
does nothing: its time does not run (the model's choice, log 3). Here the trial has at most one entry, no other chute
trial is ACTIVE, and where it has windows no trial waits for window space. -/
def Obligations.TrialsEnd : Prop :=
  (∀ (s : State) (rtag id : Nat), s.Takes .console → rtag ≠ 0 →
    (id = 0 ∨ 255 < id →
      exec (.cancelTrial rtag id) s = .next (s.answered .console rtag (.cancelTrial id) .invalid [])) ∧
    (1 ≤ id → id ≤ 255 → s.work.trial id = none →
      exec (.cancelTrial rtag id) s = .next (s.answered .console rtag (.cancelTrial id) .notFound []))) ∧
  ∀ (s : State) (id : Nat) (t : Trial), s.Quiet → s.work.trial id = some t →
    (∀ u ∈ s.work.plan, u.id ≠ id → u.kind = .chute → u.state ≠ .active) →
    ((∀ y ∈ s.work.windows, y.trial ≠ id) ∨ ∀ u ∈ s.work.plan, u.reasons.noSpace = false) →
    (∀ y ∈ s.work.windows, ∀ z ∈ s.work.windows, y.trial = id → z.trial ≠ id → y.order ≠ z.order) →
    let tr := s.loop.tracker
    let gone (e : Entry) (cs : List Carrier) : Work :=
      { s.work with
        fires := s.work.fires.filter fun z => decide (z.seq ≠ e.seq)
        ringA := s.work.ringA.withdraw fun j => decide (j ≠ .fire e.seq)
        ringB := s.work.ringB.withdraw fun j => decide (j ≠ .fire e.seq)
        carriers := cs.modify e.carrier fun c => { c with load :=
          match c.load with | .loaded owner ref _ => .loaded owner ref none | x => x } }
    let table (x : ItemReply) : LoadState :=
      match x with
      | .doneGone => .empty
      | .doneKept => .fault .beltFault
      | .fault => .fault .beltFault
      | .timeout => .fault .noReply
      | .ringRestart => .fault .noReply
    let ended (w : Work) : Prop :=
      ((∀ e ∈ s.work.fires, e.trial = some id → e.orphan = true) ∧ w = s.work) ∨
      ∃ e ∈ s.work.fires, e.trial = some id ∧ e.orphan = false ∧
        (∀ z ∈ s.work.fires, z.trial = some id → z.orphan = false → z = e) ∧
        ((e.state = .waiting ∧ w = gone e s.work.carriers) ∨
         (e.state = .sent ∧ (∀ i ∈ t.items, i.carrier = e.carrier → i.reply = none) ∧
          w = { s.work with fires := s.work.fires.map fun z => if z.seq = e.seq then { e with orphan := true } else z }) ∨
         ∃ i x, e.state = .sent ∧ e.origin = .chuteItem ∧ t.items.find? (fun j => j.carrier == e.carrier) = some i ∧
           i.reply = some x ∧ w = gone e (s.work.carriers.modify e.carrier fun c =>
             match c.load with | .loaded .console _ _ => { c with load := table x } | _ => c))
    let without (w : Work) : Work :=
      { w with
        plan := w.plan.filter fun u => decide (u.id ≠ id)
        windows := w.windows.filter fun y => decide (y.trial ≠ id)
        polls := w.polls.filter fun y => decide (y.trial ≠ id)
        ringA := w.ringA.withdraw (keepsQueries t.order)
        ringB := w.ringB.withdraw (keepsQueries t.order) }
    let activates (w w' : Work) : Prop :=
      ((∀ u ∈ s.work.plan, u.id ≠ id → u.state ≠ .queued) ∧ w' = w) ∨
      ∃ v q, v.state = .queued ∧ v.id ≠ id ∧ v.kind = .zoneDrive ∧ s.work.trial v.id = some v ∧
        (∀ u ∈ s.work.plan, u.id ≠ id → u.state = .queued → u = v) ∧ w.running < 16 ∧
        s.work.point v.target = some q ∧
        let why : HoldReasons := ⟨false, !tr.steady, s.loop.fences.getLsbD q.config.zone, false⟩
        let begun (u : Trial) : List Trial := w.plan.map fun z => if z.id = v.id then u else z
        (why ≠ .clear ∧ w' = { w with plan := begun { v with state := .held, reasons := why } }) ∨
        (why = .clear ∧ w' = { w with plan := begun { v with state := .active, reasons := .clear }
                                      polls := w.polls ++ [⟨v.id, s.loop.clock + 100⟩] })
    let done (u : Trial) (x : TrialResult) (why : Option FailReason) : Notice :=
      .trialDone id t.kind t.target x why u.stats.count u.fails u.stats.mean u.stats.spread tr.revolution
        (match t.kind with | .chute => some t.outcomes | _ => none)
    let record (u : Trial) (x : TrialResult) (why : Option FailReason) : ProofRecord :=
      ⟨t.kind, x, why, u.stats.count, u.fails, u.stats.mean, u.stats.spread, tr.revolution⟩
    let cancels (w : Work) : Prop := ∀ w' rtag, activates (without w) w' → s.Takes .console → rtag ≠ 0 → 1 ≤ id →
      id ≤ 255 → exec (.cancelTrial rtag id) s = .next
        (({ s with work := w' }.answered .console rtag (.cancelTrial id) .ok []).notified .console
          [done t .cancelled none])
    let expires (w : Work) : Prop := ∀ w', activates (without w) w' → t.state = .active →
      exec (.trialTimeExpiry id) s =
        .next ({ s with work := w' }.notified .console [done t .failed (some .timeLimit)])
    (t.state ≠ .active → exec (.trialTimeExpiry id) s = .next s) ∧
    (∀ w p, ended w → t.kind ≠ .belt → s.work.point t.target = some p →
      cancels (w.setPoint { p with proof := p.prior.getD .unproven, prior := none }) ∧
      expires (w.setPoint
        { p with proof := .failed, prior := none, record := some (record t .failed (some .timeLimit)) })) ∧
    (∀ w c, ended w → t.kind = .belt → w.carriers[t.target]? = some c →
      let carries (c' : Carrier) : Work := { w with carriers := w.carriers.set t.target c' }
      cancels (carries { c with proof := c.prior.getD .unproven, prior := none }) ∧
      expires (carries
        { c with proof := .failed, prior := none
                 belt := some ⟨t.belt.achieved, t.stats.count, t.fails, t.stats.mean, t.stats.spread⟩ })) ∧
    ∀ (br : Branch) (f : ReplyFields) (x : Node) (y : Txn) (p : Point) (b : Nat) (w' : Work),
      let r := s.work.ring br
      1 ≤ f.node → f.node ≤ 126 → 1 ≤ f.status → f.status ≤ 4 → r.state ≠ .down → r.node f.node = some x →
      x.state ≠ .silent → r.table.find? (fun z => z.tag == f.tag && z.node == f.node) = some y →
      y.job = .speedQuery id t.order → t.state = .active → t.kind = .zoneDrive → t.band = some b →
      s.work.point t.target = some p → (∀ e ∈ s.work.fires, e.trial ≠ some id) →
      (∀ z ∈ s.work.windows, z.trial ≠ id) →
      let heard : Ring :=
        { r.setNode f.node { x with timeouts := 0 } with table := r.table.filter fun z => decide (z.tag ≠ f.tag) }
      let d : Int := (f.value : Int) - tr.v
      let ends (u : Trial) (proof : Proof) (result : TrialResult) (why : Option FailReason) : Prop :=
        activates (without ((s.work.setRing br heard).setPoint
          { p with proof := proof, prior := none, record := some (record u result why) })) w' →
        exec (.replyFrame br f) s = .next ({ s with work := w' }.notified .console [done u result why])
      (f.status = 1 → d.natAbs ≤ b → t.need ≤ t.streak + 1 →
        ends { t with stats := t.stats.add d } .proven .passed none) ∧
      ((f.status = 1 ∧ b < d.natAbs) ∨ f.status = 3 ∨ f.status = 4 ∨ (f.status = 2 ∧ 4 ≤ y.attempts) →
        t.limit ≤ t.fails + 1 → ends { t with fails := t.fails + 1 } .failed .failed (some .failLimit))

/-- POLL_TIMER_EXPIRY of a zone-drive trial (R138): the timer runs on; without a query of the trial waiting or
outstanding its SPEED query joins the DRIVE requester's queue towards the drive's route, or fails at once (R157). The
end of a query (R139): DONE within the band of v is a hit with its d, DONE out of band a fail; FAULT, REFUSED, a
fourth BUSY and a TIMEOUT are failed queries and fails; a BUSY before returns the query, marked to yield. A result for
a trial that is HELD or gone is discarded. The timer and the deadline are kept on the model's clock (log 7); a query
returned to a HELD trial is withdrawn (the model's reading, log 13). A reply of a SILENT node first makes it ONLINE,
with NODE_STATE(HEARD) to both links (R147). -/
def Obligations.PollsAsk : Prop :=
  ∀ (s : State) (id : Nat) (t : Trial) (b : Nat), s.Quiet → s.work.trial id = some t → t.band = some b →
    let miss (w : Work) : Work := w.setTrial
      { t with drive := { t.drive with failed := t.drive.failed + 1 }, fails := t.fails + 1, streak := 0 }
    (∀ (p : Point) (a : Route) (y : Poll), y ∈ s.work.polls → y.trial = id → s.work.point t.target = some p →
      p.route = some a →
      let r := s.work.ring a.branch
      let w : Work :=
        { s.work with polls := s.work.polls.map fun u => if u.trial = id then { u with due := s.loop.clock + 100 } else u }
      let asked : Prop := (∃ q ∈ s.work.ringA.waiting ++ s.work.ringB.waiting, ∃ n, q.job = .speedQuery n t.order) ∨
        ∃ q ∈ s.work.ringA.table ++ s.work.ringB.table, ∃ n, q.job = .speedQuery n t.order
      (asked → exec (.pollTimerExpiry id) s = .next { s with work := w }) ∧
      (¬asked → r.state = .running → r.nodeState a.node ≠ .silent → r.downlink ≠ none →
        exec (.pollTimerExpiry id) s = .next { s with
          work := w.setRing a.branch
            { r with driveq := r.driveq ++ [⟨.speedQuery id t.order, a.node, a.channel, 0, false⟩] } }) ∧
      (¬asked → r.state ≠ .running ∨ r.nodeState a.node = .silent → t.state = .active → t.fails + 1 < t.limit →
        exec (.pollTimerExpiry id) s = .next { s with work := miss w })) ∧
    ∀ (br : Branch) (tag node status value : Nat) (loadGone : Bool) (x : Node) (y : Txn),
      let r := s.work.ring br
      let f : ReplyFields := ⟨tag, node, status, value, loadGone⟩
      1 ≤ node → node ≤ 126 → 1 ≤ status → status ≤ 4 → r.state ≠ .down → r.node node = some x →
      r.table.find? (fun z => z.tag == tag) = some y → y.node = node →
      let ended : Ring := { r with table := r.table.filter fun z => decide (z.tag ≠ tag) }
      let heard (w : Work) : Work := w.setRing br (ended.setNode node x.heard)
      let answers (w : Work) : Prop := exec (.replyFrame br f) s =
        .next ({ s with work := w }.notifiedBoth (heardNotices br node x))
      let late (w : Work) : Work := w.setRing br (ended.setNode node { x with timeouts := x.timeouts + 1 })
      let replies (w : Work) : Prop := answers (heard w)
      let final : Prop := status ≠ 2 ∨ 4 ≤ y.attempts
      let back : Work := s.work.setRing br
        { ended.setNode node x.heard with
          driveq := r.driveq ++ [⟨y.job, y.node, y.channel, y.attempts, true⟩] }
      (y.job = .speedQuery id t.order →
        (t.state ≠ .active → final → replies s.work) ∧
        (t.state = .active →
          let d : Int := (value : Int) - s.loop.tracker.v
          (status = 1 → d.natAbs ≤ b → t.streak + 1 < t.need → replies (s.work.setTrial
            { t with drive := { t.drive with inBand := t.drive.inBand + 1, last := some (value, d) }
                     streak := t.streak + 1, stats := t.stats.add d })) ∧
          (status = 1 → b < d.natAbs → t.fails + 1 < t.limit → replies (s.work.setTrial
            { t with drive := { t.drive with outBand := t.drive.outBand + 1, last := some (value, d) }
                     fails := t.fails + 1, streak := 0 })) ∧
          (status ≠ 1 → final → t.fails + 1 < t.limit → replies (miss s.work)) ∧
          (x.timeouts < 2 → t.fails + 1 < t.limit →
            exec (.replyDeadlineExpiry br tag) s = .next { s with work := late (miss s.work) })) ∧
        (status = 2 → y.attempts < 4 → r.downlink ≠ none →
          (t.state = .active → answers back) ∧
          (t.state ≠ .active → answers
            { back with ringA := back.ringA.withdraw (keepsQueries t.order)
                        ringB := back.ringB.withdraw (keepsQueries t.order) }))) ∧
      (∀ n o, y.job = .speedQuery n o → (∀ u ∈ s.work.plan, u.id = n → u.order ≠ o) → final → replies s.work)

/-! ## Drives -/

/-- SET_LOOP_SPEED (R132, R133, R135, R137): NO_GEOMETRY without a geometry; else the setpoint copy takes the speed
held at Vmax, and the answer carries it with the number of drives. Over no drive the distribution ends at once; over
one drive its SET_SPEED joins the DRIVE requester's queue; on the value already in flight nothing else changes, and
the number is that of the rows (the model's reading, log 29). Another value supersedes: a command on the field stays;
a waiting request is withdrawn, and it, an ACKED and a FAILED row are commanded again, WITHHELD in a fenced zone and
FAILED without a route or a node that can be asked; the other rows, here WITHHELD or with a command on the field,
stay. The end of a SET_SPEED (R134): on the distribution's value DONE makes its row ACKED, any other final end FAILED;
on an older value, or with the drive to be commanded again (the model's mark, log 12), the row is commanded with the
value; a BUSY before returns the request. SPEED_SET ends the distribution. A reply of a SILENT node makes it ONLINE,
with NODE_STATE(HEARD) to both links (R147). -/
def Obligations.LoopSpeedIsSet : Prop :=
  (∀ (s : State) (rtag speed : Nat), s.Takes .line → rtag ≠ 0 → s.loop.tracker.geometry = none →
    exec (.setLoopSpeed rtag speed) s = .next (s.answered .line rtag (.setLoopSpeed speed) .noGeometry [])) ∧
  (∀ (s : State) (rtag speed : Nat) (g : Geometry), s.Takes .line → rtag ≠ 0 → s.loop.tracker.geometry = some g →
    let v := min speed g.vmax
    let fenced (p : Point) : Bool := s.loop.fences.getLsbD p.config.zone
    let drives : List Point := s.work.points.filter fun p => decide (p.kind = .zoneDrive) && !fenced p
    let now (w : Work) : State :=
      { s with loop := { s.loop with tracker := { s.loop.tracker with setpoint := v } }, work := w }
    let answer (w : Work) (n : Nat) : State :=
      (now w).answered .line rtag (.setLoopSpeed speed) .accepted [.u16 v, .u16 n]
    let orders (p : Point) (a : Route) (w : Work) : Work :=
      let r := w.ring a.branch
      w.setRing a.branch { r with driveq := r.driveq ++ [⟨.setSpeed p.tag v, a.node, a.channel, 0, false⟩] }
    let heeds (a : Route) : Prop := (s.work.ring a.branch).state = .running ∧
      (s.work.ring a.branch).nodeState a.node ≠ .silent
    (∀ d, s.work.dist = some d → d.value = v →
      exec (.setLoopSpeed rtag speed) s = .next (answer s.work d.rows.length)) ∧
    (s.work.dist = none → drives = [] →
      exec (.setLoopSpeed rtag speed) s = .next ((answer s.work 0).notified .line [.speedSet v .request 0 0])) ∧
    (∀ p a, s.work.dist = none → drives = [p] → s.work.point p.tag = some p → p.route = some a → heeds a →
      (s.work.ring a.branch).downlink ≠ none →
      exec (.setLoopSpeed rtag speed) s = .next
        (answer (orders p a { s.work with dist := some ⟨v, .request, [⟨p.tag, .sent v false⟩]⟩ }) 1)) ∧
    (∃ t n, exec (.setLoopSpeed rtag speed) s = .next t ∧ t.loop = (now s.work).loop ∧
      t.line.answers = s.line.answers ++ [some ⟨rtag, 11, .accepted, [.u16 v, .u16 n]⟩]) ∧
    ∀ (d : Distribution) (p : Point) (x : RowState) (rest : List Row), s.work.dist = some d → d.value ≠ v →
      d.rows = ⟨p.tag, x⟩ :: rest → (∀ y ∈ rest, y.tag ≠ p.tag) →
      (∀ y ∈ rest, y.state = .withheld ∨ ∃ u m, y.state = .sent u m) →
      s.work.point p.tag = some p →
      (∀ q ∈ s.work.ringA.waiting ++ s.work.ringB.waiting, ∀ n u, q.job = .setSpeed n u → n = p.tag) →
      let waits : Prop := ∃ q ∈ s.work.ringA.waiting ++ s.work.ringB.waiting, ∃ u, q.job = .setSpeed p.tag u
      let left (o : Option RowState) : Work :=
        { s.work with
          dist := o.map fun y => ⟨v, .request, ⟨p.tag, y⟩ :: rest⟩
          ringA := s.work.ringA.withdraw (keepsSpeeds p.tag)
          ringB := s.work.ringB.withdraw (keepsSpeeds p.tag) }
      let again : Prop := (∃ u, x = .acked u) ∨ (∃ u, x = .failed u) ∨ ∃ u m, x = .sent u m ∧ waits
      (∀ u m, x = .sent u m → ¬waits →
        exec (.setLoopSpeed rtag speed) s = .next
          (answer { s.work with dist := some ⟨v, .request, d.rows⟩ } (rest.length + 1))) ∧
      (∀ a, again → fenced p = false → p.route = some a → heeds a → (s.work.ring a.branch).downlink ≠ none →
        exec (.setLoopSpeed rtag speed) s = .next
          (answer (orders p a (left (some (.sent v false)))) (rest.length + 1))) ∧
      let becomes (z : RowState) (failed : Nat) : Prop :=
        ((∃ y ∈ rest, y.state ≠ .withheld) →
          exec (.setLoopSpeed rtag speed) s = .next (answer (left (some z)) (rest.length + 1))) ∧
        ((∀ y ∈ rest, y.state = .withheld) →
          exec (.setLoopSpeed rtag speed) s = .next
            ((answer (left none) (rest.length + 1)).notified .line [.speedSet v .request 0 failed]))
      (again → fenced p = false → (∀ a, p.route = some a → ¬heeds a) → becomes (.failed v) 1) ∧
      (again → fenced p = true → becomes .withheld 0)) ∧
  ∀ (s : State) (br : Branch) (tag node status value : Nat) (loadGone : Bool) (x : Node) (y : Txn) (n u : Nat),
    let r := s.work.ring br
    s.Quiet → 1 ≤ node → node ≤ 126 → 1 ≤ status → status ≤ 4 → r.state ≠ .down → r.node node = some x →
    r.table.find? (fun z => z.tag == tag) = some y → y.node = node → y.job = .setSpeed n u →
    let reply : Instr := .replyFrame br ⟨tag, node, status, value, loadGone⟩
    let ended : Ring := { r with table := r.table.filter fun z => decide (z.tag ≠ tag) }
    let heard : Ring := ended.setNode node x.heard
    let late : Ring := ended.setNode node { x with timeouts := x.timeouts + 1 }
    let final : Prop := status ≠ 2 ∨ 4 ≤ y.attempts
    let gives (w : Work) (ns : List Notice) : Prop := s.FrameGives reply br node x w ns []
    let expires (w : Work) (ns : List Notice) : Prop :=
      exec (.replyDeadlineExpiry br tag) s = .next ({ s with work := w }.notified .line ns)
    (s.work.dist = none → final → gives (s.work.setRing br heard) []) ∧
    ∀ (d : Distribution) (p : Point) (v : Nat) (m : Bool), s.work.dist = some d → p.tag = n →
      d.rows.find? (fun z => z.tag == n) = some ⟨n, .sent v m⟩ → s.work.point n = some p →
      let fenced : Bool := s.loop.fences.getLsbD p.config.zone
      let put (z : RowState) : List Row := d.rows.map fun w => if w.tag = n then { w with state := z } else w
      let becomes (does : Work → List Notice → Prop) (q : Ring) (z : RowState) : Prop :=
        let settled : Prop := ∀ w ∈ put z,
          w.state = .withheld ∨ w.state = .acked d.value ∨ w.state = .failed d.value
        let number (k : RowState) : Nat := ((put z).filter fun w => decide (w.state = k)).length
        (¬settled → does ({ s.work with dist := some { d with rows := put z } }.setRing br q) []) ∧
        (settled → does ({ s.work with dist := none }.setRing br q)
          [.speedSet d.value d.cause (number (.acked d.value)) (number (.failed d.value))])
      (v = d.value → m = false →
        (status = 1 → becomes gives heard (.acked v)) ∧
        (status ≠ 1 → final → becomes gives heard (.failed v)) ∧
        (x.timeouts < 2 → becomes expires late (.failed v))) ∧
      (v ≠ d.value ∨ m = true → final →
        (fenced = true → becomes gives heard .withheld) ∧
        (fenced = false → p.route = none → becomes gives heard (.failed d.value)) ∧
        (∀ a, fenced = false → p.route = some a →
          let w : Work := { s.work with dist := some { d with rows := put (.sent d.value false) } }.setRing br heard
          let q := w.ring a.branch
          q.state = .running → q.nodeState a.node ≠ .silent → q.downlink ≠ none →
          let joined : Ring := { q with driveq := q.driveq ++ [⟨.setSpeed n d.value, a.node, a.channel, 0, false⟩] }
          gives (w.setRing a.branch joined) [])) ∧
      (status = 2 → y.attempts < 4 → r.downlink ≠ none → fenced = false →
        let back : Ring := { heard with driveq := r.driveq ++ [⟨y.job, y.node, y.channel, y.attempts, true⟩] }
        gives (s.work.setRing br back) [])

/-! ## The field ring -/

/-- An enumeration begins with RESTART_BRANCH or as ring signal returns, on a branch without transactions (R144, R145,
R157, R158): the branch is ENUMERATING, its node table is cleared with the states kept aside, its statistics are 0,
ENUMERATE is on the downlink and BRANCH goes to both links. At the restart a waiting request that is the only one
fails with BRANCH_DOWN and is resolved by its requester (`State.RequestFails`): NODE_REPLY, a miss of a fire, a FAILED
row, a failed query. That a row to be commanded again fails or is WITHHELD so is the model's reading (log 12), and so
is that a jog miss counts in every state of its trial (log 24). A RESTART_BRANCH of a DOWN branch is answered OK with
that state, and of a value that names no branch INVALID. That BRANCH names 0 nodes ONLINE and the link node not
ONLINE, that ENUMERATE takes the downlink at once, and the clock, are the model's (logs 19, 18, 7). -/
def Obligations.EnumerationBegins : Prop :=
  (∀ (s : State) (rtag n : Nat), s.Takes .console → rtag ≠ 0 → n ≠ 1 → n ≠ 2 →
    exec (.restartBranch rtag n) s = .next (s.answered .console rtag (.restartBranch n) .invalid [])) ∧
  ∀ (br : Branch) (s : State) (rtag : Nat), rtag ≠ 0 →
    let r := s.work.ring br
    let begun : Ring :=
      { r with state := .enumerating, nodes := r.nodes.map fun _ => ⟨.absent, none, 0, false, 0⟩
               kept := some (r.kept.getD (r.nodes.map Node.state)), acks := [], fireq := [], driveq := []
               relayq := [], stats := ⟨0, 0, 0, 0, 0⟩
               downlink := some .enumerate, wire := DownFrame.enumerate.bytes
               announceEnd := s.loop.clock + 50 }
    let link : Option Bool :=
      s.loop.tracker.geometry.bind fun (g : Geometry) => if g.linkBranch = br then some false else none
    (s.Takes .console → r.state = .down →
      exec (.restartBranch rtag br.code) s = .next
        (s.answered .console rtag (.restartBranch br.code) .ok [.u8 1])) ∧
    (s.Takes .console → r.state ≠ .down → r.table = [] → r.waiting = [] →
      exec (.restartBranch rtag br.code) s = .next
        (({ s with work := s.work.setRing br begun }.answered .console rtag (.restartBranch br.code) .accepted
          []).notifiedBoth [.branch br .enumerating .restart 0 link])) ∧
    (∀ q, s.Takes .console → r.state ≠ .down → r.table = [] → r.waiting = [q] →
      s.RequestFails br q .branchDown fun f n => ∃ u, exec (.restartBranch rtag br.code) s = .next u ∧
        (State.answered { s with work := f (s.work.setRing br begun) } .console rtag (.restartBranch br.code) .accepted
          []).Posted u (.branch br .enumerating .restart 0 link :: n .line)
            (.branch br .enumerating .restart 0 link :: n .console)) ∧
    (s.Quiet → r.signal = false → r.table = [] → r.waiting = [] →
      exec (.ringSignalReturned br) s = .next
        ({ s with work := s.work.setRing br { begun with signal := true } }.notifiedBoth
          [.branch br .enumerating .signalReturned 0 link]))

/-- RING_SIGNAL_LOST (R143, R154, R157): the branch is DOWN, its ACK queue is emptied, a frame cut short counts as
bad, BRANCH goes to both links; the node table and the outstanding table stay. A waiting request that is the only one
fails with BRANCH_DOWN and is resolved by its requester (`State.RequestFails`): NODE_REPLY, a miss of a fire, a FAILED
row, a failed query. That a row to be commanded again fails or is WITHHELD so is the model's reading (log 12), and so
is that a jog miss counts in every state of its trial (log 24). -/
def Obligations.SignalLossTakesTheBranchDown : Prop :=
  ∀ (br : Branch) (s : State),
    let r := s.work.ring br
    let bad := if r.rx = [] then r.stats.bad else min (r.stats.bad + 1) 65535
    let down : Ring :=
      { r with state := .down, signal := false, acks := [], rx := [], hunting := false
               fireq := [], driveq := [], relayq := [], stats := { r.stats with bad := bad } }
    let change : Notice := .branch br .down .signalLost r.online
      (s.loop.tracker.geometry.bind fun (g : Geometry) =>
        if g.linkBranch = br then some (decide (r.nodeState g.linkNode = NodeState.online)) else none)
    s.Quiet → r.signal = true →
    (r.waiting = [] → exec (.ringSignalLost br) s = .next
      ({ s with work := s.work.setRing br down }.notifiedBoth [change])) ∧
    ∀ q, r.waiting = [q] →
      s.RequestFails br q .branchDown fun f n => ∃ u, exec (.ringSignalLost br) s = .next u ∧
        State.Posted { s with work := f (s.work.setRing br down) } u (change :: n .line) (change :: n .console)

/-- ANNOUNCE_PERIOD_END (R146): an ENUMERATING branch becomes RUNNING; BRANCH and then, in node order, NODE_STATE for
each node that did not announce itself or came back from SILENT go to both links. Otherwise nothing happens (log 3).
The ANNOUNCE_FRAME of a node (R143, R147) makes it ONLINE with the kind and channel count it announced, its expected
bit and timeout count 0; on a RUNNING branch it gives NODE_STATE to both links, after a NODE_STATE(HEARD) where the
node was SILENT. -/
def Obligations.NodesAnnounce : Prop :=
  ∀ (br : Branch) (s : State), s.Quiet →
    let r := s.work.ring br
    let news : List Notice :=
      (((r.kept.getD []).zip (r.nodes.map Node.state)).zipIdx 1).filterMap fun (x : (NodeState × NodeState) × Nat) =>
        match x.1.1, x.1.2 with
        | .online, .absent => some (.nodeState br x.2 .absent .notAnnounced)
        | .silent, .absent => some (.nodeState br x.2 .absent .notAnnounced)
        | .silent, .online => some (.nodeState br x.2 .online .announced)
        | _, _ => none
    (r.state = .enumerating → exec (.announcePeriodEnd br) s = .next
      ({ s with work := s.work.setRing br { r with state := .running, kept := none } }.notifiedBoth
        (.branch br .running .enumerated r.online
          (s.loop.tracker.geometry.bind fun (g : Geometry) =>
            if g.linkBranch = br then some (decide (r.nodeState g.linkNode = NodeState.online)) else none) :: news))) ∧
    (r.state ≠ .enumerating → exec (.announcePeriodEnd br) s = .next s) ∧
    (∀ (f : AnnounceFields) (kind : NodeKind) (x : Node), 1 ≤ f.node → f.node ≤ 126 → f.kind = kind.code →
      1 ≤ f.channels → f.channels ≤ 16 → r.node f.node = some x →
      let heard : State :=
        { s with work := s.work.setRing br (r.setNode f.node ⟨.online, some kind, f.channels, false, 0⟩) }
      (r.state = .enumerating → exec (.announceFrame br f) s =
        .next (heard.notifiedBoth (heardNotices br f.node x))) ∧
      (r.state = .running → exec (.announceFrame br f) s = .next
        (heard.notifiedBoth (heardNotices br f.node x ++ [.nodeState br f.node .online .announced]))))

/-- EVENT_FRAME by its node's sequence bit (R61, R96, R147, R155): deferred on an ENUMERATING branch (R145) or with 32
acknowledgements waiting, from an ABSENT node too (the model's choice, log 40), unmapped from an ABSENT node, a
duplicate acknowledged again and taken no further; an accepted event turns the node's bit and is acknowledged, and
without a point at its address counts as unmapped. In each of these cases the node's timeout count is 0, and a SILENT
node first becomes ONLINE, with NODE_STATE(HEARD) to both links (R147, R153). A DOWN branch hears nothing, and the
event leaves the state as it is (the model's reading, log 17). -/
def Obligations.EventsTakeTheirSequence : Prop :=
  ∀ (br : Branch) (s : State) (f : EventFields) (x : Node),
    let r := s.work.ring br
    s.Quiet → 1 ≤ f.node → f.node ≤ 126 → r.node f.node = some x →
    let heard : Ring := r.setNode f.node x.heard
    let bump (n : Nat) : Nat := min (n + 1) 65535
    let now (y : Ring) : State := { s with work := s.work.setRing br y }.notifiedBoth (heardNotices br f.node x)
    let queued : List Ack := r.acks ++ [⟨f.node, f.seq⟩]
    (r.state = .enumerating ∨ (r.state = .running ∧ 32 ≤ r.acks.length) →
      exec (.eventFrame br f) s = .next (now { heard with stats := { r.stats with deferred := bump r.stats.deferred } })) ∧
    (r.state = .running → r.acks.length < 32 → x.state = .absent →
      exec (.eventFrame br f) s = .next (now { heard with stats := { r.stats with unmapped := bump r.stats.unmapped } })) ∧
    (r.state = .running → r.acks.length < 32 → x.state ≠ .absent → r.downlink ≠ none → f.seq ≠ x.expected →
      exec (.eventFrame br f) s = .next
        (now { heard with acks := queued, stats := { r.stats with dup := bump r.stats.dup } })) ∧
    (r.state = .running → r.acks.length < 32 → x.state ≠ .absent → r.downlink ≠ none → f.seq = x.expected →
      (∀ p ∈ s.work.points, p.route = some ⟨br, f.node, f.channel⟩ → p.kind ≠ .sensor ∧ p.kind ≠ .induct) →
      exec (.eventFrame br f) s = .next
        (now { r.setNode f.node { x.heard with expected := !x.expected } with
               acks := queued, stats := { r.stats with unmapped := bump r.stats.unmapped } })) ∧
    (r.state = .down → exec (.eventFrame br f) s = .next s)

/-- REPLY_FRAME (R91, R94, R120, R126 to R128, R140, R141, R152, R156): a reply without a transaction counts as an
orphan. A relay's reply ends it with NODE_REPLY; its BUSY short of the fourth attempt returns it to the end of its
queue, marked to yield. A discharge: the table of R91, with a carrier in FAULT that keeps its fault and, in
FAULT(DOUBLE_LOAD), CANCELLED at REFUSED and BUSY; the third miss is RECIRCULATED. An entry whose trial has left: the
table of R120. A chute item holds its reply until its entry verdict is there and is then decided by the table of R127;
FAULT decides at once, REFUSED and BUSY return it, its window removed. A belt jog: the table of R141, and the jog
asked for anew; a jog miss counts in every state of the trial (the model's reading, log 24). A frame of a SILENT node
makes it ONLINE with its timeout count 0, and NODE_STATE(HEARD) goes to both links (R147, R153). Here no result
completes a trial, no other carrier can be claimed, and no trial waits for window space. -/
def Obligations.RepliesEndTransactions : Prop :=
  (∀ d : Int, (Verdict.hit d).hitDev = d ∧
    ∀ row ∈ ([(.doneGone, .hit d, .delivered, .empty), (.doneGone, .early d, .misplaced, .empty),
      (.doneGone, .late d, .misplaced, .empty), (.doneGone, .miss, .notSeen, .empty),
      (.doneGone, .cancelled, .unjudged, .empty), (.doneKept, .hit d, .sequenceError, .fault .sequence),
      (.doneKept, .early d, .sequenceError, .fault .sequence), (.doneKept, .late d, .sequenceError, .fault .sequence),
      (.doneKept, .miss, .beltFault, .fault .beltFault), (.doneKept, .cancelled, .unjudged, .fault .beltFault),
      (.fault, .hit d, .beltFault, .fault .beltFault), (.fault, .early d, .beltFault, .fault .beltFault),
      (.fault, .late d, .beltFault, .fault .beltFault), (.fault, .miss, .beltFault, .fault .beltFault),
      (.fault, .cancelled, .unjudged, .fault .beltFault)] ++
      [ItemReply.timeout, .ringRestart].flatMap fun how =>
        [(how, .hit d, .delivered, .empty), (how, .early d, .misplaced, .fault .noReply),
         (how, .late d, .misplaced, .fault .noReply), (how, .miss, .notSeen, .fault .noReply),
         (how, .cancelled, .unjudged, .fault .noReply)] : List (ItemReply × Verdict × ItemOutcome × LoadState)),
    outcomeTable row.1 row.2.1 = row.2.2) ∧
  ∀ (br : Branch) (s : State) (tag node status value : Nat) (loadGone : Bool) (x : Node),
    let r := s.work.ring br
    let reply : Instr := .replyFrame br ⟨tag, node, status, value, loadGone⟩
    s.Quiet → 1 ≤ node → node ≤ 126 → 1 ≤ status → status ≤ 4 → r.state ≠ .down → r.node node = some x →
    let heard : Ring := r.setNode node x.heard
    let gives (w : Work) (k : Link) (ns : List Notice) : Prop :=
      s.FrameGives reply br node x w (if k = .line then ns else []) (if k = .line then [] else ns)
    ((∀ z ∈ r.table, ¬(z.tag = tag ∧ z.node = node)) →
      let counted : Ring := { heard with stats := { r.stats with orphan := min (r.stats.orphan + 1) 65535 } }
      gives (s.work.setRing br counted) .line []) ∧
    ∀ y : Txn, r.table.find? (fun z => z.tag == tag && z.node == node) = some y →
      let ended : Ring := { heard with table := r.table.filter fun z => decide (z.tag ≠ tag) }
      let final : Prop := status = 2 ∧ 4 ≤ y.attempts
      let again : Prop := status = 2 ∧ y.attempts < 4 ∧ r.downlink ≠ none
      let request : Req := ⟨y.job, y.node, y.channel, y.attempts, true⟩
      (∀ k rtag ptag item route, y.job = .relay k rtag ptag item route →
        let ends (o : RelayOutcome) (v : Nat) : Prop :=
          gives (s.work.setRing br ended) k [.nodeReply rtag ptag item route o v]
        (status = 1 → ends .done value) ∧ (status = 3 → ends .refused value) ∧ (status = 4 → ends .fault value) ∧
        (final → ends .busy 0) ∧
        (again → gives (s.work.setRing br { ended with relayq := r.relayq ++ [request] }) .line [])) ∧
      ∀ e : Entry, y.job = .fire e.seq → s.work.entryAt e.seq = some e →
        let w := s.work.setRing br ended
        let back : Work := s.work.setRing br { ended with fireq := r.fireq ++ [request] }
        let does (w : Work) : Prop := gives w .line []
        let double : Prop := ∃ c, s.work.carriers[e.carrier]? = some c ∧ c.load = .fault .doubleLoad
        let missed : Entry := { e with misses := e.misses + 1, state := .waiting, requested := false }
        let asked : Entry := { e with state := .waiting, requested := true }
        (∀ c, e.orphan = false → e.chute = some c → (e.origin = .lineDischarge ∨ e.origin = .consoleDischarge) →
          (e.owner = .console ∨ s.work.ask c = none) →
          let leaves (how : DischargeOutcome) (misses : Nat) (f : LoadState → LoadState) : Prop :=
            gives (w.without e f) e.owner
              [.dischargeDone e.carrier c how e.ref misses s.loop.tracker.revolution]
          (status = 1 → loadGone = true → leaves .delivered e.misses (LoadState.unlessFaulted .empty)) ∧
          ((status = 1 ∧ loadGone = false) ∨ status = 4 →
            leaves .beltFault e.misses (LoadState.unlessFaulted (.fault .beltFault))) ∧
          (¬double → status = 3 ∨ final →
            (e.misses < 2 → does (w.setEntry missed)) ∧ (2 ≤ e.misses → leaves .recirculated (e.misses + 1) id)) ∧
          (¬double → again → does (back.setEntry asked)) ∧
          (double → status = 3 ∨ final ∨ again → leaves .cancelled e.misses id)) ∧
        (e.orphan = true →
          (e.origin = .chuteItem → status = 1 → loadGone = true → does (w.without e (LoadState.whereConsole .empty))) ∧
          (e.origin = .chuteItem → (status = 1 ∧ loadGone = false) ∨ status = 4 →
            does (w.without e (LoadState.whereConsole (.fault .beltFault)))) ∧
          (e.origin = .beltJog → status = 1 → does (w.without e id)) ∧
          (e.origin = .beltJog → status = 4 → does (w.without e LoadState.whereEmpty)) ∧
          (status = 3 ∨ final ∨ again → does (w.without e id))) ∧
        (∀ (t : Trial) (i : Item), e.orphan = false → e.origin = .chuteItem → e.trial = some t.id →
          s.work.trial t.id = some t → t.items.find? (fun j => j.carrier == e.carrier) = some i →
          s.work.entryOf e.carrier = some e → (∀ u ∈ s.work.plan, u.reasons.noSpace = false) →
          (∀ z ∈ s.work.windows, ∀ z' ∈ s.work.windows, z.trial = t.id → z.item = some i.index →
            z'.order = z.order ∨ (z'.trial = t.id ∧ z'.item = some i.index) → z' = z) →
          let takes (j : Item) : Trial := { t with items := t.items.map fun u => if u.index = i.index then j else u }
          let returned : Trial := takes { i with stage := .assigned, verdict := none, reply := none }
          let unwatched (w : Work) : Work :=
            { w with windows := w.windows.filter fun z => !(z.trial == t.id && z.item == some i.index) }
          let kept : ItemReply := if loadGone then .doneGone else .doneKept
          let decided (how : ItemReply) (v : Verdict) : Work :=
            (w.without e (LoadState.whereConsole (outcomeTable how v).2)).setTrial
              (t.ended i (outcomeTable how v).1 v.hitDev)
          (status = 1 → i.verdict = none → does (w.setTrial (takes { i with reply := some kept }))) ∧
          (t.GoesOn → s.work.NoClaimBut e → ∀ v, i.verdict = some v →
            (status = 1 → does (decided kept v)) ∧ (status = 4 → does (decided .fault v))) ∧
          (t.GoesOn → s.work.NoClaimBut e → i.verdict = none → status = 4 →
            does (unwatched ((w.without e (LoadState.whereConsole (.fault .beltFault))).setTrial
              (t.ended i .beltFault 0)))) ∧
          (¬double → status = 3 ∨ final →
            (e.misses < 2 → does (unwatched ((w.setEntry missed).setTrial returned))) ∧
            (2 ≤ e.misses → (∀ u ∈ s.work.plan, u.kind = .chute → u.state ≠ .active) →
              does (unwatched ((w.without e id).setTrial (t.ended i .fireMissed 0))))) ∧
          (¬double → again → does (unwatched ((back.setEntry asked).setTrial returned))) ∧
          (double → s.work.NoClaimBut e → status = 3 ∨ final ∨ again →
            does (unwatched ((w.without e id).setTrial (t.ended i .withdrawn 0))))) ∧
        (∀ (t : Trial) (g : Geometry) (b speed : Nat), e.orphan = false → e.origin = .beltJog → e.trial = some t.id →
          s.work.trial t.id = some t → t.target = e.carrier → s.loop.tracker.geometry = some g → t.band = some b →
          t.jogSpeed = some speed → t.GoesOn → s.work.fires.length ≤ 256 →
          (∀ z ∈ s.work.fires, z.carrier = e.carrier → z.seq = e.seq) →
          let v := s.loop.tracker.v
          let d : Int := (value : Int) - speed
          let heardOf (c : BeltCounts) : Trial :=
            if t.state = .active then { t with belt := { c with achieved := some value } }
            else { t with belt := { t.belt with achieved := some value } }
          (status = 1 → d.natAbs ≤ b → does ((w.without e id).jogsAnew g v
            ((heardOf { t.belt with inBand := t.belt.inBand + 1 }).hit d))) ∧
          (status = 1 → b < d.natAbs → does ((w.without e id).jogsAnew g v
            (heardOf { t.belt with outBand := t.belt.outBand + 1 }).failed)) ∧
          (status = 4 → does ((w.without e LoadState.whereEmpty).jogsAnew g v
            (if t.state = .active then { t with belt := { t.belt with faults := t.belt.faults + 1 } } else t).failed)) ∧
          (status = 3 ∨ final →
            (e.misses < 2 → does (w.setEntry missed)) ∧
            (2 ≤ e.misses → does ((w.without e id).jogsAnew g v
              { t with belt := { t.belt with misses := t.belt.misses + 1 } }))) ∧
          (again → does (back.setEntry asked)))

/-- REPLY_DEADLINE_EXPIRY and RESTART_BRANCH under a transaction (R92, R120, R127, R141, R145, R153, R156, R157): it
ends with TIMEOUT or RING_RESTART. A relay gives NODE_REPLY; a discharge leaves its carrier in FAULT(NO_REPLY), unless
it is in FAULT already, with DISCHARGE_DONE(NO_REPLY) to its owner; a chute item holds the failure until its entry
verdict, or is decided with it; a jog is a fail and is asked for anew; an entry whose trial has left is settled alone.
At the deadline the node's timeout count rises; at the third the node is SILENT, with NODE_STATE to both links, and
the relays waiting for it fail with NODE_SILENT. The restart goes on as an enumeration (the model's readings of it are
logs 7, 18 and 19). Here no result completes a trial, and no other carrier can be claimed. -/
def Obligations.DeadlinesExpire : Prop :=
  ∀ (br : Branch) (s : State) (tag : Nat) (x : Node) (y : Txn),
    let r := s.work.ring br
    s.Quiet →
    ((∀ z ∈ r.table, z.tag ≠ tag) → exec (.replyDeadlineExpiry br tag) s = .next s) ∧
    (r.table.find? (fun z => z.tag == tag) = some y → r.node y.node = some x →
      let ended : Ring := { r with table := r.table.filter fun z => decide (z.tag ≠ tag) }
      let late : Ring := ended.setNode y.node { x with timeouts := x.timeouts + 1 }
      let begun : Ring :=
        { r with state := .enumerating, nodes := r.nodes.map fun _ => ⟨.absent, none, 0, false, 0⟩, table := []
                 kept := some (r.kept.getD (r.nodes.map Node.state)), acks := [], stats := ⟨0, 0, 0, 0, 0⟩
                 downlink := some .enumerate, wire := DownFrame.enumerate.bytes
                 announceEnd := s.loop.clock + 50 }
      let link : Option Bool :=
        s.loop.tracker.geometry.bind fun (g : Geometry) => if g.linkBranch = br then some false else none
      let start : Notice := .branch br .enumerating .restart 0 link
      let only (k j : Link) (n : Notice) : List Notice := if k = j then [n] else []
      let deadline (f : Work → Work) (n : Link → List Notice) : Prop :=
        ∃ u, exec (.replyDeadlineExpiry br tag) s = .next u ∧
          State.Posted { s with work := f (s.work.setRing br late) } u (n .line) (n .console)
      let restart (f : Work → Work) (n : Link → List Notice) : Prop :=
        ∀ rtag, rtag ≠ 0 → s.Takes .console → ∃ u, exec (.restartBranch rtag br.code) s = .next u ∧
          (State.answered { s with work := f (s.work.setRing br begun) } .console rtag (.restartBranch br.code)
            .accepted []).Posted u (start :: n .line) (start :: n .console)
      let fails (how : ItemReply) (outcome : RelayOutcome) (ends : (Work → Work) → (Link → List Notice) → Prop) : Prop :=
        (∀ k rtag ptag item route, y.job = .relay k rtag ptag item route →
          ends id fun j => only k j (.nodeReply rtag ptag item route outcome 0)) ∧
        ∀ e : Entry, y.job = .fire e.seq → s.work.entryAt e.seq = some e →
          (∀ c, e.orphan = false → e.chute = some c → (e.origin = .lineDischarge ∨ e.origin = .consoleDischarge) →
            (e.owner = .console ∨ s.work.ask c = none) →
            ends (fun w => w.without e (LoadState.unlessFaulted (.fault .noReply))) fun j => only e.owner j
              (.dischargeDone e.carrier c .noReply e.ref e.misses s.loop.tracker.revolution)) ∧
          (e.orphan = true →
            (e.origin = .chuteItem →
              ends (fun w => w.without e (LoadState.whereConsole (.fault .noReply))) fun _ => []) ∧
            (e.origin = .beltJog → ends (fun w => w.without e id) fun _ => [])) ∧
          (∀ (t : Trial) (i : Item), e.orphan = false → e.origin = .chuteItem → e.trial = some t.id →
            s.work.trial t.id = some t → t.items.find? (fun j => j.carrier == e.carrier) = some i →
            s.work.entryOf e.carrier = some e →
            (i.verdict = none →
              let holds : Trial :=
                { t with items := t.items.map fun u => if u.index = i.index then { i with reply := some how } else u }
              ends (fun w => w.setTrial holds) fun _ => []) ∧
            (t.GoesOn → s.work.NoClaimBut e → ∀ v, i.verdict = some v →
              ends (fun w => (w.without e (LoadState.whereConsole (outcomeTable how v).2)).setTrial
                (t.ended i (outcomeTable how v).1 v.hitDev)) fun _ => [])) ∧
          (∀ (t : Trial) (g : Geometry), e.orphan = false → e.origin = .beltJog → e.trial = some t.id →
            s.work.trial t.id = some t → t.target = e.carrier → s.loop.tracker.geometry = some g → t.GoesOn →
            s.work.fires.length ≤ 256 → (∀ z ∈ s.work.fires, z.carrier = e.carrier → z.seq = e.seq) →
            let counted : Trial :=
              if t.state = .active then { t with belt := { t.belt with noReply := t.belt.noReply + 1 } } else t
            ends (fun w => (w.without e id).jogsAnew g s.loop.tracker.v counted.failed) fun _ => [])
      (x.timeouts < 2 → fails .timeout .timeout deadline) ∧
      (r.state ≠ .down → r.table = [y] → r.waiting = [] → fails .ringRestart .ringRestart restart) ∧
      (∀ k rtag ptag item route, y.job = .relay k rtag ptag item route → 2 ≤ x.timeouts → x.state ≠ .silent →
        (∀ q ∈ r.fireq ++ r.driveq, q.node ≠ y.node) →
        let silent : Ring :=
          { ended.setNode y.node { x with state := .silent, timeouts := 3 } with
            relayq := r.relayq.filter fun q => decide (q.node ≠ y.node) }
        let change : Notice := .nodeState br y.node .silent .timeouts
        let others (j : Link) : List Notice := r.relayq.filterMap fun q =>
          match q.job with
          | .relay m rt pt it ro =>
            if m = j ∧ q.node = y.node then some (.nodeReply rt pt it ro .nodeSilent 0) else none
          | _ => none
        (∀ q ∈ r.relayq, ∃ m rt pt it ro, q.job = .relay m rt pt it ro) →
        let told (j : Link) : List Notice :=
          only k j (.nodeReply rtag ptag item route .timeout 0) ++ change :: others j
        ∃ u, exec (.replyDeadlineExpiry br tag) s = .next u ∧
          State.Posted { s with work := s.work.setRing br silent } u (told .line) (told .console)))

/-- DOWNLINK_FRAME_END (R148 to R151): the downlink is free; a branch that is not RUNNING grants nothing. A waiting
acknowledgement goes first, then the oldest DRIVE request, then the oldest RELAY request that can be granted; FIRE
goes before both. A request can be granted with a tag free and its node below its limit: the carrier link node below 8
transactions, of which fewer than 2 no fires, any other node below 2. It goes under the lowest free tag with a
deadline 10 ms on by the model's clock (log 7); a SPEED query counts as sent (R139) at this grant (log 24). A chosen
request that is marked to yield leaves the grant to the next that can be granted, and loses its mark. -/
def Obligations.FrameEndGrants : Prop :=
  ∀ (br : Branch) (s : State) (f0 : DownFrame),
    let r := s.work.ring br
    let now (y : Ring) : Outcome := .next { s with work := s.work.setRing br y }
    s.Quiet → r.downlink = some f0 →
    (r.state ≠ .running → exec (.downlinkFrameEnd br) s = now { r with downlink := none }) ∧
    (∀ a rest, r.state = .running → r.acks = a :: rest →
      let frame : DownFrame := .ack a.node a.bit
      exec (.downlinkFrameEnd br) s = now { r with acks := rest, downlink := some frame, wire := frame.bytes }) ∧
    (r.state = .running → r.acks = [] →
      let sentTo (n : Nat) : Nat := (r.table.filter fun y => decide (y.node = n)).length
      let fires (j : Job) : Prop := ∃ n, j = .fire n
      let others (n : Nat) : Nat := (r.table.filter fun y =>
        decide (y.node = n) && (match y.job with | .fire _ => false | _ => true)).length
      let linked (n : Nat) : Prop := ∃ g, s.loop.tracker.geometry = some g ∧ g.linkBranch = br ∧ g.linkNode = n
      let can (q : Req) : Prop := (∃ tag < 16, ∀ y ∈ r.table, y.tag ≠ tag) ∧
        (linked q.node → sentTo q.node < 8 ∧ (fires q.job ∨ others q.node < 2)) ∧ (¬linked q.node → sentTo q.node < 2)
      ((∀ q ∈ r.waiting, ¬can q) → exec (.downlinkFrameEnd br) s = now { r with downlink := none }) ∧
      ∀ tag, tag < 16 → (∀ y ∈ r.table, y.tag ≠ tag) → (∀ m < tag, ∃ y ∈ r.table, y.tag = m) →
        let sends (left : Ring) (q : Req) : Prop :=
          let goes (w : Work) (kind : FrameKind) (frame : DownFrame) : Outcome := .next { s with
            work := w.setRing br { left with
              downlink := some frame, wire := frame.bytes
              table := r.table ++ [⟨tag, q.job, q.node, q.channel, kind, q.attempts + 1, s.loop.clock + 10⟩] } }
          (∀ n v, q.job = .setSpeed n v → exec (.downlinkFrameEnd br) s =
            goes s.work .command (.command tag q.node q.channel (.setSpeed v))) ∧
          (∀ t, q.job = .speedQuery t.id t.order → s.work.trial t.id = some t → exec (.downlinkFrameEnd br) s =
            goes (s.work.setTrial { t with drive := { t.drive with sent := t.drive.sent + 1 } }) .query
              (.query tag q.node q.channel .speed)) ∧
          (∀ k rtag ptag item route, q.job = .relay k rtag ptag item route → exec (.downlinkFrameEnd br) s =
            goes s.work .query (.query tag q.node q.channel item))
        let unmarked (q : Req) : Req := { q with yield := false }
        ∀ (a b c d : List Req) (q q' : Req), (∀ z ∈ a, ¬can z) → can q →
          (r.driveq = a ++ q :: b → (∀ z ∈ r.fireq, ¬can z) →
            (q.yield = false → sends { r with driveq := a ++ b } q) ∧
            (q.yield = true → (∀ z ∈ b ++ r.relayq, ¬can z) → sends { r with driveq := a ++ b } (unmarked q)) ∧
            (q.yield = true → b = c ++ q' :: d → (∀ z ∈ c, ¬can z) → can q' →
              sends { r with driveq := a ++ unmarked q :: c ++ d } q') ∧
            (q.yield = true → (∀ z ∈ b, ¬can z) → r.relayq = c ++ q' :: d → (∀ z ∈ c, ¬can z) → can q' →
              sends { r with driveq := a ++ unmarked q :: b, relayq := c ++ d } q')) ∧
          (r.relayq = a ++ q :: b → (∀ z ∈ r.fireq ++ r.driveq, ¬can z) →
            (q.yield = false → sends { r with relayq := a ++ b } q) ∧
            (q.yield = true → (∀ z ∈ b, ¬can z) → sends { r with relayq := a ++ b } (unmarked q)) ∧
            (q.yield = true → b = c ++ q' :: d → (∀ z ∈ c, ¬can z) → can q' →
              sends { r with relayq := a ++ unmarked q :: c ++ d } q')) ∧
          (r.fireq = a ++ q :: b → q.yield = true → (∀ z ∈ b, ¬can z) →
            (r.driveq = c ++ q' :: d → (∀ z ∈ c, ¬can z) → can q' →
              sends { r with fireq := a ++ unmarked q :: b, driveq := c ++ d } q') ∧
            ((∀ z ∈ r.driveq, ¬can z) → r.relayq = c ++ q' :: d → (∀ z ∈ c, ¬can z) → can q' →
              sends { r with fireq := a ++ unmarked q :: b, relayq := c ++ d } q')))

/-- UPLINK_BAD_FRAME (R143): a frame of a known kind whose CRC-16 does not match, and an EVENT, REPLY or ANNOUNCE whose
fields are out of range, count as bad frames and do nothing else; after an unknown kind the bytes up to the next 165 are
discarded. A branch without ring signal hears nothing (log 17). -/
def Obligations.BadFramesAreCounted : Prop :=
  ∀ (br : Branch) (s : State),
    let r := s.work.ring br
    let bad : Ring := { r with stats := { r.stats with bad := min (r.stats.bad + 1) 65535 } }
    s.Quiet → r.rx = [] → r.hunting = false →
    (r.state = .down → ∀ bs, exec (.uplinkBadFrame br bs) s = .next s) ∧
    (r.state ≠ .down →
      (∀ (kind : Byte) (body : List Byte) (c1 c0 : Byte), uplinkLength kind.toNat = some body.length →
        crc16 (kind :: body) ≠ numberOf [c1, c0] →
        exec (.uplinkBadFrame br (165#8 :: kind :: body ++ [c1, c0])) s =
          .next { s with work := s.work.setRing br bad }) ∧
      (∀ (kind : Byte) (rest : List Byte), kind.toNat ≠ 17 → kind.toNat ≠ 18 → kind.toNat ≠ 19 → 165#8 ∉ rest →
        exec (.uplinkBadFrame br (165#8 :: kind :: rest)) s =
          .next { s with work := s.work.setRing br { bad with hunting := true } }) ∧
      (∀ f : EventFields, f.node = 0 ∨ 126 < f.node →
        exec (.eventFrame br f) s = .next { s with work := s.work.setRing br bad }) ∧
      (∀ f : ReplyFields, f.node = 0 ∨ 126 < f.node ∨ f.status = 0 ∨ 4 < f.status →
        exec (.replyFrame br f) s = .next { s with work := s.work.setRing br bad }) ∧
      (∀ f : AnnounceFields, f.node = 0 ∨ 126 < f.node ∨ f.kind = 0 ∨ 4 < f.kind ∨ f.channels = 0 ∨ 16 < f.channels →
        exec (.announceFrame br f) s = .next { s with work := s.work.setRing br bad }))

/-- NODE_QUERY (R62, R148, R156, R157): INVALID for another item, NOT_FOUND, UNROUTED with value 0, FULL with four
relays in flight; else the relay joins the RELAY requester's queue, or ends at once with NODE_REPLY, BRANCH_DOWN on a
branch that is not RUNNING (to a SILENT node of it too: the model's choice, log 39) and NODE_SILENT to a SILENT node.
-/
def Obligations.RelaysAreAsked : Prop :=
  (∀ (k : Link) (s : State) (rtag tag item : Nat), s.Takes k → rtag ≠ 0 → item ≠ 1 → item ≠ 2 →
    exec (.nodeQuery k rtag tag item) s = .next (s.answered k rtag (.nodeQuery tag item) .invalid [])) ∧
  ∀ (k : Link) (s : State) (rtag tag : Nat) (item : QueryItem), s.Takes k → rtag ≠ 0 →
    let q : Request := .nodeQuery tag item.code
    let flying := s.work.ringA.relays k + s.work.ringB.relays k
    (s.work.point tag = none →
      exec (.nodeQuery k rtag tag item.code) s = .next (s.answered k rtag q .notFound [])) ∧
    (∀ p, s.work.point tag = some p → p.route = none →
      exec (.nodeQuery k rtag tag item.code) s = .next (s.answered k rtag q .unrouted [.u16 0])) ∧
    (∀ p a, s.work.point tag = some p → p.route = some a → 4 ≤ flying →
      exec (.nodeQuery k rtag tag item.code) s = .next (s.answered k rtag q .full [])) ∧
    (∀ p a, s.work.point tag = some p → p.route = some a → flying < 4 →
      let r := s.work.ring a.branch
      let job : Job := .relay k rtag tag item a
      (r.state = .running → r.nodeState a.node ≠ .silent → r.downlink ≠ none →
        let joined : Ring := { r with relayq := r.relayq ++ [⟨job, a.node, a.channel, 0, false⟩] }
        exec (.nodeQuery k rtag tag item.code) s = .next
          ({ s with work := s.work.setRing a.branch joined }.answered k rtag q .accepted [])) ∧
      (r.state ≠ .running →
        exec (.nodeQuery k rtag tag item.code) s = .next
          ((s.answered k rtag q .accepted []).notified k [.nodeReply rtag tag item a .branchDown 0])) ∧
      (r.state = .running → r.nodeState a.node = .silent →
        exec (.nodeQuery k rtag tag item.code) s = .next
          ((s.answered k rtag q .accepted []).notified k [.nodeReply rtag tag item a .nodeSilent 0])))

/-! ## Capture channels -/

/-- CAPTURE_SET, CAPTURE_STOP, CAPTURE_OFF and CAPTURE_READ (R160, R162, R163, R164), each refusal in its order: a
channel that passes the checks takes its fields and is in ACCEPT without records; its owner stops it in HOLD(STOPPED),
the FILLING half of a double buffer HANDED or, empty, FREE; either link turns it OFF; the owner reads the records of a
single buffer that no longer fills, and of the HANDED halves of a double buffer, oldest first, and a half read empty
is FREE. The layout of a record is the model's reading of 12.6 (log 20), and so is that a double byte other than 0 and 1
is INVALID, before NOT_FOUND (log 23). An accepted EVENT, here of the edge that its
point does not look for, is stored in the channel in ACCEPT on that point, until its target (DONE), its capacity
(FULL) or a half is reached, which is HANDED to the owner by CAPTURE_READY, OVERRUN where the other half is HANDED
still (R100, R161, R162, R165). -/
def Obligations.CaptureCommands : Prop :=
  (∀ (k : Link) (s : State) (rtag : Nat), s.Takes k → rtag ≠ 0 → s.channels.length = 8 →
    (∀ n m, m = 0 ∨ 8 < m ∨ 8 ≤ n →
      exec (.captureRead k rtag n m) s = .next (s.answered k rtag (.captureRead n m) .invalid [])) ∧
    (∀ n, 8 ≤ n →
      exec (.captureStop k rtag n) s = .next (s.answered k rtag (.captureStop n) .invalid []) ∧
      exec (.captureOff k rtag n) s = .next (s.answered k rtag (.captureOff n) .invalid [])) ∧
    ∀ f : CaptureFields,
      let answers (x : Status) : Prop := exec (.captureSet k rtag f) s = .next (s.answered k rtag (.captureSet f) x [])
      let valid : Prop := f.channel ≤ 7 ∧ f.first ≤ 63 ∧ 1 ≤ f.count ∧ f.count ≤ 64 ∧ f.first + f.count ≤ 64 ∧
        (f.double = 0 ∨ (f.double = 1 ∧ f.count % 2 = 0 ∧ f.target = none))
      let fills : Prop := ∃ c : Channel, s.channels[f.channel]? = some (some c) ∧ c.mode = .accept
      let bound : Prop := ∃ (i : Nat) (c : Channel), i ≠ f.channel ∧ s.channels[i]? = some (some c) ∧ c.tag = f.tag
      let overlaps : Prop := ∃ (i : Nat) (c : Channel), i ≠ f.channel ∧ s.channels[i]? = some (some c) ∧
        c.first < f.first + f.count ∧ f.first < c.first + c.count
      (¬valid → answers .invalid) ∧
      (valid → s.work.point f.tag = none → answers .notFound) ∧
      ∀ p, valid → s.work.point f.tag = some p →
        (p.kind ≠ .sensor → p.kind ≠ .induct → answers .invalid) ∧
        (p.kind = .sensor ∨ p.kind = .induct →
          (fills → answers .busy) ∧ (¬fills → bound → answers .busy) ∧
          (¬fills → ¬bound → overlaps → answers .conflict))) ∧
  (∀ (br : Branch) (s : State) (f : EventFields) (p : Point) (y : Node) (i : Nat) (c : Channel) (xc : Option Nat)
      (near : Option (Nat × Int)),
    let r := s.work.ring br
    let tr := s.loop.tracker
    s.Quiet → f.passes = true → r.state = .running → r.downlink ≠ none → r.acks.length < 32 →
    r.node f.node = some y → y.state = .online → f.seq = y.expected → eventPoint br f s.work = some p →
    let edge : Edge := if f.falling then .falling else .rising
    p.config.edge ≠ some edge → s.channels[i]? = some (some c) → c.mode = .accept → c.tag = p.tag →
    (∀ j < i, ∀ e : Channel, s.channels[j]? = some (some e) → e.mode = .accept → e.tag ≠ p.tag) →
    let age := min f.age 4095
    let stale : Bool := match tr.geometry with | none => false | some g => decide (g.maxAge < age)
    let corrected (g : Geometry) (x : Nat) : Nat :=
      (((x : Int) - ((tr.v * age + 10000) / 20000 : Nat)) % g.length).toNat
    (stale = true ∨ tr.lock ≠ .locked → xc = none ∧ near = none) →
    (stale = false → tr.lock = .locked → ∃ g x, tr.geometry = some g ∧ tr.pos = some x ∧
      xc = some (corrected g x) ∧ near = some (attribution g p.config.loc p.config.bias (corrected g x))) →
    let record : CaptureRecord := ⟨tr.revolution, xc, near, edge, age, stale⟩
    let heard : Ring :=
      { r.setNode f.node { y with expected := !y.expected, timeouts := 0 } with acks := r.acks ++ [⟨f.node, f.seq⟩] }
    let stores (e : Channel) (ns : List Notice) : Prop :=
      exec (.eventFrame br f) s = .next
        (State.notified { s with work := s.work.setRing br heard, channels := s.channels.set i (some e) } c.owner ns)
    let ready (e : Channel) (n : Nat) (half : Option Nat) : List Notice :=
      [.captureReady i c.tag e.mode e.reason n half]
    (∀ t rs, c.buffer = .single t rs →
      let next (m : CaptureMode) (why : Option CaptureReason) : Channel :=
        { c with mode := m, reason := why, buffer := .single t (rs ++ [record]) }
      (0 < t → t ≤ rs.length + 1 → stores (next .hold (some .done)) (ready (next .hold (some .done)) (rs.length + 1) none)) ∧
      (t = 0 → 32 * c.count ≤ rs.length + 1 →
        stores (next .halted (some .full)) (ready (next .halted (some .full)) (rs.length + 1) none)) ∧
      (rs.length + 1 < t ∨ (t = 0 ∧ rs.length + 1 < 32 * c.count) → stores (next .accept none) [])) ∧
    (∀ a b newer, c.buffer = .double a b newer →
      let next (m : CaptureMode) (why : Option CaptureReason) (x : Buffer) : Channel :=
        { c with mode := m, reason := why, buffer := x }
      (a.state = .filling →
        let rs := a.records ++ [record]
        (rs.length < 16 * c.count → stores { c with buffer := .double ⟨.filling, rs⟩ b newer } []) ∧
        (16 * c.count ≤ rs.length → b.state = .free →
          let e := next .accept none (.double ⟨.handed, rs⟩ ⟨.filling, b.records⟩ false)
          stores e (ready e rs.length (some 1))) ∧
        (16 * c.count ≤ rs.length → b.state = .handed →
          let e := next .halted (some .overrun) (.double ⟨.handed, rs⟩ b false)
          stores e (ready e (rs.length + b.records.length) (some 1)))) ∧
      (a.state ≠ .filling → b.state = .filling →
        let rs := b.records ++ [record]
        (rs.length < 16 * c.count → stores { c with buffer := .double a ⟨.filling, rs⟩ newer } []) ∧
        (16 * c.count ≤ rs.length → a.state = .free →
          let e := next .accept none (.double ⟨.filling, a.records⟩ ⟨.handed, rs⟩ true)
          stores e (ready e rs.length (some 2))) ∧
        (16 * c.count ≤ rs.length → a.state = .handed →
          let e := next .halted (some .overrun) (.double a ⟨.handed, rs⟩ true)
          stores e (ready e (a.records.length + rs.length) (some 2)))))) ∧
  ∀ (k : Link) (s : State) (rtag n : Nat), s.Takes k → rtag ≠ 0 → n < 8 → s.channels.length = 8 →
    let now (c : Option Channel) : State := { s with channels := s.channels.set n c }
    (∀ (f : CaptureFields) (p : Point), f.channel = n → f.check = true → s.work.point f.tag = some p →
      (p.kind = .sensor ∨ p.kind = .induct) →
      (∀ c : Channel, s.channels[n]? = some (some c) → c.mode ≠ .accept) →
      (∀ i (c : Channel), i ≠ n → s.channels[i]? = some (some c) →
        c.tag ≠ f.tag ∧ (c.first + c.count ≤ f.first ∨ f.first + f.count ≤ c.first)) →
      let target := min (f.target.getD 0) (32 * f.count)
      exec (.captureSet k rtag f) s = .next
        ((now (some
          { mode := .accept, reason := none, tag := f.tag, owner := k, first := f.first, count := f.count
            buffer := if f.double = 1 then .double ⟨.filling, []⟩ ⟨.free, []⟩ false else .single target [] })).answered k
          rtag (.captureSet f) .ok
          (.u16 (32 * f.count) :: if f.double = 1 then [.u8 0] else [.u8 1, .u16 target]))) ∧
    exec (.captureOff k rtag n) s = .next ((now none).answered k rtag (.captureOff n) .ok []) ∧
    (s.channels[n]? = some none →
      exec (.captureStop k rtag n) s = .next (s.answered k rtag (.captureStop n) .notFound []) ∧
      ∀ m, 1 ≤ m → m ≤ 8 →
        exec (.captureRead k rtag n m) s = .next (s.answered k rtag (.captureRead n m) .notFound [])) ∧
    (∀ c : Channel, s.channels[n]? = some (some c) → c.owner ≠ k →
      exec (.captureStop k rtag n) s = .next (s.answered k rtag (.captureStop n) .notPermitted []) ∧
      ∀ m, 1 ≤ m → m ≤ 8 →
        exec (.captureRead k rtag n m) s = .next (s.answered k rtag (.captureRead n m) .notPermitted [])) ∧
    (∀ c : Channel, s.channels[n]? = some (some c) → c.owner = k →
      (∀ a b newer, c.buffer = .double a b newer →
        let stops (x : Buffer) : Prop :=
          exec (.captureStop k rtag n) s = .next
            ((now (some { c with mode := .hold, reason := some .stopped, buffer := x })).answered k rtag (.captureStop n)
              .ok [.u16 (a.records.length + b.records.length)])
        let stopped (h : Half) : Half := { h with state := if h.records = [] then .free else .handed }
        (c.mode = .accept → a.state = .filling → b.state ≠ .filling → stops (.double (stopped a) b false)) ∧
        (c.mode = .accept → a.state ≠ .filling → b.state = .filling → stops (.double a (stopped b) true)) ∧
        (∀ m, 1 ≤ m → m ≤ 8 →
          let held (h : Half) : List CaptureRecord := if h.state = .handed then h.records else []
          let left (h : Half) (j : Nat) : Half :=
            if h.state = .handed then ⟨if h.records.length ≤ j then .free else .handed, h.records.drop j⟩ else h
          let older := if newer then a else b
          let other := if newer then b else a
          let older' := left older m
          let other' := left other (m - (held older).length)
          let a' := if newer then older' else other'
          let b' := if newer then other' else older'
          exec (.captureRead k rtag n m) s = .next
            ((now (some { c with buffer := .double a' b' newer })).answered k rtag (.captureRead n m) .ok
              (((held older ++ held other).take m).flatMap CaptureRecord.fields ++
               [.u16 ((held older').length + (held other').length), .u8 c.mode.code] ++
               (match c.reason with | none => [.u8 0] | some y => [.u8 1, .u8 y.code]) ++
               [.u8 1, .u8 a'.state.code, .u8 b'.state.code])))) ∧
      (c.mode ≠ .accept → exec (.captureStop k rtag n) s = .next (s.answered k rtag (.captureStop n) .ok [])) ∧
      (∀ t rs, c.buffer = .single t rs →
        (c.mode = .accept → exec (.captureStop k rtag n) s = .next
          ((now (some { c with mode := .hold, reason := some .stopped })).answered k rtag (.captureStop n) .ok
            [.u16 rs.length])) ∧
        (∀ m, 1 ≤ m → m ≤ 8 → c.mode = .accept →
          exec (.captureRead k rtag n m) s = .next (s.answered k rtag (.captureRead n m) .busy [])) ∧
        (∀ m, 1 ≤ m → m ≤ 8 → c.mode ≠ .accept → exec (.captureRead k rtag n m) s = .next
          ((now (some { c with buffer := .single t (rs.drop m) })).answered k rtag (.captureRead n m) .ok
            ((rs.take m).flatMap CaptureRecord.fields ++ [.u16 (rs.length - m), .u8 c.mode.code] ++
             (match c.reason with | none => [.u8 0] | some y => [.u8 1, .u8 y.code]) ++ [.u8 0])))))
end

