-- ==== Sys2Proof/Laws/State.lean ====
section
/-! SUPPORT. What each update of the state leaves: one lemma for each field and each update. -/

namespace Sys2Proof.Machine

/-! ## Ports -/

@[simp] theorem State.port_line (s : State) : s.port .line = s.line := rfl
@[simp] theorem State.port_console (s : State) : s.port .console = s.console := rfl

@[simp] theorem State.port_setPort (s : State) (k : Link) (p : Port) : (s.setPort k p).port k = p := by
  cases k <;> rfl

theorem State.port_setPort_ne (s : State) {j k : Link} (p : Port) (h : j ≠ k) : (s.setPort k p).port j = s.port j := by
  cases j <;> cases k <;> first | rfl | exact absurd rfl h

@[simp] theorem State.setPort_setPort (s : State) (k : Link) (p q : Port) :
    (s.setPort k p).setPort k q = s.setPort k q := by cases k <;> rfl

@[simp] theorem State.setPort_port (s : State) (k : Link) : s.setPort k (s.port k) = s := by cases k <;> rfl

@[simp] theorem State.setPort_loop (s : State) (k : Link) (p : Port) : (s.setPort k p).loop = s.loop := by
  cases k <;> rfl
@[simp] theorem State.setPort_work (s : State) (k : Link) (p : Port) : (s.setPort k p).work = s.work := by
  cases k <;> rfl
@[simp] theorem State.setPort_routes (s : State) (k : Link) (p : Port) : (s.setPort k p).routes = s.routes := by
  cases k <;> rfl
@[simp] theorem State.setPort_channels (s : State) (k : Link) (p : Port) : (s.setPort k p).channels = s.channels := by
  cases k <;> rfl
@[simp] theorem State.setPort_digest (s : State) (k : Link) (p : Port) : (s.setPort k p).digest = s.digest := by
  cases k <;> rfl
@[simp] theorem State.setPort_fresh (s : State) (k : Link) (p : Port) : (s.setPort k p).fresh = s.fresh := by
  cases k <;> rfl
@[simp] theorem State.setPort_pending (s : State) (k : Link) (p : Port) : (s.setPort k p).pending = s.pending := by
  cases k <;> rfl

/-! ## The core and the tracker -/

@[simp] theorem State.mapWork_work (s : State) (f : Work → Work) : (s.mapWork f).work = f s.work := rfl
@[simp] theorem State.mapWork_loop (s : State) (f : Work → Work) : (s.mapWork f).loop = s.loop := rfl
@[simp] theorem State.mapWork_routes (s : State) (f : Work → Work) : (s.mapWork f).routes = s.routes := rfl
@[simp] theorem State.mapWork_channels (s : State) (f : Work → Work) : (s.mapWork f).channels = s.channels := rfl
@[simp] theorem State.mapWork_digest (s : State) (f : Work → Work) : (s.mapWork f).digest = s.digest := rfl
@[simp] theorem State.mapWork_line (s : State) (f : Work → Work) : (s.mapWork f).line = s.line := rfl
@[simp] theorem State.mapWork_console (s : State) (f : Work → Work) : (s.mapWork f).console = s.console := rfl
@[simp] theorem State.mapWork_port (s : State) (f : Work → Work) (k : Link) : (s.mapWork f).port k = s.port k := by
  cases k <;> rfl
@[simp] theorem State.mapWork_fresh (s : State) (f : Work → Work) : (s.mapWork f).fresh = s.fresh := rfl
@[simp] theorem State.mapWork_pending (s : State) (f : Work → Work) : (s.mapWork f).pending = s.pending := rfl

@[simp] theorem State.setTracker_tracker (s : State) (t : Tracker) : (s.setTracker t).loop.tracker = t := rfl
@[simp] theorem State.setTracker_fences (s : State) (t : Tracker) : (s.setTracker t).loop.fences = s.loop.fences := rfl
@[simp] theorem State.setTracker_clock (s : State) (t : Tracker) : (s.setTracker t).loop.clock = s.loop.clock := rfl
@[simp] theorem State.setTracker_work (s : State) (t : Tracker) : (s.setTracker t).work = s.work := rfl
@[simp] theorem State.setTracker_port (s : State) (t : Tracker) (k : Link) : (s.setTracker t).port k = s.port k := by
  cases k <;> rfl
@[simp] theorem State.setTracker_channels (s : State) (t : Tracker) : (s.setTracker t).channels = s.channels := rfl

/-! ## Rings -/

@[simp] theorem Work.ring_setRing (w : Work) (br : Branch) (r : Ring) : (w.setRing br r).ring br = r := by
  cases br <;> rfl

theorem Work.ring_setRing_ne (w : Work) {a b : Branch} (r : Ring) (h : a ≠ b) : (w.setRing b r).ring a = w.ring a := by
  cases a <;> cases b <;> first | rfl | exact absurd rfl h

@[simp] theorem Work.setRing_setRing (w : Work) (br : Branch) (r q : Ring) :
    (w.setRing br r).setRing br q = w.setRing br q := by cases br <;> rfl

@[simp] theorem Work.setRing_ring (w : Work) (br : Branch) : w.setRing br (w.ring br) = w := by cases br <;> rfl

@[simp] theorem Work.setRing_points (w : Work) (br : Branch) (r : Ring) : (w.setRing br r).points = w.points := by
  cases br <;> rfl
@[simp] theorem Work.setRing_asks (w : Work) (br : Branch) (r : Ring) : (w.setRing br r).asks = w.asks := by
  cases br <;> rfl
@[simp] theorem Work.setRing_carriers (w : Work) (br : Branch) (r : Ring) : (w.setRing br r).carriers = w.carriers := by
  cases br <;> rfl
@[simp] theorem Work.setRing_fires (w : Work) (br : Branch) (r : Ring) : (w.setRing br r).fires = w.fires := by
  cases br <;> rfl
@[simp] theorem Work.setRing_windows (w : Work) (br : Branch) (r : Ring) : (w.setRing br r).windows = w.windows := by
  cases br <;> rfl
@[simp] theorem Work.setRing_plan (w : Work) (br : Branch) (r : Ring) : (w.setRing br r).plan = w.plan := by
  cases br <;> rfl
@[simp] theorem Work.setRing_dist (w : Work) (br : Branch) (r : Ring) : (w.setRing br r).dist = w.dist := by
  cases br <;> rfl
@[simp] theorem Work.setRing_polls (w : Work) (br : Branch) (r : Ring) : (w.setRing br r).polls = w.polls := by
  cases br <;> rfl
@[simp] theorem Work.setRing_outbox (w : Work) (br : Branch) (r : Ring) : (w.setRing br r).outbox = w.outbox := by
  cases br <;> rfl

@[simp] theorem Work.post_outbox (w : Work) (k : Link) (b : Block) (n : Notice) :
    (w.post k b n).outbox = w.outbox ++ [⟨k, b, n⟩] := rfl
@[simp] theorem Work.post_dist (w : Work) (k : Link) (b : Block) (n : Notice) : (w.post k b n).dist = w.dist := rfl
@[simp] theorem Work.post_points (w : Work) (k : Link) (b : Block) (n : Notice) : (w.post k b n).points = w.points := rfl
@[simp] theorem Work.post_plan (w : Work) (k : Link) (b : Block) (n : Notice) : (w.post k b n).plan = w.plan := rfl
@[simp] theorem Work.post_fires (w : Work) (k : Link) (b : Block) (n : Notice) : (w.post k b n).fires = w.fires := rfl
@[simp] theorem Work.post_ring (w : Work) (k : Link) (b : Block) (n : Notice) (br : Branch) :
    (w.post k b n).ring br = w.ring br := by cases br <;> rfl

/-! ## Answers -/

@[simp] theorem State.answered_loop (s : State) (k : Link) (rtag : Nat) (q : Request) (x : Status) (b : List Field) :
    (s.answered k rtag q x b).loop = s.loop := State.setPort_loop ..
@[simp] theorem State.answered_work (s : State) (k : Link) (rtag : Nat) (q : Request) (x : Status) (b : List Field) :
    (s.answered k rtag q x b).work = s.work := State.setPort_work ..
@[simp] theorem State.answered_pending (s : State) (k : Link) (rtag : Nat) (q : Request) (x : Status) (b : List Field) :
    (s.answered k rtag q x b).pending = s.pending := State.setPort_pending ..

end Sys2Proof.Machine
end

