-- ==== Sys2Proof/Laws/Settling.lean ====
section
/-! SUPPORT. What the end of an event does (`settle`, `flush`) and what the taking of a request does (`serve`), said once. -/

namespace Sys2Proof.Machine

/-! ## The order of notices -/

/-- The notices that join are those posted, in some order (R170). -/
theorem takeBlock_perm {b : Block} {ps r : List Post} {n : Notice} (h : takeBlock b ps = some (n, r)) :
    (ps.map Post.notice).Perm (n :: r.map Post.notice) := by
  induction ps generalizing r with
  | nil => simp [takeBlock] at h
  | cons p ps ih =>
    simp only [takeBlock] at h
    split at h
    · obtain ⟨rfl, rfl⟩ := by simpa using h
      exact .refl _
    · split at h
      · simp at h
      · next m q hq =>
        obtain ⟨rfl, rfl⟩ := by simpa using h
        exact ((ih hq).cons _).trans (.swap ..)

theorem arrange_perm (fuel n : Nat) (ps : List Post) : ((arrange fuel n ps).1).Perm (ps.map Post.notice) := by
  induction fuel generalizing n ps with
  | zero => exact .refl _
  | succ fuel ih =>
    unfold arrange
    split
    · next h =>
      cases ps with
      | nil => exact .refl _
      | cons p ps =>
        simp only [blocksOf] at h
        split at h
        · next hc => rw [h] at hc; simp at hc
        · simp at h
    · exact .refl _
    · split
      · exact .refl _
      · next h => exact ((ih _ _).cons _).trans (takeBlock_perm h).symm

/-- With one poster, the notices join in the order in which it posted them, and no choice is taken. -/
theorem arrange_one {b : Block} {ps : List Post} (h : ∀ p ∈ ps, p.block = b) (fuel n : Nat) :
    arrange fuel n ps = (ps.map Post.notice, n) := by
  have hb : blocksOf ps = [] ∧ ps = [] ∨ blocksOf ps = [b] := by
    induction ps with
    | nil => exact .inl ⟨rfl, rfl⟩
    | cons p ps ih =>
      right
      have hp := h p (by simp)
      rcases ih (fun q hq => h q (by simp [hq])) with ⟨h0, -⟩ | h1
      · simp [blocksOf, h0, hp]
      · simp [blocksOf, h1, hp]
  cases fuel with
  | zero => rfl
  | succ fuel =>
    unfold arrange
    rcases hb with ⟨h0, rfl⟩ | h1
    · simp [blocksOf]
    · simp [h1]

/-! ## Flushing -/

@[simp] theorem Port.enqueueAll_nil (p : Port) : p.enqueueAll [] = p := rfl
@[simp] theorem Port.enqueueAll_cons (p : Port) (n : Notice) (ns : List Notice) :
    p.enqueueAll (n :: ns) = (p.enqueue n).enqueueAll ns := rfl
@[simp] theorem State.notified_nil (s : State) (k : Link) : s.notified k [] = s := by
  cases k <;> rfl

/-- What `flush` does: the posts of the event join the two queues, each in some order, and the outbox is empty. -/
theorem State.flush_posted (s : State) :
    State.Posted { s with work := { s.work with outbox := [] } } s.flush
      ((postsTo .line s.work.outbox).map Post.notice) ((postsTo .console s.work.outbox).map Post.notice) :=
  ⟨_, _, _, arrange_perm .., arrange_perm .., rfl⟩

/-- What `flush` does where each link hears of one poster alone. -/
theorem State.flush_one (s : State) {b c : Block} (hl : ∀ p ∈ postsTo .line s.work.outbox, p.block = b)
    (hc : ∀ p ∈ postsTo .console s.work.outbox, p.block = c) :
    s.flush = ({ s with work := { s.work with outbox := [] } }.notified .line
      ((postsTo .line s.work.outbox).map Post.notice)).notified .console
      ((postsTo .console s.work.outbox).map Post.notice) := by
  simp only [State.flush, arrange_one hl, arrange_one hc]
  rfl

@[simp] theorem State.flush_outbox (s : State) : s.flush.work.outbox = [] := rfl
@[simp] theorem State.flush_loop (s : State) : s.flush.loop = s.loop := rfl
@[simp] theorem State.flush_routes (s : State) : s.flush.routes = s.routes := rfl
@[simp] theorem State.flush_channels (s : State) : s.flush.channels = s.channels := rfl
@[simp] theorem State.flush_digest (s : State) : s.flush.digest = s.digest := rfl
@[simp] theorem State.flush_pending (s : State) : s.flush.pending = s.pending := rfl

/-! ## The end of an event -/

/-- What the end of a distribution changes: `dist` and the outbox. -/
theorem Work.endDistribution_cases (w : Work) :
    (w.endDistribution = w ∧ ∀ d, w.dist = some d → d.over = false) ∨
    ∃ d, w.dist = some d ∧ d.over = true ∧
      w.endDistribution =
        Work.post { w with dist := none } .line .drives (.speedSet d.value d.cause d.acked d.failed) := by
  unfold Work.endDistribution
  split
  · next h => exact .inl ⟨rfl, by simp [h]⟩
  · next d h =>
    split
    · next ho => exact .inr ⟨d, h, ho, rfl⟩
    · next ho => exact .inl ⟨rfl, by simpa [h] using ho⟩

/-- Where no distribution is over, the end of the event only puts the notices into the queues. -/
theorem State.settle_of_not_over (s : State) (h : ∀ d, s.work.dist = some d → d.over = false) :
    s.settle = s.flush := by
  rcases s.work.endDistribution_cases with ⟨h', -⟩ | ⟨d, hd, ho, -⟩
  · simp [State.settle, State.mapWork, h']
  · simp [h d hd] at ho

/-- The end of an event leaves nothing waiting: what holds between commands holds after it. -/
theorem State.settle_quiet (s : State) : s.settle.Quiet := by
  refine ⟨rfl, fun d hd => ?_⟩
  have hd' : (s.work.endDistribution).dist = some d := hd
  rcases s.work.endDistribution_cases with ⟨h', h⟩ | ⟨e, -, -, h'⟩
  · exact h d (by rwa [h'] at hd')
  · simp [h'] at hd'

/-- Between commands the end of an event does nothing. -/
theorem State.Quiet.settle {s : State} (h : s.Quiet) : s.settle = s := by
  rw [s.settle_of_not_over h.2, s.flush_one (b := .link) (c := .link) (by simp [h.1, postsTo]) (by simp [h.1, postsTo])]
  simp only [h.1, postsTo, List.filter_nil, List.map_nil, State.notified_nil]
  rw [← h.1]

@[simp] theorem State.settle_loop (s : State) : s.settle.loop = s.loop := rfl
@[simp] theorem State.settle_routes (s : State) : s.settle.routes = s.routes := rfl
@[simp] theorem State.settle_channels (s : State) : s.settle.channels = s.channels := rfl
@[simp] theorem State.settle_digest (s : State) : s.settle.digest = s.digest := rfl
@[simp] theorem State.settle_pending (s : State) : s.settle.pending = s.pending := rfl

theorem Port.enqueue_frame (p : Port) (n : Notice) :
    (p.enqueue n).intake = p.intake ∧ (p.enqueue n).answers = p.answers ∧ (p.enqueue n).breakHeld = p.breakHeld ∧
    (p.enqueue n).rx = p.rx ∧ (p.enqueue n).hunting = p.hunting ∧ (p.enqueue n).wire = p.wire := by
  unfold Port.enqueue
  split <;> simp

/-- Notices that join a queue leave the rest of the port. -/
theorem Port.enqueueAll_frame (p : Port) (ns : List Notice) :
    (p.enqueueAll ns).intake = p.intake ∧ (p.enqueueAll ns).answers = p.answers ∧
    (p.enqueueAll ns).breakHeld = p.breakHeld ∧ (p.enqueueAll ns).rx = p.rx ∧
    (p.enqueueAll ns).hunting = p.hunting ∧ (p.enqueueAll ns).wire = p.wire := by
  induction ns generalizing p with
  | nil => simp
  | cons n ns ih =>
    obtain ⟨a, b, c, d, e, f⟩ := ih (p.enqueue n)
    obtain ⟨a', b', c', d', e', f'⟩ := p.enqueue_frame n
    simp [a, b, c, d, e, f, a', b', c', d', e', f']

/-- The end of an event leaves the ports but for their queues. -/
theorem State.settle_port (s : State) (k : Link) :
    (s.settle.port k).intake = (s.port k).intake ∧ (s.settle.port k).answers = (s.port k).answers ∧
    (s.settle.port k).breakHeld = (s.port k).breakHeld := by
  cases k
  · have h := s.line.enqueueAll_frame
      (arrange s.work.endDistribution.outbox.length s.fresh (postsTo .line s.work.endDistribution.outbox)).1
    exact ⟨h.1, h.2.1, h.2.2.1⟩
  · have h := s.console.enqueueAll_frame
      (arrange s.work.endDistribution.outbox.length
        (arrange s.work.endDistribution.outbox.length s.fresh (postsTo .line s.work.endDistribution.outbox)).2
        (postsTo .console s.work.endDistribution.outbox)).1
    exact ⟨h.1, h.2.1, h.2.2.1⟩

/-! ## Taking a request -/

/-- A port that takes requests at once is idle, and there is no discarding for a frame to end. -/
theorem State.Takes.idle {s : State} {k : Link} (h : s.Takes k) :
    (s.port k).idle = true ∧ s.setPort k (s.port k).synced = s := by
  obtain ⟨-, -, hb, hx, hh⟩ := h
  have hs : (s.port k).synced = s.port k := by rw [Port.synced, ← hh]
  exact ⟨by simp [Port.idle, hb, hx], by rw [hs, s.setPort_port]⟩

/-- What `serve` does on a port that takes the request at once (R167, R168). -/
theorem serve_takes {s : State} {k : Link} (h : s.Takes k) {rtag : Nat} (hr : rtag ≠ 0) (q : Request)
    (handle : State → Reply) :
    serve k rtag q handle s = ((handle s).state.answered k rtag q (handle s).status (handle s).body).settle := by
  simp [serve, h.2.1, h.idle, hr, State.answered, Port.pushAnswer, Reply.answer]

/-- What `serve` does on an idle port with an empty intake: the frame ends any discarding, and is answered (R166,
R167). -/
theorem serve_idle {s : State} {k : Link} (hi : (s.port k).intake = []) (hp : (s.port k).idle = true) (rtag : Nat)
    (q : Request) (handle : State → Reply) :
    serve k rtag q handle s =
      let u := s.setPort k (s.port k).synced
      if rtag = 0 then u.answered k 0 q .invalid []
      else ((handle u).state.answered k rtag q (handle u).status (handle u).body).settle := by
  simp [serve, hi, hp, State.answered, Port.pushAnswer, Reply.answer]

/-- A port with an empty intake that is not idle takes no request (log 4). -/
theorem serve_waits {s : State} {k : Link} (hi : (s.port k).intake = []) (hp : (s.port k).idle = false) (rtag : Nat)
    (q : Request) (handle : State → Reply) : serve k rtag q handle s = s := by
  simp [serve, hi, hp]

/-- A request that is refused, or that only reads, changes nothing but the answers. -/
theorem serve_answers {s : State} {k : Link} (h : s.Takes k) {rtag : Nat} (hr : rtag ≠ 0) (q : Request)
    (handle : State → Reply) {x : Status} {b : List Field} (hh : handle s = ⟨s, x, b⟩) :
    serve k rtag q handle s = s.answered k rtag q x b := by
  rw [serve_takes h hr, hh]
  refine State.Quiet.settle ⟨?_, ?_⟩
  · simpa using h.1.1
  · simpa using h.1.2

end Sys2Proof.Machine
end

