-- ==== Sys2Proof/Laws/Work.lean ====
section
/-! SUPPORT. What each update of the core leaves: one lemma for each field and each update. -/

namespace Sys2Proof.Machine

@[simp] theorem Work.setPoint_asks (w : Work) (p : Point) : (w.setPoint p).asks = w.asks := rfl
@[simp] theorem Work.setPoint_carriers (w : Work) (p : Point) : (w.setPoint p).carriers = w.carriers := rfl
@[simp] theorem Work.setPoint_fires (w : Work) (p : Point) : (w.setPoint p).fires = w.fires := rfl
@[simp] theorem Work.setPoint_fireCount (w : Work) (p : Point) : (w.setPoint p).fireCount = w.fireCount := rfl
@[simp] theorem Work.setPoint_windows (w : Work) (p : Point) : (w.setPoint p).windows = w.windows := rfl
@[simp] theorem Work.setPoint_armCount (w : Work) (p : Point) : (w.setPoint p).armCount = w.armCount := rfl
@[simp] theorem Work.setPoint_plan (w : Work) (p : Point) : (w.setPoint p).plan = w.plan := rfl
@[simp] theorem Work.setPoint_nextId (w : Work) (p : Point) : (w.setPoint p).nextId = w.nextId := rfl
@[simp] theorem Work.setPoint_submitCount (w : Work) (p : Point) : (w.setPoint p).submitCount = w.submitCount := rfl
@[simp] theorem Work.setPoint_dist (w : Work) (p : Point) : (w.setPoint p).dist = w.dist := rfl
@[simp] theorem Work.setPoint_polls (w : Work) (p : Point) : (w.setPoint p).polls = w.polls := rfl
@[simp] theorem Work.setPoint_ringA (w : Work) (p : Point) : (w.setPoint p).ringA = w.ringA := rfl
@[simp] theorem Work.setPoint_ringB (w : Work) (p : Point) : (w.setPoint p).ringB = w.ringB := rfl
@[simp] theorem Work.setPoint_outbox (w : Work) (p : Point) : (w.setPoint p).outbox = w.outbox := rfl

@[simp] theorem Work.closeAsk_points (w : Work) (tag : Nat) : (w.closeAsk tag).points = w.points := rfl
@[simp] theorem Work.closeAsk_carriers (w : Work) (tag : Nat) : (w.closeAsk tag).carriers = w.carriers := rfl
@[simp] theorem Work.closeAsk_fires (w : Work) (tag : Nat) : (w.closeAsk tag).fires = w.fires := rfl
@[simp] theorem Work.closeAsk_fireCount (w : Work) (tag : Nat) : (w.closeAsk tag).fireCount = w.fireCount := rfl
@[simp] theorem Work.closeAsk_windows (w : Work) (tag : Nat) : (w.closeAsk tag).windows = w.windows := rfl
@[simp] theorem Work.closeAsk_armCount (w : Work) (tag : Nat) : (w.closeAsk tag).armCount = w.armCount := rfl
@[simp] theorem Work.closeAsk_plan (w : Work) (tag : Nat) : (w.closeAsk tag).plan = w.plan := rfl
@[simp] theorem Work.closeAsk_nextId (w : Work) (tag : Nat) : (w.closeAsk tag).nextId = w.nextId := rfl
@[simp] theorem Work.closeAsk_submitCount (w : Work) (tag : Nat) : (w.closeAsk tag).submitCount = w.submitCount := rfl
@[simp] theorem Work.closeAsk_dist (w : Work) (tag : Nat) : (w.closeAsk tag).dist = w.dist := rfl
@[simp] theorem Work.closeAsk_polls (w : Work) (tag : Nat) : (w.closeAsk tag).polls = w.polls := rfl
@[simp] theorem Work.closeAsk_ringA (w : Work) (tag : Nat) : (w.closeAsk tag).ringA = w.ringA := rfl
@[simp] theorem Work.closeAsk_ringB (w : Work) (tag : Nat) : (w.closeAsk tag).ringB = w.ringB := rfl
@[simp] theorem Work.closeAsk_outbox (w : Work) (tag : Nat) : (w.closeAsk tag).outbox = w.outbox := rfl

@[simp] theorem Work.setCarrier_points (w : Work) (k : Nat) (c : Carrier) : (w.setCarrier k c).points = w.points := rfl
@[simp] theorem Work.setCarrier_asks (w : Work) (k : Nat) (c : Carrier) : (w.setCarrier k c).asks = w.asks := rfl
@[simp] theorem Work.setCarrier_fires (w : Work) (k : Nat) (c : Carrier) : (w.setCarrier k c).fires = w.fires := rfl
@[simp] theorem Work.setCarrier_fireCount (w : Work) (k : Nat) (c : Carrier) : (w.setCarrier k c).fireCount = w.fireCount := rfl
@[simp] theorem Work.setCarrier_windows (w : Work) (k : Nat) (c : Carrier) : (w.setCarrier k c).windows = w.windows := rfl
@[simp] theorem Work.setCarrier_armCount (w : Work) (k : Nat) (c : Carrier) : (w.setCarrier k c).armCount = w.armCount := rfl
@[simp] theorem Work.setCarrier_plan (w : Work) (k : Nat) (c : Carrier) : (w.setCarrier k c).plan = w.plan := rfl
@[simp] theorem Work.setCarrier_nextId (w : Work) (k : Nat) (c : Carrier) : (w.setCarrier k c).nextId = w.nextId := rfl
@[simp] theorem Work.setCarrier_submitCount (w : Work) (k : Nat) (c : Carrier) : (w.setCarrier k c).submitCount = w.submitCount := rfl
@[simp] theorem Work.setCarrier_dist (w : Work) (k : Nat) (c : Carrier) : (w.setCarrier k c).dist = w.dist := rfl
@[simp] theorem Work.setCarrier_polls (w : Work) (k : Nat) (c : Carrier) : (w.setCarrier k c).polls = w.polls := rfl
@[simp] theorem Work.setCarrier_ringA (w : Work) (k : Nat) (c : Carrier) : (w.setCarrier k c).ringA = w.ringA := rfl
@[simp] theorem Work.setCarrier_ringB (w : Work) (k : Nat) (c : Carrier) : (w.setCarrier k c).ringB = w.ringB := rfl
@[simp] theorem Work.setCarrier_outbox (w : Work) (k : Nat) (c : Carrier) : (w.setCarrier k c).outbox = w.outbox := rfl

@[simp] theorem Work.setLoad_points (w : Work) (k : Nat) (x : LoadState) : (w.setLoad k x).points = w.points := rfl
@[simp] theorem Work.setLoad_asks (w : Work) (k : Nat) (x : LoadState) : (w.setLoad k x).asks = w.asks := rfl
@[simp] theorem Work.setLoad_fires (w : Work) (k : Nat) (x : LoadState) : (w.setLoad k x).fires = w.fires := rfl
@[simp] theorem Work.setLoad_fireCount (w : Work) (k : Nat) (x : LoadState) : (w.setLoad k x).fireCount = w.fireCount := rfl
@[simp] theorem Work.setLoad_windows (w : Work) (k : Nat) (x : LoadState) : (w.setLoad k x).windows = w.windows := rfl
@[simp] theorem Work.setLoad_armCount (w : Work) (k : Nat) (x : LoadState) : (w.setLoad k x).armCount = w.armCount := rfl
@[simp] theorem Work.setLoad_plan (w : Work) (k : Nat) (x : LoadState) : (w.setLoad k x).plan = w.plan := rfl
@[simp] theorem Work.setLoad_nextId (w : Work) (k : Nat) (x : LoadState) : (w.setLoad k x).nextId = w.nextId := rfl
@[simp] theorem Work.setLoad_submitCount (w : Work) (k : Nat) (x : LoadState) : (w.setLoad k x).submitCount = w.submitCount := rfl
@[simp] theorem Work.setLoad_dist (w : Work) (k : Nat) (x : LoadState) : (w.setLoad k x).dist = w.dist := rfl
@[simp] theorem Work.setLoad_polls (w : Work) (k : Nat) (x : LoadState) : (w.setLoad k x).polls = w.polls := rfl
@[simp] theorem Work.setLoad_ringA (w : Work) (k : Nat) (x : LoadState) : (w.setLoad k x).ringA = w.ringA := rfl
@[simp] theorem Work.setLoad_ringB (w : Work) (k : Nat) (x : LoadState) : (w.setLoad k x).ringB = w.ringB := rfl
@[simp] theorem Work.setLoad_outbox (w : Work) (k : Nat) (x : LoadState) : (w.setLoad k x).outbox = w.outbox := rfl

@[simp] theorem Work.setEntry_points (w : Work) (e : Entry) : (w.setEntry e).points = w.points := rfl
@[simp] theorem Work.setEntry_asks (w : Work) (e : Entry) : (w.setEntry e).asks = w.asks := rfl
@[simp] theorem Work.setEntry_carriers (w : Work) (e : Entry) : (w.setEntry e).carriers = w.carriers := rfl
@[simp] theorem Work.setEntry_fireCount (w : Work) (e : Entry) : (w.setEntry e).fireCount = w.fireCount := rfl
@[simp] theorem Work.setEntry_windows (w : Work) (e : Entry) : (w.setEntry e).windows = w.windows := rfl
@[simp] theorem Work.setEntry_armCount (w : Work) (e : Entry) : (w.setEntry e).armCount = w.armCount := rfl
@[simp] theorem Work.setEntry_plan (w : Work) (e : Entry) : (w.setEntry e).plan = w.plan := rfl
@[simp] theorem Work.setEntry_nextId (w : Work) (e : Entry) : (w.setEntry e).nextId = w.nextId := rfl
@[simp] theorem Work.setEntry_submitCount (w : Work) (e : Entry) : (w.setEntry e).submitCount = w.submitCount := rfl
@[simp] theorem Work.setEntry_dist (w : Work) (e : Entry) : (w.setEntry e).dist = w.dist := rfl
@[simp] theorem Work.setEntry_polls (w : Work) (e : Entry) : (w.setEntry e).polls = w.polls := rfl
@[simp] theorem Work.setEntry_ringA (w : Work) (e : Entry) : (w.setEntry e).ringA = w.ringA := rfl
@[simp] theorem Work.setEntry_ringB (w : Work) (e : Entry) : (w.setEntry e).ringB = w.ringB := rfl
@[simp] theorem Work.setEntry_outbox (w : Work) (e : Entry) : (w.setEntry e).outbox = w.outbox := rfl

@[simp] theorem Work.setTrial_points (w : Work) (t : Trial) : (w.setTrial t).points = w.points := rfl
@[simp] theorem Work.setTrial_asks (w : Work) (t : Trial) : (w.setTrial t).asks = w.asks := rfl
@[simp] theorem Work.setTrial_carriers (w : Work) (t : Trial) : (w.setTrial t).carriers = w.carriers := rfl
@[simp] theorem Work.setTrial_fires (w : Work) (t : Trial) : (w.setTrial t).fires = w.fires := rfl
@[simp] theorem Work.setTrial_fireCount (w : Work) (t : Trial) : (w.setTrial t).fireCount = w.fireCount := rfl
@[simp] theorem Work.setTrial_windows (w : Work) (t : Trial) : (w.setTrial t).windows = w.windows := rfl
@[simp] theorem Work.setTrial_armCount (w : Work) (t : Trial) : (w.setTrial t).armCount = w.armCount := rfl
@[simp] theorem Work.setTrial_nextId (w : Work) (t : Trial) : (w.setTrial t).nextId = w.nextId := rfl
@[simp] theorem Work.setTrial_submitCount (w : Work) (t : Trial) : (w.setTrial t).submitCount = w.submitCount := rfl
@[simp] theorem Work.setTrial_dist (w : Work) (t : Trial) : (w.setTrial t).dist = w.dist := rfl
@[simp] theorem Work.setTrial_polls (w : Work) (t : Trial) : (w.setTrial t).polls = w.polls := rfl
@[simp] theorem Work.setTrial_ringA (w : Work) (t : Trial) : (w.setTrial t).ringA = w.ringA := rfl
@[simp] theorem Work.setTrial_ringB (w : Work) (t : Trial) : (w.setTrial t).ringB = w.ringB := rfl
@[simp] theorem Work.setTrial_outbox (w : Work) (t : Trial) : (w.setTrial t).outbox = w.outbox := rfl

@[simp] theorem Work.dropWindow_points (w : Work) (n : Nat) : (w.dropWindow n).points = w.points := rfl
@[simp] theorem Work.dropWindow_asks (w : Work) (n : Nat) : (w.dropWindow n).asks = w.asks := rfl
@[simp] theorem Work.dropWindow_carriers (w : Work) (n : Nat) : (w.dropWindow n).carriers = w.carriers := rfl
@[simp] theorem Work.dropWindow_fires (w : Work) (n : Nat) : (w.dropWindow n).fires = w.fires := rfl
@[simp] theorem Work.dropWindow_fireCount (w : Work) (n : Nat) : (w.dropWindow n).fireCount = w.fireCount := rfl
@[simp] theorem Work.dropWindow_armCount (w : Work) (n : Nat) : (w.dropWindow n).armCount = w.armCount := rfl
@[simp] theorem Work.dropWindow_plan (w : Work) (n : Nat) : (w.dropWindow n).plan = w.plan := rfl
@[simp] theorem Work.dropWindow_nextId (w : Work) (n : Nat) : (w.dropWindow n).nextId = w.nextId := rfl
@[simp] theorem Work.dropWindow_submitCount (w : Work) (n : Nat) : (w.dropWindow n).submitCount = w.submitCount := rfl
@[simp] theorem Work.dropWindow_dist (w : Work) (n : Nat) : (w.dropWindow n).dist = w.dist := rfl
@[simp] theorem Work.dropWindow_polls (w : Work) (n : Nat) : (w.dropWindow n).polls = w.polls := rfl
@[simp] theorem Work.dropWindow_ringA (w : Work) (n : Nat) : (w.dropWindow n).ringA = w.ringA := rfl
@[simp] theorem Work.dropWindow_ringB (w : Work) (n : Nat) : (w.dropWindow n).ringB = w.ringB := rfl
@[simp] theorem Work.dropWindow_outbox (w : Work) (n : Nat) : (w.dropWindow n).outbox = w.outbox := rfl

@[simp] theorem Work.setRow_points (w : Work) (tag : Nat) (x : RowState) : (w.setRow tag x).points = w.points := rfl
@[simp] theorem Work.setRow_asks (w : Work) (tag : Nat) (x : RowState) : (w.setRow tag x).asks = w.asks := rfl
@[simp] theorem Work.setRow_carriers (w : Work) (tag : Nat) (x : RowState) : (w.setRow tag x).carriers = w.carriers := rfl
@[simp] theorem Work.setRow_fires (w : Work) (tag : Nat) (x : RowState) : (w.setRow tag x).fires = w.fires := rfl
@[simp] theorem Work.setRow_fireCount (w : Work) (tag : Nat) (x : RowState) : (w.setRow tag x).fireCount = w.fireCount := rfl
@[simp] theorem Work.setRow_windows (w : Work) (tag : Nat) (x : RowState) : (w.setRow tag x).windows = w.windows := rfl
@[simp] theorem Work.setRow_armCount (w : Work) (tag : Nat) (x : RowState) : (w.setRow tag x).armCount = w.armCount := rfl
@[simp] theorem Work.setRow_plan (w : Work) (tag : Nat) (x : RowState) : (w.setRow tag x).plan = w.plan := rfl
@[simp] theorem Work.setRow_nextId (w : Work) (tag : Nat) (x : RowState) : (w.setRow tag x).nextId = w.nextId := rfl
@[simp] theorem Work.setRow_submitCount (w : Work) (tag : Nat) (x : RowState) : (w.setRow tag x).submitCount = w.submitCount := rfl
@[simp] theorem Work.setRow_polls (w : Work) (tag : Nat) (x : RowState) : (w.setRow tag x).polls = w.polls := rfl
@[simp] theorem Work.setRow_ringA (w : Work) (tag : Nat) (x : RowState) : (w.setRow tag x).ringA = w.ringA := rfl
@[simp] theorem Work.setRow_ringB (w : Work) (tag : Nat) (x : RowState) : (w.setRow tag x).ringB = w.ringB := rfl
@[simp] theorem Work.setRow_outbox (w : Work) (tag : Nat) (x : RowState) : (w.setRow tag x).outbox = w.outbox := rfl

@[simp] theorem Work.withdraw_points (w : Work) (keep : Job → Bool) : (w.withdraw keep).points = w.points := rfl
@[simp] theorem Work.withdraw_asks (w : Work) (keep : Job → Bool) : (w.withdraw keep).asks = w.asks := rfl
@[simp] theorem Work.withdraw_carriers (w : Work) (keep : Job → Bool) : (w.withdraw keep).carriers = w.carriers := rfl
@[simp] theorem Work.withdraw_fires (w : Work) (keep : Job → Bool) : (w.withdraw keep).fires = w.fires := rfl
@[simp] theorem Work.withdraw_fireCount (w : Work) (keep : Job → Bool) : (w.withdraw keep).fireCount = w.fireCount := rfl
@[simp] theorem Work.withdraw_windows (w : Work) (keep : Job → Bool) : (w.withdraw keep).windows = w.windows := rfl
@[simp] theorem Work.withdraw_armCount (w : Work) (keep : Job → Bool) : (w.withdraw keep).armCount = w.armCount := rfl
@[simp] theorem Work.withdraw_plan (w : Work) (keep : Job → Bool) : (w.withdraw keep).plan = w.plan := rfl
@[simp] theorem Work.withdraw_nextId (w : Work) (keep : Job → Bool) : (w.withdraw keep).nextId = w.nextId := rfl
@[simp] theorem Work.withdraw_submitCount (w : Work) (keep : Job → Bool) : (w.withdraw keep).submitCount = w.submitCount := rfl
@[simp] theorem Work.withdraw_dist (w : Work) (keep : Job → Bool) : (w.withdraw keep).dist = w.dist := rfl
@[simp] theorem Work.withdraw_polls (w : Work) (keep : Job → Bool) : (w.withdraw keep).polls = w.polls := rfl
@[simp] theorem Work.withdraw_outbox (w : Work) (keep : Job → Bool) : (w.withdraw keep).outbox = w.outbox := rfl

@[simp] theorem Work.withdrawFire_points (w : Work) (n : Nat) : (w.withdrawFire n).points = w.points := rfl
@[simp] theorem Work.withdrawFire_asks (w : Work) (n : Nat) : (w.withdrawFire n).asks = w.asks := rfl
@[simp] theorem Work.withdrawFire_carriers (w : Work) (n : Nat) : (w.withdrawFire n).carriers = w.carriers := rfl
@[simp] theorem Work.withdrawFire_fires (w : Work) (n : Nat) : (w.withdrawFire n).fires = w.fires := rfl
@[simp] theorem Work.withdrawFire_fireCount (w : Work) (n : Nat) : (w.withdrawFire n).fireCount = w.fireCount := rfl
@[simp] theorem Work.withdrawFire_windows (w : Work) (n : Nat) : (w.withdrawFire n).windows = w.windows := rfl
@[simp] theorem Work.withdrawFire_armCount (w : Work) (n : Nat) : (w.withdrawFire n).armCount = w.armCount := rfl
@[simp] theorem Work.withdrawFire_plan (w : Work) (n : Nat) : (w.withdrawFire n).plan = w.plan := rfl
@[simp] theorem Work.withdrawFire_nextId (w : Work) (n : Nat) : (w.withdrawFire n).nextId = w.nextId := rfl
@[simp] theorem Work.withdrawFire_submitCount (w : Work) (n : Nat) : (w.withdrawFire n).submitCount = w.submitCount := rfl
@[simp] theorem Work.withdrawFire_dist (w : Work) (n : Nat) : (w.withdrawFire n).dist = w.dist := rfl
@[simp] theorem Work.withdrawFire_polls (w : Work) (n : Nat) : (w.withdrawFire n).polls = w.polls := rfl
@[simp] theorem Work.withdrawFire_outbox (w : Work) (n : Nat) : (w.withdrawFire n).outbox = w.outbox := rfl

@[simp] theorem Work.withdrawSpeed_points (w : Work) (n : Nat) : (w.withdrawSpeed n).points = w.points := rfl
@[simp] theorem Work.withdrawSpeed_asks (w : Work) (n : Nat) : (w.withdrawSpeed n).asks = w.asks := rfl
@[simp] theorem Work.withdrawSpeed_carriers (w : Work) (n : Nat) : (w.withdrawSpeed n).carriers = w.carriers := rfl
@[simp] theorem Work.withdrawSpeed_fires (w : Work) (n : Nat) : (w.withdrawSpeed n).fires = w.fires := rfl
@[simp] theorem Work.withdrawSpeed_fireCount (w : Work) (n : Nat) : (w.withdrawSpeed n).fireCount = w.fireCount := rfl
@[simp] theorem Work.withdrawSpeed_windows (w : Work) (n : Nat) : (w.withdrawSpeed n).windows = w.windows := rfl
@[simp] theorem Work.withdrawSpeed_armCount (w : Work) (n : Nat) : (w.withdrawSpeed n).armCount = w.armCount := rfl
@[simp] theorem Work.withdrawSpeed_plan (w : Work) (n : Nat) : (w.withdrawSpeed n).plan = w.plan := rfl
@[simp] theorem Work.withdrawSpeed_nextId (w : Work) (n : Nat) : (w.withdrawSpeed n).nextId = w.nextId := rfl
@[simp] theorem Work.withdrawSpeed_submitCount (w : Work) (n : Nat) : (w.withdrawSpeed n).submitCount = w.submitCount := rfl
@[simp] theorem Work.withdrawSpeed_dist (w : Work) (n : Nat) : (w.withdrawSpeed n).dist = w.dist := rfl
@[simp] theorem Work.withdrawSpeed_polls (w : Work) (n : Nat) : (w.withdrawSpeed n).polls = w.polls := rfl
@[simp] theorem Work.withdrawSpeed_outbox (w : Work) (n : Nat) : (w.withdrawSpeed n).outbox = w.outbox := rfl

@[simp] theorem Work.withdrawQuery_points (w : Work) (n : Nat) : (w.withdrawQuery n).points = w.points := rfl
@[simp] theorem Work.withdrawQuery_asks (w : Work) (n : Nat) : (w.withdrawQuery n).asks = w.asks := rfl
@[simp] theorem Work.withdrawQuery_carriers (w : Work) (n : Nat) : (w.withdrawQuery n).carriers = w.carriers := rfl
@[simp] theorem Work.withdrawQuery_fires (w : Work) (n : Nat) : (w.withdrawQuery n).fires = w.fires := rfl
@[simp] theorem Work.withdrawQuery_fireCount (w : Work) (n : Nat) : (w.withdrawQuery n).fireCount = w.fireCount := rfl
@[simp] theorem Work.withdrawQuery_windows (w : Work) (n : Nat) : (w.withdrawQuery n).windows = w.windows := rfl
@[simp] theorem Work.withdrawQuery_armCount (w : Work) (n : Nat) : (w.withdrawQuery n).armCount = w.armCount := rfl
@[simp] theorem Work.withdrawQuery_plan (w : Work) (n : Nat) : (w.withdrawQuery n).plan = w.plan := rfl
@[simp] theorem Work.withdrawQuery_nextId (w : Work) (n : Nat) : (w.withdrawQuery n).nextId = w.nextId := rfl
@[simp] theorem Work.withdrawQuery_submitCount (w : Work) (n : Nat) : (w.withdrawQuery n).submitCount = w.submitCount := rfl
@[simp] theorem Work.withdrawQuery_dist (w : Work) (n : Nat) : (w.withdrawQuery n).dist = w.dist := rfl
@[simp] theorem Work.withdrawQuery_polls (w : Work) (n : Nat) : (w.withdrawQuery n).polls = w.polls := rfl
@[simp] theorem Work.withdrawQuery_outbox (w : Work) (n : Nat) : (w.withdrawQuery n).outbox = w.outbox := rfl

@[simp] theorem Work.post_asks (w : Work) (k : Link) (b : Block) (n : Notice) : (w.post k b n).asks = w.asks := rfl
@[simp] theorem Work.post_carriers (w : Work) (k : Link) (b : Block) (n : Notice) : (w.post k b n).carriers = w.carriers := rfl
@[simp] theorem Work.post_fireCount (w : Work) (k : Link) (b : Block) (n : Notice) : (w.post k b n).fireCount = w.fireCount := rfl
@[simp] theorem Work.post_windows (w : Work) (k : Link) (b : Block) (n : Notice) : (w.post k b n).windows = w.windows := rfl
@[simp] theorem Work.post_armCount (w : Work) (k : Link) (b : Block) (n : Notice) : (w.post k b n).armCount = w.armCount := rfl
@[simp] theorem Work.post_nextId (w : Work) (k : Link) (b : Block) (n : Notice) : (w.post k b n).nextId = w.nextId := rfl
@[simp] theorem Work.post_submitCount (w : Work) (k : Link) (b : Block) (n : Notice) : (w.post k b n).submitCount = w.submitCount := rfl
@[simp] theorem Work.post_polls (w : Work) (k : Link) (b : Block) (n : Notice) : (w.post k b n).polls = w.polls := rfl
@[simp] theorem Work.post_ringA (w : Work) (k : Link) (b : Block) (n : Notice) : (w.post k b n).ringA = w.ringA := rfl
@[simp] theorem Work.post_ringB (w : Work) (k : Link) (b : Block) (n : Notice) : (w.post k b n).ringB = w.ringB := rfl

@[simp] theorem Work.postBoth_points (w : Work) (b : Block) (n : Notice) : (w.postBoth b n).points = w.points := rfl
@[simp] theorem Work.postBoth_asks (w : Work) (b : Block) (n : Notice) : (w.postBoth b n).asks = w.asks := rfl
@[simp] theorem Work.postBoth_carriers (w : Work) (b : Block) (n : Notice) : (w.postBoth b n).carriers = w.carriers := rfl
@[simp] theorem Work.postBoth_fires (w : Work) (b : Block) (n : Notice) : (w.postBoth b n).fires = w.fires := rfl
@[simp] theorem Work.postBoth_fireCount (w : Work) (b : Block) (n : Notice) : (w.postBoth b n).fireCount = w.fireCount := rfl
@[simp] theorem Work.postBoth_windows (w : Work) (b : Block) (n : Notice) : (w.postBoth b n).windows = w.windows := rfl
@[simp] theorem Work.postBoth_armCount (w : Work) (b : Block) (n : Notice) : (w.postBoth b n).armCount = w.armCount := rfl
@[simp] theorem Work.postBoth_plan (w : Work) (b : Block) (n : Notice) : (w.postBoth b n).plan = w.plan := rfl
@[simp] theorem Work.postBoth_nextId (w : Work) (b : Block) (n : Notice) : (w.postBoth b n).nextId = w.nextId := rfl
@[simp] theorem Work.postBoth_submitCount (w : Work) (b : Block) (n : Notice) : (w.postBoth b n).submitCount = w.submitCount := rfl
@[simp] theorem Work.postBoth_dist (w : Work) (b : Block) (n : Notice) : (w.postBoth b n).dist = w.dist := rfl
@[simp] theorem Work.postBoth_polls (w : Work) (b : Block) (n : Notice) : (w.postBoth b n).polls = w.polls := rfl
@[simp] theorem Work.postBoth_ringA (w : Work) (b : Block) (n : Notice) : (w.postBoth b n).ringA = w.ringA := rfl
@[simp] theorem Work.postBoth_ringB (w : Work) (b : Block) (n : Notice) : (w.postBoth b n).ringB = w.ringB := rfl

@[simp] theorem Work.clearDest_points (w : Work) (k : Nat) : (w.clearDest k).points = w.points := by
  unfold Work.clearDest; repeat' split
  all_goals rfl
@[simp] theorem Work.clearDest_asks (w : Work) (k : Nat) : (w.clearDest k).asks = w.asks := by
  unfold Work.clearDest; repeat' split
  all_goals rfl
@[simp] theorem Work.clearDest_fires (w : Work) (k : Nat) : (w.clearDest k).fires = w.fires := by
  unfold Work.clearDest; repeat' split
  all_goals rfl
@[simp] theorem Work.clearDest_fireCount (w : Work) (k : Nat) : (w.clearDest k).fireCount = w.fireCount := by
  unfold Work.clearDest; repeat' split
  all_goals rfl
@[simp] theorem Work.clearDest_windows (w : Work) (k : Nat) : (w.clearDest k).windows = w.windows := by
  unfold Work.clearDest; repeat' split
  all_goals rfl
@[simp] theorem Work.clearDest_armCount (w : Work) (k : Nat) : (w.clearDest k).armCount = w.armCount := by
  unfold Work.clearDest; repeat' split
  all_goals rfl
@[simp] theorem Work.clearDest_plan (w : Work) (k : Nat) : (w.clearDest k).plan = w.plan := by
  unfold Work.clearDest; repeat' split
  all_goals rfl
@[simp] theorem Work.clearDest_nextId (w : Work) (k : Nat) : (w.clearDest k).nextId = w.nextId := by
  unfold Work.clearDest; repeat' split
  all_goals rfl
@[simp] theorem Work.clearDest_submitCount (w : Work) (k : Nat) : (w.clearDest k).submitCount = w.submitCount := by
  unfold Work.clearDest; repeat' split
  all_goals rfl
@[simp] theorem Work.clearDest_dist (w : Work) (k : Nat) : (w.clearDest k).dist = w.dist := by
  unfold Work.clearDest; repeat' split
  all_goals rfl
@[simp] theorem Work.clearDest_polls (w : Work) (k : Nat) : (w.clearDest k).polls = w.polls := by
  unfold Work.clearDest; repeat' split
  all_goals rfl
@[simp] theorem Work.clearDest_ringA (w : Work) (k : Nat) : (w.clearDest k).ringA = w.ringA := by
  unfold Work.clearDest; repeat' split
  all_goals rfl
@[simp] theorem Work.clearDest_ringB (w : Work) (k : Nat) : (w.clearDest k).ringB = w.ringB := by
  unfold Work.clearDest; repeat' split
  all_goals rfl
@[simp] theorem Work.clearDest_outbox (w : Work) (k : Nat) : (w.clearDest k).outbox = w.outbox := by
  unfold Work.clearDest; repeat' split
  all_goals rfl

@[simp] theorem Work.setDest_points (w : Work) (k c : Nat) : (w.setDest k c).points = w.points := by
  unfold Work.setDest; repeat' split
  all_goals rfl
@[simp] theorem Work.setDest_asks (w : Work) (k c : Nat) : (w.setDest k c).asks = w.asks := by
  unfold Work.setDest; repeat' split
  all_goals rfl
@[simp] theorem Work.setDest_fires (w : Work) (k c : Nat) : (w.setDest k c).fires = w.fires := by
  unfold Work.setDest; repeat' split
  all_goals rfl
@[simp] theorem Work.setDest_fireCount (w : Work) (k c : Nat) : (w.setDest k c).fireCount = w.fireCount := by
  unfold Work.setDest; repeat' split
  all_goals rfl
@[simp] theorem Work.setDest_windows (w : Work) (k c : Nat) : (w.setDest k c).windows = w.windows := by
  unfold Work.setDest; repeat' split
  all_goals rfl
@[simp] theorem Work.setDest_armCount (w : Work) (k c : Nat) : (w.setDest k c).armCount = w.armCount := by
  unfold Work.setDest; repeat' split
  all_goals rfl
@[simp] theorem Work.setDest_plan (w : Work) (k c : Nat) : (w.setDest k c).plan = w.plan := by
  unfold Work.setDest; repeat' split
  all_goals rfl
@[simp] theorem Work.setDest_nextId (w : Work) (k c : Nat) : (w.setDest k c).nextId = w.nextId := by
  unfold Work.setDest; repeat' split
  all_goals rfl
@[simp] theorem Work.setDest_submitCount (w : Work) (k c : Nat) : (w.setDest k c).submitCount = w.submitCount := by
  unfold Work.setDest; repeat' split
  all_goals rfl
@[simp] theorem Work.setDest_dist (w : Work) (k c : Nat) : (w.setDest k c).dist = w.dist := by
  unfold Work.setDest; repeat' split
  all_goals rfl
@[simp] theorem Work.setDest_polls (w : Work) (k c : Nat) : (w.setDest k c).polls = w.polls := by
  unfold Work.setDest; repeat' split
  all_goals rfl
@[simp] theorem Work.setDest_ringA (w : Work) (k c : Nat) : (w.setDest k c).ringA = w.ringA := by
  unfold Work.setDest; repeat' split
  all_goals rfl
@[simp] theorem Work.setDest_ringB (w : Work) (k c : Nat) : (w.setDest k c).ringB = w.ringB := by
  unfold Work.setDest; repeat' split
  all_goals rfl
@[simp] theorem Work.setDest_outbox (w : Work) (k c : Nat) : (w.setDest k c).outbox = w.outbox := by
  unfold Work.setDest; repeat' split
  all_goals rfl

@[simp] theorem Work.setRing_fireCount (w : Work) (br : Branch) (r : Ring) : (w.setRing br r).fireCount = w.fireCount := by
  cases br <;> rfl
@[simp] theorem Work.setRing_armCount (w : Work) (br : Branch) (r : Ring) : (w.setRing br r).armCount = w.armCount := by
  cases br <;> rfl
@[simp] theorem Work.setRing_nextId (w : Work) (br : Branch) (r : Ring) : (w.setRing br r).nextId = w.nextId := by
  cases br <;> rfl
@[simp] theorem Work.setRing_submitCount (w : Work) (br : Branch) (r : Ring) : (w.setRing br r).submitCount = w.submitCount := by
  cases br <;> rfl

/-! ## The branches -/

@[simp] theorem Work.withdraw_ring (w : Work) (keep : Job → Bool) (br : Branch) :
    (w.withdraw keep).ring br = (w.ring br).withdraw keep := by cases br <;> rfl

@[simp] theorem Work.setPoint_ring (w : Work) (p : Point) (br : Branch) : (w.setPoint p).ring br = w.ring br := by
  cases br <;> rfl
@[simp] theorem Work.closeAsk_ring (w : Work) (tag : Nat) (br : Branch) : (w.closeAsk tag).ring br = w.ring br := by
  cases br <;> rfl
@[simp] theorem Work.setCarrier_ring (w : Work) (k : Nat) (c : Carrier) (br : Branch) : (w.setCarrier k c).ring br = w.ring br := by
  cases br <;> rfl
@[simp] theorem Work.setLoad_ring (w : Work) (k : Nat) (x : LoadState) (br : Branch) : (w.setLoad k x).ring br = w.ring br := by
  cases br <;> rfl
@[simp] theorem Work.setEntry_ring (w : Work) (e : Entry) (br : Branch) : (w.setEntry e).ring br = w.ring br := by
  cases br <;> rfl
@[simp] theorem Work.setTrial_ring (w : Work) (t : Trial) (br : Branch) : (w.setTrial t).ring br = w.ring br := by
  cases br <;> rfl
@[simp] theorem Work.dropWindow_ring (w : Work) (n : Nat) (br : Branch) : (w.dropWindow n).ring br = w.ring br := by
  cases br <;> rfl
@[simp] theorem Work.setRow_ring (w : Work) (tag : Nat) (x : RowState) (br : Branch) : (w.setRow tag x).ring br = w.ring br := by
  cases br <;> rfl
@[simp] theorem Work.postBoth_ring (w : Work) (b : Block) (n : Notice) (br : Branch) :
    (w.postBoth b n).ring br = w.ring br := by cases br <;> rfl
@[simp] theorem Work.clearDest_ring (w : Work) (k : Nat) (br : Branch) : (w.clearDest k).ring br = w.ring br := by
  cases br
  · exact Work.clearDest_ringA ..
  · exact Work.clearDest_ringB ..
@[simp] theorem Work.setDest_ring (w : Work) (k c : Nat) (br : Branch) : (w.setDest k c).ring br = w.ring br := by
  cases br
  · exact Work.setDest_ringA ..
  · exact Work.setDest_ringB ..

/-- DELIVERED comes of a HIT alone, so the d it counts is that of the verdict (R127). -/
theorem outcomeTable_delivered {r : ItemReply} {v : Verdict} (h : (outcomeTable r v).1 = .delivered) :
    v = .hit v.hitDev := by
  cases v <;> cases r <;> simp_all [outcomeTable, Verdict.hitDev]

end Sys2Proof.Machine
end

