-- ==== Sys2Proof/Tests/Slice0.lean ====
section
/-! SUPPORT. The model's own tests: the refusals of WellFormed, at most two small steps for each command with the
results that the worked examples of spec/ give or that follow from its tables by hand, and a witness for the
hypotheses of each statement. -/

namespace Sys2Proof.Tests

-- One theorem after another: hundreds of waiting `decide` proofs would each hold a thread and its stack.
set_option Elab.async false

open Sys2Proof Sys2Proof.Machine

/-! ## Small states -/

/-- The state a command leads to; every meaning answers one. -/
def after (o : Outcome) : State :=
  match o with
  | .next s => s
  | .fault _ => State.reset
  | .refused _ => State.reset

/-- The last answer formed on a link. -/
def lastAnswer (s : State) (k : Link) : Option Answer := ((s.port k).answers.getLast?).join

/-- The status of the last answer. -/
def status (s : State) (k : Link) : Option Status := (lastAnswer s k).map Answer.status

def body (s : State) (k : Link) : List Field := ((lastAnswer s k).map Answer.body).getD []

/-- The loop of the worked cases of chapter 2: L = 192,000, N = 320, P = 600, E = 20,000, S = 60, latency 4 ms. -/
def geo : Geometry where
  length := 192000
  carriers := 320
  pitch := 600
  scale := 20000
  homeTol := 50
  grace := 150
  slack := 60
  latency := 4
  vmax := 4000
  jog := 190500
  linkBranch := .a
  linkNode := 3
  maxAge := 400

/-- The same loop as a request body. -/
def geoFields : GeometryFields := ⟨192000, 320, 600, 20000, 50, 150, 60, 4, 4000, 190500, 1, 3, 400⟩

/-- LOCKED and steady at 2,500 mm/s at position `x` of revolution `rev`. -/
def running (x rev : Nat) : Tracker :=
  { Tracker.initial false false with
    geometry := some geo, lock := .locked, pos := some x, homeDist := x, revolution := rev, motion := .moving,
    still := 0, v := 2500, steady := true, run := 250, setpoint := 2500, samples := List.replicate 8 10 }

/-- A branch that is RUNNING with node 3 ONLINE and a frame on its downlink. -/
def busyRing : Ring :=
  { Ring.initial with
    state := .running, signal := true, downlink := some .enumerate
    nodes := (List.replicate 126 Node.initial).set 2 ⟨.online, some .carrierLink, 16, false, 0⟩ }

/-- Chute 7,020 of 6.8, in LINE custody and IN_SERVICE. -/
def chute : Point where
  tag := 7020
  kind := .chute
  config := ⟨48300, 0, 100, 4, none, some 4117, some 120, some .left⟩
  route := none
  custody := .line
  service := .inService
  proof := .proven
  record := none
  prior := none

/-- Sensor 4,117 of 3.6, in CONSOLE custody, at (A, 3, 5). -/
def sensor : Point where
  tag := 4117
  kind := .sensor
  config := ⟨191750, 12, 40, 2, some .rising, none, none, none⟩
  route := some ⟨.a, 3, 5⟩
  custody := .console
  service := .outOfService
  proof := .unproven
  record := none
  prior := none

/-- Induct 9,310 of 7.7, in LINE custody, at (A, 3, 6). -/
def induct : Point where
  tag := 9310
  kind := .induct
  config := ⟨10000, 0, 100, 1, some .rising, none, none, none⟩
  route := some ⟨.a, 3, 6⟩
  custody := .line
  service := .inService
  proof := .proven
  record := none
  prior := none

/-- A drive in zone 6, in CONSOLE custody, at (A, 3, 7). -/
def drive : Point where
  tag := 9900
  kind := .zoneDrive
  config := ⟨0, 0, 100, 6, none, none, none, none⟩
  route := some ⟨.a, 3, 7⟩
  custody := .console
  service := .outOfService
  proof := .unproven
  record := none
  prior := none

/-- A carrier with a load for a link. -/
def loaded (k : Link) (ref : BitVec 32) (dest : Option Nat) : Carrier := ⟨.loaded k ref dest, .unproven, none, none⟩

/-- Sixteen carriers, enough for these tests: carrier 7 loaded for the line with load ref 880,114. -/
def carriers : List Carrier := (List.replicate 16 newCarrier).set 7 (loaded .line 880114 none)

/-- The part at position 30,000 in revolution 12, with the register, the carriers and branch A above. -/
def base : State :=
  { State.reset with
    loop := ⟨running 30000 12, 0, 0⟩
    work := { Work.initial with points := [sensor, chute, induct, drive], carriers := carriers, ringA := busyRing } }

/-- `base` with another core. -/
def baseWith (f : Work → Work) : State := { base with work := f base.work }

/-- The entry of 6.8: carrier 7 to chute 7,020. -/
def entry : Entry where
  seq := 0
  carrier := 7
  chute := some 7020
  origin := .lineDischarge
  owner := .line
  trial := none
  nominal := 52500
  firePoint := 52190
  misses := 0
  state := .waiting
  requested := false
  lastPassed := none
  ref := 880114
  orphan := false

def withEntry (e : Entry) (w : Work) : Work :=
  { w with fires := [e], fireCount := 1, carriers := w.carriers.set 7 (loaded .line 880114 (some 7020)) }

/-- A ZONE_DRIVE trial on the drive, ACTIVE, with its poll timer running. -/
def driveTrial : Trial :=
  { newTrial Work.initial 1 .zoneDrive ⟨3, 9900, 5, 3, 60, some 50, none, none⟩ with state := .active }

def withTrial (t : Trial) (w : Work) : Work :=
  { w.setPoint { drive with proof := .inTrial, prior := some .unproven } with
    plan := [t], polls := [⟨1, 100⟩], nextId := 2, submitCount := 1 }

/-- A relay of the line to the sensor, with request tag 9. -/
def relay : Job := .relay .line 9 4117 .speed ⟨.a, 3, 5⟩

def withRing (r : Ring) (w : Work) : Work := w.setRing .a r

/-- The part with tracker `t`, fence states `z` and another core. -/
def onLoop (t : Tracker) (z : BitVec 8) (f : Work → Work) : State := { baseWith f with loop := ⟨t, z, 0⟩ }

/-- Nothing waits to be posted, and no distribution is over. -/
theorem quiet_of (s : State) (h : s.work.outbox = [] ∧ s.work.dist.all (fun d => !d.over) = true) : s.Quiet :=
  ⟨h.1, fun d hd => by have := h.2; rw [hd] at this; simpa using this⟩

/-- A port takes a request at once when nothing waits there. -/
theorem takes_of (s : State) (k : Link)
    (h : (s.work.outbox = [] ∧ s.work.dist.all (fun d => !d.over) = true) ∧ (s.port k).intake = [] ∧
      (s.port k).breakHeld = false ∧ (s.port k).rx = [] ∧ (s.port k).hunting = false) : s.Takes k :=
  ⟨quiet_of s h.1, h.2⟩

theorem base_takes (f : Work → Work) (k : Link)
    (h : (f base.work).outbox = [] ∧ (f base.work).dist.all (fun d => !d.over) = true := by exact ⟨rfl, rfl⟩) :
    (baseWith f).Takes k :=
  takes_of _ k ⟨h, by cases k <;> exact ⟨rfl, rfl, rfl, rfl⟩⟩

theorem base_quiet (f : Work → Work)
    (h : (f base.work).outbox = [] ∧ (f base.work).dist.all (fun d => !d.over) = true := by exact ⟨rfl, rfl⟩) :
    (baseWith f).Quiet := (base_takes f .line h).1

theorem loop_takes (t : Tracker) (z : BitVec 8) (f : Work → Work) (k : Link)
    (h : (f base.work).outbox = [] ∧ (f base.work).dist.all (fun d => !d.over) = true := by exact ⟨rfl, rfl⟩) :
    (onLoop t z f).Takes k :=
  takes_of _ k ⟨h, by cases k <;> exact ⟨rfl, rfl, rfl, rfl⟩⟩

theorem loop_quiet (t : Tracker) (z : BitVec 8) (f : Work → Work)
    (h : (f base.work).outbox = [] ∧ (f base.work).dist.all (fun d => !d.over) = true := by exact ⟨rfl, rfl⟩) :
    (onLoop t z f).Quiet := (loop_takes t z f .line h).1

/-! ## WellFormed -/

/-- Each check of each request's fields refuses a value one beyond its field. -/
theorem test_wellFormed_refuses_geometry :
    ([{ geoFields with length := 4294967296 }, { geoFields with carriers := 65536 }, { geoFields with pitch := 65536 },
      { geoFields with scale := 4294967296 }, { geoFields with homeTol := 65536 }, { geoFields with grace := 65536 },
      { geoFields with slack := 65536 }, { geoFields with latency := 256 }, { geoFields with vmax := 65536 },
      { geoFields with jog := 4294967296 }, { geoFields with linkBranch := 256 }, { geoFields with linkNode := 256 },
      { geoFields with maxAge := 65536 }].any fun g => (Instr.loadGeometry 1 g).wellFormed) = false := by decide

def pointFields' : PointFields := ⟨4117, 1, 191750, 12, 40, 2, some 1, none, none, none⟩

theorem test_wellFormed_refuses_point :
    ([{ pointFields' with tag := 65536 }, { pointFields' with kind := 256 }, { pointFields' with loc := 4294967296 },
      { pointFields' with bias := 32768 }, { pointFields' with bias := -32769 }, { pointFields' with tol := 65536 },
      { pointFields' with zone := 256 }, { pointFields' with edge := some 256 },
      { pointFields' with entry := some 65536 }, { pointFields' with throw := some 65536 },
      { pointFields' with side := some 256 }].any fun p => (Instr.writePoint 1 p).wellFormed) = false := by decide

def windowFields : WindowFields := ⟨0, 1, 4096, 65280, 1, none, 10, 3⟩

theorem test_wellFormed_refuses_window :
    ([{ windowFields with number := 256 }, { windowFields with enabled := 256 }, { windowFields with base := 65536 },
      { windowFields with mask := 65536 }, { windowFields with mode := 256 },
      { windowFields with weight := some 65536 }, { windowFields with nodeBase := 256 },
      { windowFields with perms := 256 }].any fun x => (Instr.writeWindow 1 x).wellFormed) = false := by decide

def trialFields : TrialFields := ⟨3, 9900, 5, 3, 60, some 50, none, none⟩

theorem test_wellFormed_refuses_trial :
    ([{ trialFields with kind := 256 }, { trialFields with target := 65536 }, { trialFields with need := 256 },
      { trialFields with limit := 256 }, { trialFields with time := 65536 }, { trialFields with band := some 65536 },
      { trialFields with jogSpeed := some 65536 }, { trialFields with jogTime := some 65536 }].any fun t =>
      (Instr.submitTrial 1 t).wellFormed) = false := by decide

theorem test_wellFormed_refuses_list_and_capture :
    (([⟨65536, 1, none, none, none⟩, ⟨1, 256, none, none, none⟩, ⟨1, 1, some 256, none, none⟩,
       ⟨1, 1, none, some 256, none⟩, ⟨1, 1, none, none, some 256⟩].any fun (q : ListFields) =>
        (Instr.listPoints .line 1 q).wellFormed) ||
     ([⟨256, 1, 0, 1, 0, none⟩, ⟨0, 65536, 0, 1, 0, none⟩, ⟨0, 1, 256, 1, 0, none⟩, ⟨0, 1, 0, 256, 0, none⟩,
       ⟨0, 1, 0, 1, 256, none⟩, ⟨0, 1, 0, 1, 0, some 65536⟩].any fun (c : CaptureFields) =>
        (Instr.captureSet .line 1 c).wellFormed)) = false := by decide

/-- The operands of one number, and the pairs. -/
theorem test_wellFormed_refuses_numbers :
    ([.deletePoint 1 65536, .cancelTrial 1 256, .take 1 65536, .giveBack 1 65536, .restartBranch 1 256,
      .setLoopSpeed 1 65536, .setService 1 65536 1, .setService 1 1 256, .answerAsk 1 65536 1, .answerAsk 1 1 256,
      .discharge .line 1 65536 1, .discharge .line 1 1 65536, .cancelDischarge .line 1 65536,
      .clearCarrier .line 1 65536, .readPoint .line 1 65536, .readWindow .line 1 256, .readCarrier .line 1 65536,
      .readTrial .line 1 256, .readBranch .line 1 256, .nodeQuery .line 1 65536 1, .nodeQuery .line 1 1 256,
      .captureStop .line 1 256, .captureOff .line 1 256, .captureRead .line 1 256 1, .captureRead .line 1 1 256,
      .fetchNotices .line 1 256, .replyDeadlineExpiry .a 256, .askTimerExpiry 65536, .trialTimeExpiry 256,
      .pollTimerExpiry 256].any Instr.wellFormed) = false := by decide

/-- A request tag of 256 is refused on every request. -/
theorem test_wellFormed_refuses_request_tags :
    ([.loadGeometry 256 geoFields, .writePoint 256 pointFields', .deletePoint 256 1, .clearRegister 256,
      .writeWindow 256 windowFields, .submitTrial 256 trialFields, .cancelTrial 256 1, .take 256 1, .giveBack 256 1,
      .restartBranch 256 1, .setLoopSpeed 256 1, .setService 256 1 1, .answerAsk 256 1 1, .discharge .line 256 1 1,
      .cancelDischarge .line 256 1, .clearCarrier .line 256 1, .readPoint .line 256 1,
      .listPoints .line 256 ⟨1, 1, none, none, none⟩, .readWindow .line 256 1, .readCarrier .line 256 1,
      .readTracker .line 256, .readTrial .line 256 1, .readBranch .line 256 1, .nodeQuery .line 256 1 1,
      .digest .line 256, .captureSet .line 256 ⟨0, 1, 0, 1, 0, none⟩, .captureStop .line 256 1,
      .captureOff .line 256 1, .captureRead .line 256 1 1, .fetchNotices .line 256 1].any Instr.wellFormed) = false := by
  decide

/-- The fields of uplink frames. -/
theorem test_wellFormed_refuses_uplink :
    ([.eventFrame .a ⟨256, 0, false, false, 0, 0⟩, .eventFrame .a ⟨1, 256, false, false, 0, 0⟩,
      .eventFrame .a ⟨1, 0, false, false, 65536, 0⟩, .replyFrame .a ⟨256, 1, 1, 0, false⟩,
      .replyFrame .a ⟨0, 256, 1, 0, false⟩, .replyFrame .a ⟨0, 1, 256, 0, false⟩, .replyFrame .a ⟨0, 1, 1, 65536, false⟩,
      .announceFrame .a ⟨256, 1, 1⟩, .announceFrame .a ⟨1, 256, 1⟩, .announceFrame .a ⟨1, 1, 256⟩].any
      Instr.wellFormed) = false := by decide

/-- Values at the top of their fields are well formed. -/
theorem test_wellFormed_accepts :
    ([.loadGeometry 255 ⟨4294967295, 65535, 65535, 4294967295, 65535, 65535, 65535, 255, 65535, 4294967295, 255, 255,
        65535⟩,
      .writePoint 255 ⟨65535, 255, 4294967295, -32768, 65535, 255, some 255, some 65535, some 65535, some 255⟩,
      .powerOn ⟨false, false, 0, false, false⟩, .resetPin ⟨true, true, 255, true, true⟩, .breakBegin .line,
      .portReset .line, .breakEnd .line, .requestFrame .line [], .encoderEvent true false, .homeEvent,
      .sampleTimerExpiry, .zoneFenced 7, .zoneUnfenced 7, .ringSignalLost .b, .ringSignalReturned .b,
      .announcePeriodEnd .b, .uplinkBadFrame .b [], .downlinkFrameEnd .b, .digestWalkComplete,
      .answerFrameSent .console].all Instr.wellFormed) = true := by decide

/-! ## Arithmetic and layouts -/

/-- The check value of the CRC-16 with polynomial 0x1021 and initial value 65,535. -/
theorem test_crc16_check : crc16 [49, 50, 51, 52, 53, 54, 55, 56, 57] = 0x29B1 := by decide +kernel

/-- R7: an advance of 80 mm is 2,500 mm/s and one of 81 mm 2,531. -/
theorem test_speed : speedOf 80 = 2500 ∧ speedOf 81 = 2531 ∧ speedOf (-1) = 0 ∧ speedOf 2098 = 65535 := by decide

/-- R22, R27: −18 and +18; half a loop is ahead; 12 against L − 20 gives 32. -/
theorem test_signedDiff : signedDiff 192000 3962 3980 = -18 ∧ signedDiff 192000 3980 3962 = 18 ∧
    signedDiff 192000 96000 0 = 96000 ∧ signedDiff 192000 0 96000 = 96000 ∧ signedDiff 192000 12 191980 = 32 := by
  decide

/-- 7.7: Xc 13,630 at the induct is carrier 6 with d = +30; just below a whole loop it is carrier 0 with d < 0. -/
theorem test_attribution : attribution geo 10000 0 13630 = (6, 30) ∧ attribution geo 10000 0 9950 = (0, -50) := by
  decide

/-- 6.8: nominal 52,500 and fire point 52,190. -/
theorem test_firePoint : nominalPos geo 48300 7 = 52500 ∧ firePointOf geo 52500 120 2500 = 52190 := by decide

/-- 4.5: the interleaved window of base 8,192, w = 16, node base 20. -/
theorem test_translate :
    ([8229, 8245, 8207, 8447].map
      (RouteWindow.translate ⟨true, 8192, 65280, .interleaved, some 16, 20, true, false⟩)) =
    [⟨.a, 21, 5⟩, ⟨.b, 21, 5⟩, ⟨.a, 20, 15⟩, ⟨.b, 27, 15⟩] := by decide

/-! ## Steps -/

/-- A step takes the front of the queue. -/
theorem test_step : (after (step { base with pending := [.zoneFenced 4, .zoneUnfenced 4] })).pending = [.zoneUnfenced 4] ∧
    (after (step { base with pending := [.zoneFenced 4, .zoneUnfenced 4] })).loop.fences = 16 := by decide

/-! ## Resets and links -/

/-- R20, R73, R144, R173: zone 4 low reads STOP, branch A with signal enumerates. -/
theorem test_powerOn :
    let s := after (exec (.powerOn ⟨true, false, 0xEF, true, false⟩) base)
    s.loop.fences = 0x10 ∧ s.line.notices = [.started .power 0x10] ∧ s.loop.tracker.lock = .noGeometry ∧
    s.work.ringA.state = .enumerating ∧ s.work.ringB.state = .down := by decide

theorem test_resetPin :
    let s := after (exec (.resetPin ⟨true, false, 0xFF, false, true⟩) base)
    s.console.notices = [.started .pin 0] ∧ s.work.points = [] ∧ s.loop.tracker.encA = true ∧
    s.work.ringB.downlink = some .enumerate := by decide

/-- R166, R174: a frame that a break cuts short is BAD_FRAME with tag 0. -/
theorem test_breakBegin :
    let s := after (exec (.breakBegin .line) { base with line := { base.line with rx := [165] } })
    s.line.answers = [some ⟨0, 0, .badFrame, []⟩] ∧ s.line.ready = false := by decide

/-- 12.5: STARTED(PORT) and the ask with the 20 s that remain. -/
theorem test_portReset :
    let s := after (exec (.portReset .line)
      { baseWith (fun w => { w with asks := [⟨7020, .asked 20000⟩] }) with
        line := { base.line with overflow := true, intake := [⟨1, .take 1⟩], answers := [none] } })
    s.line.notices = [.started .port 0, .custodyAsk 7020 .chute 20000] ∧ s.line.overflow = false ∧
    s.line.intake = [] ∧ s.line.answers = [] := by decide

theorem test_breakEnd :
    (after (exec (.breakEnd .line) { base with line := { base.line with breakHeld := true } })).line.ready = true := by
  decide

/-- A READ_POINT of 4,117 with request tag 200, written out byte by byte; its CRC-16 was formed outside the model. -/
theorem test_requestFrame :
    (after (exec (.requestFrame .line [165, 0, 4, 200, 17, 0x10, 0x15, 132, 197]) base)).line.intake =
      [⟨200, .readPoint 4117⟩] ∧
    (after (exec (.requestFrame .line [165, 0, 4, 200, 17, 0x10, 0x15, 132, 198]) base)).line.answers =
      [some ⟨0, 0, .badFrame, []⟩] := by decide +kernel

/-- An answer of NOT_FOUND to READ_POINT with tag 7, written out byte by byte. -/
theorem test_answerFrameSent :
    (after (exec (.answerFrameSent .line)
      { base with line := { base.line with answers := [some ⟨7, 17, .notFound, []⟩] } })).line.wire =
      [165, 0, 3, 7, 17, 6, 95, 196] := by decide +kernel

/-- 12.5: a fetch of 6 from a full queue leaves 58 and reports the marker. -/
theorem test_fetchNotices :
    let s := after (exec (.fetchNotices .line 1 6)
      { base with line := { base.line with notices := List.replicate 64 (.fence 1 true 2), overflow := true } })
    s.line.notices.length = 58 ∧ s.line.overflow = false ∧ (body s .line).take 5 = [.u8 58, .u8 1, .u8 6, .u8 12, .u8 3] := by
  decide

/-! ## The tracker -/

theorem test_loadGeometry :
    (after (exec (.loadGeometry 1 geoFields) State.reset)).loop.tracker.lock = .seeking ∧
    status (after (exec (.loadGeometry 1 { geoFields with jog := 192000 }) State.reset)) .console = some .invalid ∧
    status (after (exec (.loadGeometry 1 geoFields) base)) .console = some .busy := by decide

/-- 1.2: 60,000 and a forward count leave 14,464 after a step of 1 mm. -/
theorem test_encoderEvent_forward :
    let s := after (exec (.encoderEvent true false)
      { base with loop := { base.loop with tracker := { running 30000 12 with frac := 60000 } } })
    s.loop.tracker.frac = 14464 ∧ s.loop.tracker.pos = some 30001 ∧ s.loop.tracker.current = 1 := by decide

/-- 1.2: 10,000 and a reverse count leave 55,536 after a backward step of 1 mm. -/
theorem test_encoderEvent_reverse :
    let s := after (exec (.encoderEvent false true)
      { base with loop := { base.loop with tracker := { running 0 12 with frac := 10000 } } })
    s.loop.tracker.frac = 55536 ∧ s.loop.tracker.pos = some 191999 ∧ s.loop.tracker.homeDist = -1 := by decide

/-- R13: a home 10 mm late is accepted; R14: one at half a loop is rejected. -/
theorem test_homeEvent :
    let late := after (exec .homeEvent
      { base with loop := { base.loop with tracker := { running 10 12 with homeDist := 192010 } } })
    late.loop.tracker.revolution = 13 ∧ late.loop.tracker.correction = 10 ∧ late.loop.tracker.pos = some 0 ∧
    (after (exec .homeEvent base)).loop.tracker.rejected = 1 := by decide

/-- R7: seven stored advances of 10 and a sample of 11 make 81 mm, 2,531 mm/s; R65: an ask runs down by 4 ms. -/
theorem test_sampleTimerExpiry :
    let s := after (exec .sampleTimerExpiry
      { baseWith (fun w => { w with asks := [⟨7020, .asked 30000⟩] }) with
        loop := { base.loop with tracker := { running 30000 12 with current := 11 } } })
    s.loop.tracker.v = 2531 ∧ s.loop.tracker.current = 0 ∧ s.work.asks = [⟨7020, .asked 29996⟩] := by decide

theorem test_readTracker :
    (body (after (exec (.readTracker .line 1) base)) .line).drop 14 =
      [.u8 4, .u8 1, .u32 30000, .u8 1, .s32 30000, .u32 12, .u16 0, .u16 0, .s16 0, .u16 2500, .u8 0, .u8 2, .u8 1,
       .u16 2500] := by decide

/-! ## The register, the route windows and the digest -/

/-- The configuration of 3.6: window 0 and sensor 4,117, which the window routes to (A, 11, 5). -/
def window0 : RouteWindow := ⟨true, 4096, 65280, .a, none, 10, true, true⟩

def configured : State :=
  { State.reset with
    routes := window0 :: List.replicate 7 RouteWindow.initial
    work := { Work.initial with points := [{ sensor with route := some ⟨.a, 11, 5⟩ }] } }

theorem test_writePoint :
    let s := { configured with work := Work.initial }
    body (after (exec (.writePoint 1 pointFields') s)) .console = [.u8 1, .u8 1, .u8 1, .u8 11, .u8 5] ∧
    status (after (exec (.writePoint 1 { pointFields' with tol := 600 }) s)) .console = some .invalid ∧
    body (after (exec (.writePoint 1 pointFields') configured)) .console = [.u8 3] := by decide

/-- R41: the entry sensor of a chute is BUSY; the drive goes. -/
theorem test_deletePoint :
    status (after (exec (.deletePoint 1 4117) base)) .console = some .busy ∧
    (after (exec (.deletePoint 1 9900) base)).work.points = [sensor, chute, induct] := by decide

theorem test_clearRegister :
    body (after (exec (.clearRegister 1) base)) .console = [.u16 4] ∧
    (after (exec (.clearRegister 1) base)).work.points = [] := by decide

/-- 4.5, the last example: CONFLICT with 12,293 and 4,117, then one route changed and gained. -/
theorem test_writeWindow :
    let s : State := { configured with work := { configured.work with
      points := configured.work.points ++ [{ sensor with tag := 12293, route := none }] } }
    body (after (exec (.writeWindow 1 ⟨4, 1, 12288, 65520, 1, none, 11, 1⟩) s)) .console = [.u16 12293, .u16 4117] ∧
    body (after (exec (.writeWindow 1 ⟨4, 1, 12288, 65520, 1, none, 40, 1⟩) s)) .console = [.u16 1, .u16 1, .u16 0] := by
  decide

theorem test_readPoint :
    status (after (exec (.readPoint .line 1 1) base)) .line = some .notFound ∧
    (body (after (exec (.readPoint .line 1 4117) base)) .line).take 6 =
      [.u16 4117, .u8 1, .u32 191750, .s16 12, .u16 40, .u8 2] := by decide

/-- R46: the first CONSOLE record is the sensor, and the next is the drive. -/
theorem test_listPoints :
    let b := body (after (exec (.listPoints .line 1 ⟨1, 1, none, some 2, none⟩) base)) .line
    b.head? = some (.u16 4117) ∧ b.drop (b.length - 2) = [.u8 1, .u16 9900] := by decide

/-- R63: window 0 decides the sensor. -/
theorem test_readWindow :
    body (after (exec (.readWindow .line 1 0) configured)) .line =
      [.u8 1, .u16 4096, .u16 65280, .u8 1, .u8 0, .u8 10, .u8 3, .u16 1, .u16 0, .u16 0] := by decide

/-- 3.6: the digest of a fresh part is 16, 440 over no record; of the sensor and window 0 it is 35,962, 14,273. -/
theorem test_digest :
    (after (exec (.digest .line 1) State.reset)).digest = some ⟨16, 440, 0, false, true, false⟩ ∧
    (after (exec (.digest .console 1) configured)).digest = some ⟨35962, 14273, 1, false, false, true⟩ := by decide

theorem test_digestWalkComplete :
    let s := after (exec .digestWalkComplete { base with digest := some ⟨16, 440, 0, true, true, false⟩ })
    s.line.notices.getLast? = some (.digestDone 16 440 0 true) ∧ s.console.notices = base.console.notices ∧
    s.digest = none := by decide

/-! ## Custody and fencing -/

theorem test_take :
    let s := after (exec (.take 1 7020) base)
    status s .console = some .accepted ∧ s.line.notices.getLast? = some (.custodyAsk 7020 .chute 30000) ∧
    status (after (exec (.take 1 4117) base)) .console = some .ok := by decide

/-- R166: the frame's 165 ends the discarding of bytes; a frame not yet whole keeps the next from arriving. -/
theorem test_take_frame :
    let s (hunting : Bool) (rx : List Byte) : State :=
      { base with console := { base.console with hunting := hunting, rx := rx } }
    (after (exec (.take 1 4117) (s true []))).console.hunting = false ∧
    after (exec (.take 1 4117) (s false [165])) = s false [165] := by decide

theorem test_giveBack :
    let s := after (exec (.giveBack 1 9900) base)
    (s.work.point 9900).map Point.custody = some .line ∧
    s.line.notices.getLast? = some (.custodyReturned 9900 .zoneDrive .unproven) := by decide

theorem test_setService :
    ((after (exec (.setService 1 7020 2) base)).work.point 7020).map Point.service = some .outOfService ∧
    status (after (exec (.setService 1 4117 2) base)) .line = some .custody := by decide

theorem test_answerAsk :
    let s := after (exec (.answerAsk 1 7020 1) (baseWith fun w => { w with asks := [⟨7020, .asked 100⟩] }))
    (s.work.point 7020).map Point.custody = some .console ∧ s.work.asks = [] ∧
    s.console.notices.getLast? = some (.custodyDone 7020 true none) := by decide

theorem test_askTimerExpiry :
    let s := after (exec (.askTimerExpiry 7020) (baseWith fun w => { w with asks := [⟨7020, .asked 0⟩] }))
    s.work.asks = [] ∧ s.console.notices.getLast? = some (.custodyDone 7020 false (some .timeout)) := by decide

theorem test_zoneFenced :
    let s := after (exec (.zoneFenced 4) base)
    s.line.notices.getLast? = some (.fence 4 true 16) ∧ s.console.notices.getLast? = some (.fence 4 true 16) := by decide

/-- R136: an unfence commands the drive of the zone: its row is SENT and its request waits. -/
theorem test_zoneUnfenced :
    let s := after (exec (.zoneUnfenced 6) { base with loop := { base.loop with fences := 64 } })
    s.loop.fences = 0 ∧ s.work.dist = some ⟨2500, .unfence, [⟨9900, .sent 2500 false⟩]⟩ ∧
    s.work.ringA.driveq = [⟨.setSpeed 9900 2500, 3, 7, 0, false⟩] := by decide

/-! ## Carriers and fires -/

/-- 6.8: OK with nominal 52,500 and fire point 52,190. -/
theorem test_discharge :
    let s := after (exec (.discharge .line 1 7 7020) base)
    body s .line = [.u32 52500, .u32 52190] ∧ s.work.fires = [entry] := by decide +kernel

theorem test_cancelDischarge :
    let s := after (exec (.cancelDischarge .line 1 7) (baseWith (withEntry entry)))
    s.work.fires = [] ∧ s.line.notices.getLast? = some (.dischargeDone 7 7020 .cancelled 880114 0 12) ∧
    status (after (exec (.cancelDischarge .console 1 7) (baseWith (withEntry entry)))) .console = some .custody := by
  decide

/-- 6.9: the carrier was FAULT(DOUBLE_LOAD). -/
theorem test_clearCarrier :
    let s := after (exec (.clearCarrier .line 1 5) (baseWith fun w => w.setLoad 5 (.fault .doubleLoad)))
    body s .line = [.u8 3, .u8 1, .u8 1] ∧ s.work.isEmptyCarrier 5 = true := by decide

theorem test_readCarrier :
    (body (after (exec (.readCarrier .line 1 7) base)) .line).take 5 = [.u8 2, .u8 1, .u8 1, .u8 1, .u32 880114] := by
  decide

/-! ## Trials -/

theorem test_submitTrial :
    let s := after (exec (.submitTrial 1 trialFields) base)
    body s .console = [.u8 1] ∧ s.work.polls = [⟨1, 100⟩] ∧ s.work.plan.map Trial.state = [.active] ∧
    status (after (exec (.submitTrial 1 { trialFields with target := 7020 }) base)) .console = some .invalid := by decide

theorem test_cancelTrial :
    let s := after (exec (.cancelTrial 1 1) (baseWith (withTrial driveTrial)))
    s.work.plan = [] ∧ s.work.polls = [] ∧ (s.work.point 9900).map Point.proof = some .unproven := by decide

theorem test_trialTimeExpiry :
    let s := after (exec (.trialTimeExpiry 1) (baseWith (withTrial driveTrial)))
    (s.work.point 9900).map Point.proof = some .failed ∧
    s.console.notices.getLast? = some
      (.trialDone 1 .zoneDrive 9900 .failed (some .timeLimit) 0 0 0 0 12 none) := by decide

theorem test_pollTimerExpiry :
    let s := after (exec (.pollTimerExpiry 1) (baseWith (withTrial driveTrial)))
    s.work.ringA.driveq = [⟨.speedQuery 1 0, 3, 7, 0, false⟩] := by decide

theorem test_readTrial :
    (body (after (exec (.readTrial .line 1 1) (baseWith (withTrial driveTrial)))) .line).take 4 =
      [.u8 1, .u8 3, .u16 9900, .u32 0] ∧
    status (after (exec (.readTrial .line 1 0) base)) .line = some .invalid := by decide

/-- R105: a HIT is held with its d, a MISS with none. -/
theorem test_readTrial_items :
    let item (n : Nat) (v : Verdict) : Item := ⟨n, 7, 3, .fired, some v, none⟩
    let t : Trial := { newTrial Work.initial 1 .chute ⟨2, 7020, 5, 3, 60, none, none, none⟩ with
      state := .active, items := [item 1 (.hit (-12)), item 2 .miss] }
    let fields := body (after (exec (.readTrial .line 1 1) (baseWith fun w => { w with plan := [t] }))) .line
    fields.drop (fields.length - 15) =
      [.u16 1, .u16 7, .u8 2, .u8 1, .u8 1, .u8 1, .s16 (-12), .u8 0,
       .u16 2, .u16 7, .u8 2, .u8 1, .u8 4, .u8 0, .u8 0] := by decide

/-- R132: the speed is held at Vmax, over one drive. -/
theorem test_setLoopSpeed :
    let s := after (exec (.setLoopSpeed 1 5000) base)
    body s .line = [.u16 4000, .u16 1] ∧ s.loop.tracker.setpoint = 4000 := by decide

/-! ## The field ring -/

theorem test_restartBranch :
    let s := after (exec (.restartBranch 1 1) base)
    s.work.ringA.state = .enumerating ∧ s.console.notices.getLast? = some (.branch .a .enumerating .restart 0 (some false)) ∧
    body (after (exec (.restartBranch 1 2) base)) .console = [.u8 1] := by decide

theorem test_readBranch :
    body (after (exec (.readBranch .line 1 1) base)) .line =
      [.u8 3, .u8 1, .u16 0, .u16 0, .u16 0, .u16 0, .u16 0, .u8 3, .u8 2, .u8 1, .u8 4, .u16 16, .u8 0, .u16 0, .u16 0,
       .u16 0, .u16 16, .u16 0, .u16 0, .u16 0, .u16 0] := by decide +kernel

theorem test_nodeQuery :
    (after (exec (.nodeQuery .line 9 4117 1) base)).work.ringA.relayq = [⟨relay, 3, 5, 0, false⟩] ∧
    body (after (exec (.nodeQuery .line 9 7020 1) base)) .line = [.u16 0] := by decide

theorem test_ringSignalLost :
    let s := after (exec (.ringSignalLost .a) base)
    s.work.ringA.state = .down ∧ s.line.notices.getLast? = some (.branch .a .down .signalLost 1 (some true)) := by decide

theorem test_ringSignalReturned :
    let s := after (exec (.ringSignalReturned .b) base)
    s.work.ringB.state = .enumerating ∧ s.work.ringB.wire = [165, 1, 0xF1, 0xD1] := by decide

/-- R146: node 3 was ONLINE before the enumeration and did not announce itself. -/
theorem test_announcePeriodEnd :
    let s := after (exec (.announcePeriodEnd .a) (baseWith (withRing
      { Ring.initial with state := .enumerating, kept := some ((List.replicate 126 .absent).set 2 .online) })))
    s.work.ringA.state = .running ∧ s.line.notices.getLast? = some (.nodeState .a 3 .absent .notAnnounced) := by decide

/-- An ANNOUNCE of node 5 written out byte by byte, whole and with a wrong CRC-16. -/
theorem test_uplinkBadFrame :
    (after (exec (.uplinkBadFrame .a [165, 19, 5, 1, 16, 206, 76]) base)).work.ringA.stats.bad = 1 ∧
    (after (exec (.uplinkBadFrame .a [165, 99, 1]) base)).work.ringA.hunting = true := by decide +kernel

/-- R170: two frames arrive together, and the notice of the first joins the queue before that of the second. -/
theorem test_uplinkBadFrame_order :
    let frame (b : List Byte) : List Byte := 165 :: b ++ bigEndian 2 (crc16 b)
    let asked := baseWith (withRing { busyRing with table := [⟨2, relay, 3, 5, .query, 1, 10⟩] })
    (after (exec (.uplinkBadFrame .a (frame [18, 2, 3, 1, 9, 196, 0] ++ frame [19, 5, 1, 16])) asked)).line.notices.drop 1 =
      [.nodeReply 9 4117 .speed ⟨.a, 3, 5⟩ .done 2500, .nodeState .a 5 .online .announced] := by decide +kernel

theorem test_announceFrame :
    ((after (exec (.announceFrame .a ⟨5, 1, 16⟩) base)).work.ringA.node 5) = some ⟨.online, some .sensorNode, 16, false, 0⟩ ∧
    (after (exec (.announceFrame .a ⟨5, 1, 17⟩) base)).work.ringA.stats.bad = 1 := by decide

/-- 7.7: the load on carrier 6, d = +30, for the line. -/
theorem test_eventFrame :
    let s := after (exec (.eventFrame .a ⟨3, 6, false, false, 45, 880200⟩)
      { base with loop := { base.loop with tracker := running 13636 41 } })
    s.work.carrier 6 = some (loaded .line 880200 none) ∧
    s.line.notices.getLast? = some (.load 6 880200 9310 30 41) ∧ s.work.ringA.acks = [⟨3, false⟩] := by decide

/-- R91: DONE with the load gone delivers; R152: a reply without a transaction is an orphan. -/
theorem test_replyFrame :
    let sent := baseWith fun w => withRing { busyRing with table := [⟨0, .fire 0, 3, 0, .command, 1, 10⟩] }
      (withEntry { entry with state := .sent } w)
    (after (exec (.replyFrame .a ⟨0, 3, 1, 0, true⟩) sent)).line.notices.getLast? =
      some (.dischargeDone 7 7020 .delivered 880114 0 12) ∧
    (after (exec (.replyFrame .a ⟨1, 3, 1, 0, true⟩) sent)).work.ringA.stats.orphan = 1 := by decide

/-- 6.8: a grant 15 mm into the slack sends the DISCHARGE command, here written out byte by byte; a grant 72 mm past the
fire point counts a miss. -/
theorem test_downlinkFrameEnd :
    let due (x : Nat) : State :=
      { baseWith (fun w => withRing { busyRing with fireq := [⟨.fire 0, 3, 0, 0, false⟩] }
          (withEntry { entry with requested := true, lastPassed := some 12 } w)) with
        loop := { base.loop with tracker := running x 12 } }
    (after (exec (.downlinkFrameEnd .a) (due 52205))).work.ringA.wire = [165, 3, 0, 3, 0, 1, 0, 7, 1, 200, 169] ∧
    ((after (exec (.downlinkFrameEnd .a) (due 52262))).work.fires.map Entry.misses) = [1] := by decide +kernel

theorem test_replyDeadlineExpiry :
    let s := after (exec (.replyDeadlineExpiry .a 2) (baseWith (withRing
      { busyRing with table := [⟨2, relay, 3, 5, .query, 1, 10⟩] })))
    s.work.ringA.table = [] ∧
    s.line.notices.getLast? = some (.nodeReply 9 4117 .speed ⟨.a, 3, 5⟩ .timeout 0) := by decide

/-! ## Capture channels -/

/-- A channel in ACCEPT on the induct, owned by the console, with two records. -/
def record (n : Nat) : CaptureRecord := ⟨n, none, none, .rising, 45, false⟩

def channel : Channel := ⟨.accept, none, 9310, .console, 0, 2, .single 3 [record 1, record 2]⟩

def withChannel (c : Channel) : State := { base with channels := (List.replicate 8 none).set 1 (some c) }

/-- R160: two blocks hold 64 records; a target of 100 is applied as 64. -/
theorem test_captureSet :
    body (after (exec (.captureSet .line 1 ⟨0, 4117, 0, 2, 0, some 100⟩) base)) .line = [.u16 64, .u8 1, .u16 64] ∧
    status (after (exec (.captureSet .line 1 ⟨0, 9310, 2, 1, 0, none⟩) (withChannel channel))) .line = some .busy := by
  decide

theorem test_captureStop :
    body (after (exec (.captureStop .console 1 1) (withChannel channel))) .console = [.u16 2] ∧
    status (after (exec (.captureStop .line 1 1) (withChannel channel))) .line = some .notPermitted := by decide

theorem test_captureOff :
    (after (exec (.captureOff .line 1 1) (withChannel channel))).channels = List.replicate 8 none := by decide

theorem test_captureRead :
    let s := after (exec (.captureRead .console 1 1 1) (withChannel { channel with mode := .hold, reason := some .stopped }))
    body s .console = [.u32 1, .u8 0, .u8 0, .u8 1, .u16 45, .u8 0, .u16 1, .u8 3, .u8 1, .u8 4, .u8 0] ∧
    status (after (exec (.captureRead .console 1 1 1) (withChannel channel))) .console = some .busy := by decide

/-- 7.7: the offer of the load event reaches the target of three records: the channel is in HOLD(DONE). -/
theorem test_capture_fills :
    let s := after (exec (.eventFrame .a ⟨3, 6, false, true, 45, 0⟩)
      { withChannel channel with loop := { base.loop with tracker := running 13636 41 } })
    s.console.notices.getLast? = some (.captureReady 1 9310 .hold (some .done) 3 none) := by decide

/-! ## Witnesses: a state and operands that meet the hypotheses of each clause of each statement -/

/-- No channel is there, so none is in the way. -/
theorem no_channel {s : State} {P : Channel → Prop} (h : s.channels = List.replicate 8 none) :
    ∀ c : Channel, some c ∈ s.channels → P c := by
  intro c hc
  rw [h] at hc
  simp at hc

/-- A claim pass finds no other carrier, by looking at each of them. -/
theorem noClaimBut_of {w : Work} {e : Entry}
    (h : ∀ n < w.carriers.length, (w.carriers[n]?.any fun c => c.loadedFor .console) = true → n = e.carrier) :
    w.NoClaimBut e := by
  intro n c ref dest hc hl
  exact .inl (h n (List.getElem?_eq_some_iff.1 hc).1 (by rw [hc]; simp [Carrier.loadedFor, hl]))

/-- The core changed and kept, for witnesses on `base` itself. -/
theorem witness_idle : State.reset.pending = [] := rfl

theorem witness_LinkBreaksAndAnswers :
    let s (held : Bool) : State :=
      { base with line := { base.line with answers := [some ⟨7, 17, .notFound, []⟩], breakHeld := held } }
    base.Quiet ∧ ((s false).port .line).answers = some ⟨7, 17, .notFound, []⟩ :: [] ∧
    ((s false).port .line).breakHeld = false ∧ ((s true).port .line).breakHeld = true :=
  ⟨base_quiet id, rfl, rfl, rfl⟩

theorem witness_NoticesFetched : (baseWith id).Takes .line ∧ (1 : Nat) ≠ 0 := ⟨base_takes id .line, by decide⟩

theorem witness_RequestBodyRoundTrip :
    (Request.writePoint ⟨65535, 255, 4294967295, -32768, 65535, 255, some 255, some 65535, some 65535, some 255⟩).wellFormed
      = true ∧ (Request.writePoint ⟨0, 0, 0, 32767, 0, 0, none, none, none, none⟩).wellFormed = true := by decide

/-- A good frame; then frames that begin with another byte, with a length of 1 and of 1,025, and with a wrong CRC-16;
then unknown kinds and a body too long for its kind. -/
theorem witness_RequestFrameAdmitted :
    (base.port .line).breakHeld = false ∧ (base.port .line).rx = [] ∧ (base.port .line).hunting = false ∧
    (Request.fetchNotices 6).wellFormed = true ∧ (255 : Nat) < 256 ∧
    (3#8 : Byte) ≠ 165#8 ∧ (165#8 : Byte) ∉ ([4, 5] : List Byte) ∧ numberOf [0, 1] < 2 ∧ 1024 < numberOf [4, 1] ∧
    numberOf [0, 3] = ([4, 165, 9] : List Byte).length ∧ crc16 (0 :: 3 :: [4, 165, 9]) ≠ numberOf [0, 0] ∧
    (1022 : Nat) ≤ 1022 ∧ (30 : Nat) < 31 ∧ (31 : Nat) < 256 ∧ ¬(11 ≤ 10 ∧ 10 ≤ 30) ∧ (11 ≤ 15 ∧ 15 ≤ 30) ∧
    ([1] : List Byte).length ≠ 2 := by decide +kernel

theorem witness_EveryRequestAnsweredOnce :
    let s : State := { base with line := { base.line with intake := [⟨9, .digest⟩], answers := [none] } }
    (Instr.digest .line 9).request = some (.line, 9, .digest) ∧ base.Quiet ∧ s.Quiet ∧
    (base.port .line).breakHeld = false ∧ (base.port .line).intake = [] ∧ (base.port .line).rx = [] ∧
    (s.port .line).breakHeld = false ∧ (s.port .line).intake = ⟨9, .digest⟩ :: [] ∧
    (s.port .line).answers = [] ++ none :: [] ∧ (none : Option Answer) ∉ ([] : List (Option Answer)) ∧
    ({ base.line with breakHeld := true } : Port).intake = [] ∧ (⟨9, .digest⟩ : Held) ≠ ⟨8, .digest⟩ :=
  ⟨rfl, base_quiet id, base_quiet id, by decide⟩

theorem witness_ReadsChangeNothing :
    let w : RouteWindow := ⟨true, 4096, 65280, .a, none, 125, true, false⟩
    let s : State := { base with routes := w :: List.replicate 7 RouteWindow.initial }
    let u : Trial := { driveTrial with state := .queued }
    let t := baseWith (withTrial u)
    (baseWith id).Takes .console ∧ s.Takes .line ∧ State.reset.Takes .line ∧ t.Takes .line ∧
    ((1 : Nat) ≠ 0 ∧ 1 ≤ 16 ∧ 16 ≤ 16 ∧ (∀ x, some 4 = some x → 1 ≤ x ∧ x ≤ 4) ∧ ∀ x, some 2 = some x → 1 ≤ x ∧ x ≤ 2) ∧
    ¬(17 : Nat) ≤ 16 ∧ (¬∀ x, some 3 = some x → 1 ≤ x ∧ x ≤ 2) ∧
    s.routes[0]? = some w ∧ s.routes[8]? = none ∧ State.reset.loop.tracker.geometry = none ∧
    base.loop.tracker.geometry ≠ none ∧ base.work.carriers[16]? = none ∧
    base.work.carriers[7]? = some (loaded .line 880114 none) ∧ t.work.trial 1 = some u ∧ t.work.trial 255 = none :=
  ⟨base_takes id .console, takes_of _ _ (by decide), takes_of _ _ (by decide), base_takes _ .line,
    ⟨by decide, by decide, by decide, fun _ h => by cases h; decide, fun _ h => by cases h; decide⟩, by decide,
    fun h => absurd (h 3 rfl) (by decide), by decide⟩

/-! ### The laws, on a state that is not empty, with a step from it -/

/-- A trial on carrier 9's belt. -/
def beltTrial : Trial :=
  { newTrial Work.initial 2 .belt ⟨4, 9, 5, 3, 60, some 50, some 2500, some 100⟩ with state := .active, begun := true }

/-- A state in which every law speaks of something: trials, a fire, windows, a transaction, a channel, an ask, a
request. -/
def lively : State :=
  { withChannel channel with
    loop := { base.loop with tracker := { running 30000 12 with geometry := some { geo with carriers := 16 } } }
    work :=
      let w := withRing { busyRing with table := [⟨2, relay, 3, 5, .query, 4, 10⟩], acks := [⟨3, true⟩] }
        (withTrial driveTrial (withEntry entry base.work))
      { w with
        plan := [driveTrial, beltTrial]
        carriers := w.carriers.set 9 ⟨.empty, .inTrial, some .failed, none⟩
        windows := [⟨4117, 8, 100, 40, 290, .sensorPass, 1, none, false, 0⟩,
          ⟨4117, 9, 700, 40, 890, .sensorPass, 1, none, false, 1⟩]
        asks := [⟨7020, .asked 20000⟩] }
    line := { base.line with intake := [⟨9, .digest⟩], answers := [some ⟨1, 17, .notFound, []⟩, none] }
    pending := [.digest .line 9] }

theorem witness_QuietKept : lively.Quiet ∧ ∃ t, step lively = .next t := ⟨quiet_of _ (by decide), _, rfl⟩

theorem witness_PortLawKept : (lively.line.Law ∧ lively.console.Law) ∧ ∃ t, step lively = .next t :=
  ⟨by unfold Port.Law; decide, _, rfl⟩

theorem geo_law : geo.Law := by unfold Geometry.Law; decide

theorem witness_PositionLawKept :
    let s : State := { lively with loop := base.loop }
    s.loop.tracker.Law ∧ ∃ t, step s = .next t := by
  refine ⟨⟨?_, ?_, ?_, ?_, by decide⟩, _, rfl⟩
  · rintro g ⟨⟩; exact geo_law
  · decide
  · decide
  · rintro g x ⟨⟩ ⟨⟩; decide

theorem witness_RegisterLawKept :
    RegisterLaw lively.work.points ∧ lively.work.AskLaw ∧ ∃ t, step lively = .next t := by
  refine ⟨by unfold RegisterLaw; decide, ⟨by decide, by decide, ?_⟩, _, rfl⟩
  intro a ha
  obtain rfl : a = ⟨7020, .asked 20000⟩ := by simpa [lively] using ha
  exact ⟨chute, by decide⟩

theorem channel_law : channel.Law := by
  refine ⟨by decide, by decide, ?_⟩
  show 3 ≤ 32 * 2 ∧ 2 ≤ 32 * 2 ∧ (channel.mode = .accept → 2 < if 3 = 0 then 32 * 2 else 3)
  decide

theorem witness_CaptureLawKept : CaptureLaw lively.channels ∧ ∃ t, step lively = .next t := by
  refine ⟨⟨rfl, ?_, ?_⟩, _, rfl⟩
  · intro c hc
    simp [lively, withChannel] at hc
    exact hc ▸ channel_law
  · simp [lively, withChannel, List.replicate]

/-- A ring with at most two transactions breaks no limit of a node. -/
theorem ring_law {r : Ring} (h : r.table.length ≤ 2)
    (hr : (r.nodes.length = 126 ∧ (∀ x ∈ r.nodes, x.timeouts ≤ 3) ∧ (r.table.map Txn.tag).Nodup ∧
      ∀ x ∈ r.table, x.tag < 16 ∧ 1 ≤ x.attempts ∧ x.attempts ≤ 4) ∧ r.acks.length ≤ 32 ∧
      ∀ q ∈ r.waiting, q.attempts ≤ 3) : r.Law :=
  have few (f : Txn → Bool) : (r.table.filter f).length ≤ 2 := (List.length_filter_le _ _).trans h
  ⟨hr.1.1, hr.1.2.1, hr.1.2.2.1, by omega, hr.1.2.2.2, fun _ => ⟨(few _).trans (by decide), few _⟩, hr.2⟩

theorem witness_TransactionLawKept :
    (lively.work.ringA.Law ∧ lively.work.ringB.Law) ∧ ∃ t, step lively = .next t :=
  ⟨⟨ring_law (by decide) (by decide +kernel), ring_law (by decide) (by decide +kernel)⟩, _, rfl⟩

theorem lively_target : lively.work.TargetLaw := by
  intro t ht hk
  obtain rfl | rfl : t = driveTrial ∨ t = beltTrial := by simpa [lively] using ht
  · exact ⟨{ drive with proof := .inTrial, prior := some .unproven }, by decide⟩
  · exact absurd rfl hk

theorem witness_ListLawKept : (lively.work.ListLaw ∧ lively.work.TargetLaw) ∧ ∃ t, step lively = .next t := by
  refine ⟨⟨⟨by decide, by decide, by decide, ?_, by decide, by decide⟩, lively_target⟩, _, rfl⟩
  intro e he c hc
  obtain rfl : e = entry := List.mem_singleton.1 (show e ∈ [entry] from he)
  obtain rfl : c = 7020 := by simpa [entry] using hc.symm
  exact ⟨chute, by decide⟩

theorem lively_plan : lively.work.PlanLaw := by unfold Work.PlanLaw; decide

theorem lively_proof : lively.ProofLaw := by
  refine ⟨by decide, fun n c hc => ?_, by decide, ?_⟩
  · have h : ∀ n < 16, ∀ c ∈ lively.work.carriers[n]?,
        (c.proof = .inTrial ↔ ∃ t ∈ lively.work.plan, t.kind = .belt ∧ t.target = n) ∧
        (c.prior.isSome ↔ c.proof = .inTrial) ∧ c.prior ≠ some .inTrial := by decide
    exact h n (List.getElem?_eq_some_iff.1 hc).1 c hc
  · rintro g ⟨⟩; decide

theorem witness_PlanLawKept :
    (lively.work.PlanLaw ∧ lively.work.TargetLaw ∧ lively.ProofLaw) ∧ ∃ t, step lively = .next t :=
  ⟨⟨lively_plan, lively_target, lively_proof⟩, _, rfl⟩

theorem witness_LoopChangesOnlyAtItsEvents : ∃ t, exec (.zoneFenced 4) base = .next t := ⟨_, rfl⟩

theorem witness_RevolutionNeverDecreases : ∃ t, exec .homeEvent base = .next t := ⟨_, rfl⟩

/-! ### The tracker -/

theorem fields_inRange : geoFields.inRange := by unfold GeometryFields.inRange; decide

theorem witness_GeometryLoadChecks :
    (baseWith id).Takes .console ∧ ¬GeometryFields.inRange { geoFields with jog := 192000 } ∧ geoFields.inRange ∧
    (base.loop.tracker.lock ≠ .noGeometry ∧ base.loop.tracker.motion ≠ .stopped) ∧
    (State.reset.Takes .console ∧ State.reset.work.plan = [] ∧ State.reset.work.fires = [] ∧
      State.reset.loop.tracker.lock = .noGeometry) ∧
    (∃ p ∈ base.work.points, geoFields.length ≤ (p.config.loc + 250 : Nat)) ∧
    (¬∃ p ∈ State.reset.work.points, geoFields.length ≤ p.config.loc) :=
  ⟨base_takes id .console, by unfold GeometryFields.inRange; decide, fields_inRange, by decide,
    ⟨takes_of _ _ (by decide), by decide, by decide, by decide⟩, by decide, by decide⟩

/-- A point at the first place beyond the new loop, and one at the last place on it. -/
theorem witness_GeometryLoadChecks_outside :
    let s (loc : Nat) : State := { State.reset with
      work := { Work.initial with points := [{ drive with config := { drive.config with loc := loc } }] } }
    (s 192000).Takes .console ∧ (∃ p ∈ (s 192000).work.points, geoFields.length ≤ p.config.loc) ∧
    (s 191999).Takes .console ∧ ¬∃ p ∈ (s 191999).work.points, geoFields.length ≤ p.config.loc :=
  ⟨takes_of _ _ (by decide), by decide, takes_of _ _ (by decide), by decide⟩

theorem witness_GeometryLoadResets :
    let s := { base with loop := { base.loop with tracker := { running 30000 12 with motion := .stopped } } }
    s.Takes .console ∧ geoFields.inRange ∧ geoFields.linkBranch = Branch.code .a ∧ s.work.plan = [] ∧
    s.work.fires = [] ∧ s.loop.tracker.motion = .stopped ∧ ∀ p ∈ s.work.points, p.config.loc < geoFields.length :=
  ⟨takes_of _ _ (by decide), fields_inRange, by decide, by decide, by decide, by decide, by decide⟩

/-- At every tracker the core may be that of `base`: LOCKED at the end of the loop; without a geometry; SEEKING;
VERIFYING at the held home distance; one step short of the missed home; and at it. -/
theorem witness_EncoderMoves :
    let tr (l : Lock) (x : Option Nat) (a : Int) (n : Nat) : Tracker :=
      { running 0 12 with lock := l, pos := x, homeDist := a, frac := 60000, coast := n }
    let y : Window := ⟨4117, 3, 100, 40, 290, .sensorPass, 1, none, false, 0⟩
    let work (w : Work) : Work := { withEntry entry w with windows := [y] }
    let s (t : Tracker) := onLoop t 0 work
    let up := (60000 + geo.scale) / 65536
    (∀ t, (onLoop t 0 id).Quiet ∧ (s t).Quiet) ∧ base.work.plan = [] ∧ base.work.windows = [] ∧ (60000 : Nat) < 65536 ∧
    State.reset.loop.tracker.geometry = none ∧ (tr .seeking none 0 0).geometry = some geo ∧
    levelOf false false = levelOf (running 0 0).encA (running 0 0).encB ∧ levelOf true true = (levelOf false false + 2) % 4 ∧
    levelOf true false = (levelOf false false + 1) % 4 ∧ levelOf false false = (levelOf false true + 1) % 4 ∧
    (tr .verifying none 192051 0).lock = .verifying ∧ (20 : Nat) < geo.length ∧ up = 1 ∧
    (192049 : Int) + up ≤ geo.length + geo.homeTol ∧ (geo.length : Int) + geo.homeTol < 192050 + up ∧
    (∀ y ∈ (s (tr .locked (some 20) 192050 0)).work.windows, reaches geo.length 20 up y.close = false) ∧
    (∀ e ∈ (s (tr .locked (some 20) 192050 0)).work.fires, reaches geo.length 20 up e.firePoint = false) ∧
    (tr .coasting (some 20) 192050 1).coast < 2 ∧ 2 ≤ (tr .coasting (some 20) 192050 2).coast :=
  ⟨fun _ => ⟨loop_quiet _ _ _, loop_quiet _ _ _⟩, by decide⟩

theorem witness_HomeEvents :
    let tr (lock : Lock) (a : Int) (rejected : Nat) : Tracker :=
      { running 10 12 with lock := lock, homeDist := a, rejected := rejected }
    base.Quiet ∧ (tr .seeking 0 0).geometry = some geo ∧ base.work.plan = [] ∧ base.work.windows = [] ∧
    (tr .noGeometry 0 0).lock = .noGeometry ∧ (tr .seeking 0 0).lock = .seeking ∧
    ((tr .verifying 191949 0).lock = .verifying ∧ ¬((191949 : Int) - geo.length).natAbs ≤ geo.homeTol) ∧
    ((tr .verifying 191950 0).lock = .verifying ∧ ((191950 : Int) - geo.length).natAbs ≤ geo.homeTol) ∧
    ((tr .locked 192050 0).lock = .locked ∧ ((192050 : Int) - geo.length).natAbs ≤ geo.homeTol ∧
      (geo.length : Int) ≤ (tr .locked 192050 0).homeDist) ∧
    ((tr .coasting 192000 0).lock = .coasting ∧ ((192000 : Int) - geo.length).natAbs ≤ geo.homeTol) ∧
    ((tr .locked 192051 0).rejected = 0 ∧ ¬((192051 : Int) - geo.length).natAbs ≤ geo.homeTol) ∧
    1 ≤ (tr .locked 192051 1).rejected ∧ (tr .locked 192051 1).steady = true :=
  ⟨base_quiet id, by decide⟩

/-- A sample at a falling speed carries the fire point 52,190 back to 52,151. The position 52,185 lies between: the
entry is found due. At 52,155, with the fire point at 52,150 and asked for, nothing is crossed. A sample of no step
carries the fire point forward, over the position 52,205: the request is taken back. -/
theorem witness_SampleExpires :
    let tr (x : Nat) (n : Int) : Tracker := { running x 12 with steady := false, run := 0, current := n }
    let e (f : Nat) (asked : Bool) : Entry :=
      { entry with firePoint := f, requested := asked, lastPassed := if asked then some 12 else none }
    let s (x : Nat) (n : Int) (f : Nat) (asked : Bool) := onLoop (tr x n) 0 (withEntry (e f asked))
    let gap (y z : Nat) : Nat := (((z : Int) - y) % geo.length).toNat
    let point (v : Nat) : Nat := (((52500 : Int) - ((v * (120 + geo.latency) + 500) / 1000 : Nat)) % geo.length).toNat
    let v (n : Int) : Nat := (after (exec .sampleTimerExpiry (s 52155 n 52150 true))).loop.tracker.v
    (∀ x n f asked, (s x n f asked).Quiet) ∧ base.work.plan = [] ∧ base.work.fires = [] ∧ ¬(tr 0 20).current < 0 ∧
    ({ tr 0 0 with current := -1 } : Tracker).current < 0 ∧
    (after (exec .sampleTimerExpiry (s 52155 20 52150 true))).loop.tracker.steady = (tr 52155 20).steady ∧
    (running 0 1).lock = .locked ∧ v 20 = 2812 ∧ point 2812 = 52151 ∧ v 0 = 2187 ∧ point 2187 = 52229 ∧
    (signedDiff geo.length 52151 52190 < 0 ∧ gap 52151 52185 < gap 52151 52190) ∧
    (0 < signedDiff geo.length 52151 52150 ∧ ¬gap 52150 52155 < gap 52150 52151) ∧
    (0 < signedDiff geo.length 52229 52190 ∧ gap 52190 52205 < gap 52190 52229) ∧
    base.work.point 7020 = some chute ∧ (e 52190 false).lastPassed ≠ some 12 ∧ (tr 0 20).lock = .locked ∧
    base.loop.fences.getLsbD chute.config.zone = false ∧ (255#8 : BitVec 8).getLsbD chute.config.zone = true ∧
    busyRing.state = .running ∧ busyRing.nodeState geo.linkNode ≠ .silent ∧ busyRing.downlink ≠ none ∧
    ({ busyRing with state := .enumerating } : Ring).state ≠ .running ∧ (e 52190 false).misses < 2 ∧
    ({ e 52190 false with misses := 2 } : Entry).misses = 2 ∧ base.work.ask 7020 = none ∧ base.work.windows = [] :=
  ⟨fun _ _ _ _ => loop_quiet _ _ _, by decide⟩

/-- The flag rises at the 250th good sample, falls at a speed off the setpoint, and stays down. -/
theorem witness_SampleExpires_steady :
    let s (n : Int) (up : Bool) (run : Nat) :=
      onLoop { running 100 12 with current := n, steady := up, run := run } 0 (withEntry entry)
    let flag (n : Int) (up : Bool) (run : Nat) : Bool :=
      (after (exec .sampleTimerExpiry (s n up run))).loop.tracker.steady
    (∀ n up run, (s n up run).Quiet) ∧ flag 10 false 249 = true ∧ flag 20 true 250 = false ∧ flag 20 false 249 = false ∧
    (s 10 false 249).work.plan = [] :=
  ⟨fun _ _ _ => loop_quiet _ _ _, by decide⟩

theorem witness_SignedLoopDifference : (5494 : Nat) < 10989 ∧ (0 : Nat) < 10989 ∧ (95999 : Nat) < 192000 := by decide

theorem witness_AttributionIsUnique : geo.Law ∧ 191999 < geo.length ∧ 0 < geo.length := ⟨geo_law, by decide⟩

/-- 7.6: with a grace of 400 both windows of the sensor are reached at 4,900, and the nearer is chosen. -/
theorem witness_NearestWindowJudges :
    let g := { geo with grace := 400 }
    let x (k xexp order : Nat) : Window := ⟨4117, k, xexp, 40, xexp + 440, .sensorPass, 3, none, false, order⟩
    candidate g 4117 4900 { Work.initial with windows := [x 8 4562 0, x 9 5162 1] } = some (x 9 5162 1, -262) ∧
    candidate { g with grace := 150 } 4117 4900 { Work.initial with windows := [x 8 4562 0, x 9 5162 1] } = none := by
  decide

/-- A sensor trial with the window of carrier 3, which closes at 1,752. -/
def sensorTrial : Trial :=
  { newTrial Work.initial 1 .sensor ⟨1, 4117, 5, 3, 60, none, none, none⟩ with state := .active, armed := some 3 }

def sensorWindow : Window := ⟨4117, 3, 1562, 40, 1752, .sensorPass, 1, none, false, 7⟩

def watching (y : Window) (t : Trial) (w : Work) : Work := { w with plan := [t], windows := [y], armCount := 9 }

/-- The part one count before position `x + 1`. -/
def nearly (x : Nat) : Tracker := { running x 12 with frac := 60000 }

theorem firstDue_4 : FirstDue geo sensor 1752 4 := by
  refine ⟨by decide, by decide, ?_⟩
  decide +kernel

theorem firstDue_51 : FirstDue geo sensor 30000 51 := by
  refine ⟨by decide, by decide, ?_⟩
  decide +kernel

theorem firstDue_1 : FirstDue geo sensor 0 1 := by
  refine ⟨by decide, by decide, ?_⟩
  decide +kernel

/-- An early home at 191,970 moves forward by 30 mm, up to and with position 0: over a close at 0 and at 191,971, over a
fire point at 191,999 and at 0 (of the next pass revolution), and not over those at 191,970 and 1. -/
theorem witness_HomeEvents_early :
    let tr (lock : Lock) : Tracker := { running 191970 12 with lock := lock, homeDist := 191970 }
    let y (close : Nat) (coasted : Bool) : Window := { sensorWindow with close := close, coasted := coasted }
    let e (f : Nat) : Entry := { entry with firePoint := f }
    let watched (y : Window) := onLoop (tr .locked) 0 (watching y sensorTrial)
    let fired (lock : Lock) (e : Entry) (r : Ring) := onLoop (tr lock) 0 fun w => withRing r (withEntry e w)
    let span := ((geo.length : Int) - 191970).toNat
    (∀ y, (watched y).Quiet) ∧ (∀ lock e r, (fired lock e r).Quiet) ∧ geo.Law ∧ FirstDue geo sensor 0 1 ∧ span = 30 ∧
    ((191970 : Int) - geo.length).natAbs ≤ geo.homeTol ∧ (tr .coasting).homeDist < geo.length ∧
    (tr .locked).pos = some 191970 ∧
    ([0, 191971].all fun x => reaches geo.length 191970 span (y x false).close) = true ∧
    ([191970, 1].any fun x => reaches geo.length 191970 span (y x true).close) = false ∧
    ([0, 191999].all fun x => reaches geo.length 191970 span (e x).firePoint) = true ∧
    ([191970, 1].any fun x => reaches geo.length 191970 span (e x).firePoint) = false ∧
    sensorTrial.kind = .sensor ∧ sensorTrial.state = .active ∧ sensorTrial.fails + 1 < sensorTrial.limit ∧
    (y 0 false).trial = sensorTrial.id ∧ (y 0 false).sensor = sensor.tag ∧ (y 0 false).purpose = .sensorPass ∧
    (y 0 false).carrier < geo.carriers ∧ (watched (y 0 false)).work.point sensor.tag = some sensor ∧
    (e 0).origin = .lineDischarge ∧ (e 0).chute = some 7020 ∧ (fired .locked (e 0) busyRing).work.windows = [] ∧
    (fired .locked (e 0) busyRing).work.point 7020 = some chute ∧ (e 0).state = .waiting ∧
    (e 0).requested = false ∧ (e 0).lastPassed ≠ some 13 ∧ (e 0).misses < 2 ∧
    (fired .locked (e 0) busyRing).loop.fences.getLsbD chute.config.zone = false ∧ (tr .coasting).lock ≠ .locked ∧
    (tr .locked).v ≠ 0 ∧ busyRing.nodeState geo.linkNode ≠ .silent ∧ busyRing.downlink ≠ none ∧
    (fired .coasting (e 0) busyRing).work.plan = [] :=
  ⟨fun _ => loop_quiet _ _ _, fun _ _ _ => loop_quiet _ _ _, geo_law, firstDue_1, by decide⟩

/-- An EVENT of the sensor's edge, from its node and channel. -/
def sensorEvent : EventFields := ⟨3, 5, false, false, 0, 0⟩

def linkNode : Node := ⟨.online, some .carrierLink, 16, false, 0⟩

/-- What an accepted EVENT of the sensor asks of the branch, here of `base`'s. -/
theorem witness_eventHeard :
    sensorEvent.passes = true ∧ busyRing.state = .running ∧ busyRing.downlink ≠ none ∧ busyRing.acks.length < 32 ∧
    busyRing.node 3 = some linkNode ∧ linkNode.state = .online ∧ sensorEvent.seq = linkNode.expected ∧
    eventPoint .a sensorEvent base.work = some sensor ∧ sensor.kind = .sensor ∧
    sensor.config.edge = some (if sensorEvent.falling then .falling else .rising) ∧ sensorEvent.age ≤ geo.maxAge := by
  decide

theorem witness_NearestWindowJudges_window :
    let s := onLoop (nearly 1751) 0 (watching sensorWindow sensorTrial)
    let xc (x : Nat) : Nat := (((x : Int) - ((2500 * sensorEvent.age + 10000) / 20000 : Nat)) % geo.length).toNat
    let d (x : Nat) : Int := signedDiff geo.length (xc x) sensorWindow.xexp
    s.Quiet ∧ geo.Law ∧ (∀ c : Channel, some c ∈ s.channels → c.mode = .accept → c.tag ≠ 4117) ∧
    FirstDue geo sensor ((1751 + 1) % geo.length) 4 ∧ s.loop.tracker.geometry = some geo ∧
    s.loop.tracker.pos = some 1751 ∧ s.work.point sensor.tag = some sensor ∧ sensorTrial.state = .active ∧
    sensorTrial.reasons = .clear ∧ sensorTrial.target = sensor.tag ∧ sensorWindow.trial = sensorTrial.id ∧
    sensorWindow.carrier < geo.carriers ∧ sensorTrial.streak + 1 < sensorTrial.need ∧
    sensorTrial.fails + 1 < sensorTrial.limit ∧ s.loop.fences.getLsbD sensor.config.zone = false ∧
    s.work.fires = [] ∧ (60000 + geo.scale) / 65536 = 1 ∧ reaches geo.length 1751 1 sensorWindow.close = true ∧
    (1751 : Int) + 1 ≤ geo.length + geo.homeTol ∧ levelOf true false = (levelOf false false + 1) % 4 ∧
    levelOf true true = (levelOf false false + 2) % 4 ∧ (d 1562).natAbs ≤ 40 ∧ d 1562 = 0 ∧
    (40 < d 1603 ∧ (d 1603).natAbs ≤ 40 + geo.grace) ∧ (d 1521 < -40 ∧ (d 1521).natAbs ≤ 40 + geo.grace) ∧
    40 + geo.grace < (d 1753).natAbs :=
  ⟨loop_quiet _ _ _, geo_law, no_channel rfl, firstDue_4, by decide⟩

/-- R109: after the return to LOCKED the carrier's own edge leaves a marked window and its trial as they are. -/
theorem test_markedWindow_keeps :
    let y := { sensorWindow with coasted := true }
    let w := (after (exec (.eventFrame .a sensorEvent) (onLoop (nearly 1562) 0 (watching y sensorTrial)))).work
    w.windows = [y] ∧ w.plan = [sensorTrial] := by decide

/-- A marked window at the edge it would have been judged by, and at an early one. -/
theorem witness_NearestWindowJudges_marked :
    let y := { sensorWindow with coasted := true }
    let s := onLoop (nearly 1562) 0 (watching y sensorTrial)
    s.Quiet ∧ y.coasted = true ∧ sensorWindow.coasted = false ∧ s.work.windows = [y] ∧
    candidate geo 4117 1562 s.work = some (y, 0) ∧ candidate geo 4117 1521 s.work = some (y, -41) ∧
    candidate geo 4117 1753 s.work = none := ⟨loop_quiet _ _ _, by decide⟩

/-- A chute trial whose item on carrier 7 is FIRED, with its entry window and its entry on the field. -/
def firedItem (how : Option ItemReply) : Item := ⟨2, 7, 3, .fired, none, how⟩

def chuteTrial (i : Item) : Trial :=
  { newTrial Work.initial 1 .chute ⟨2, 7020, 5, 3, 60, none, none, none⟩ with
    state := .active, items := [⟨1, 9, 5, .assigned, none, none⟩, i], claimed := 2, fails := 1, streak := 3 }

def entryWindow : Window := ⟨4117, 7, 1562, 40, 1752, .chuteEntry, 1, some 2, false, 7⟩

def itemEntry : Entry := { entry with state := .sent, origin := .chuteItem, owner := .console, trial := some 1 }

def firing (i : Item) (w : Work) : Work :=
  { withEntry itemEntry (watching entryWindow (chuteTrial i) w) with
    carriers := w.carriers.set 7 (loaded .console 3 (some 7020)) }

/-- Of the carriers only 7 is LOADED for CONSOLE. -/
theorem carrier_7 : ∀ n < 16, ((carriers.set 7 (loaded .console 3 (some 7020)))[n]?.any fun c => c.loadedFor .console)
    = true → n = 7 := by decide

theorem witness_NearestWindowJudges_item :
    let s (how : Option ItemReply) := onLoop (nearly 1751) 0 (firing (firedItem how))
    let d (x : Nat) : Int := signedDiff geo.length ((((x : Int) - 0) % geo.length).toNat) entryWindow.xexp
    (∀ how, (s how).Quiet ∧ (chuteTrial (firedItem how)).items.find? (fun j => j.index == 2) = some (firedItem how) ∧
      (chuteTrial (firedItem how)).GoesOn ∧ (s how).work.NoClaimBut itemEntry) ∧
    (∀ c : Channel, some c ∈ base.channels → c.mode = .accept → c.tag ≠ 4117) ∧
    (s none).loop.tracker.pos = some 1751 ∧ (s none).work.windows = [entryWindow] ∧ (s none).work.fires = [itemEntry] ∧
    (chuteTrial (firedItem none)).reasons.noSpace = false ∧ entryWindow.item = some (firedItem none).index ∧
    itemEntry.carrier = (firedItem none).carrier ∧ reaches geo.length 1751 1 entryWindow.close = true ∧
    geo.Law ∧ (s none).loop.fences.getLsbD sensor.config.zone = false ∧ entryWindow.coasted = false ∧
    (4#8 : BitVec 8).getLsbD sensor.config.zone = true ∧
    (d 1563).natAbs ≤ 40 ∧ (d 1521).natAbs ≤ 40 + geo.grace ∧ (d 1603).natAbs ≤ 40 + geo.grace ∧
    40 + geo.grace < (d 1753).natAbs :=
  ⟨fun _ => ⟨loop_quiet _ _ _, rfl, ⟨by show 4 < 5; decide, by show 2 < 3; decide⟩,
    noClaimBut_of carrier_7⟩, no_channel rfl, rfl, rfl, rfl, rfl, rfl, rfl, rfl, geo_law, by decide⟩

theorem witness_HitsAreCounted :
    let w (t : Trial) : Work := withTrial t base.work
    let held : Trial := { driveTrial with state := .held }
    (w driveTrial).trial driveTrial.id = some driveTrial ∧ driveTrial.state = .active ∧
    driveTrial.streak + 1 < driveTrial.need ∧ driveTrial.fails + 1 < driveTrial.limit ∧
    (w held).trial held.id = some held ∧ held.state ≠ .active ∧
    ([5, -4, 22] : List Int).min? = some (-4) ∧ ([5, -4, 22] : List Int).max? = some 22 := by decide

/-! ### The register, the windows and the digest -/

def sensorConfig : PointConfig := sensor.config

/-- A CHUTE's configuration passes, and so does the sensor's, whose route is free and then taken. -/
theorem witness_WritePointCreates :
    let s : State := { configured with work := Work.initial }
    let taken : State := { configured with work := { Work.initial with
      points := [{ sensor with tag := 1, route := some ⟨.a, 11, 5⟩ }] } }
    let full : State := { base with work := { base.work with points := List.replicate 2048 sensor } }
    let f : PointFields := ⟨7030, 2, 48300, 0, 100, 4, none, some 4117, some 120, some 1⟩
    s.Takes .console ∧ taken.Takes .console ∧ full.Takes .console ∧
    s.Configures pointFields' .sensor sensorConfig ∧ taken.Configures pointFields' .sensor sensorConfig ∧
    full.Configures f .chute chute.config ∧ (∀ k c, ¬s.Configures { pointFields' with tag := 0 } k c) ∧
    (∀ p ∈ full.work.points, p.tag ≠ 7030) ∧ 2048 ≤ full.work.points.length ∧
    (∀ p ∈ taken.work.points, p.tag ≠ 4117) ∧ taken.work.points.length < 2048 ∧
    routeOf taken.routes 4117 .sensor = some ⟨.a, 11, 5⟩ ∧
    (∃ p ∈ taken.work.points, p.route = some ⟨.a, 11, 5⟩) ∧ (∀ p ∈ s.work.points, p.tag ≠ 4117) ∧
    s.work.points.length < 2048 ∧ ¬∃ p ∈ s.work.points, p.route = routeOf s.routes 4117 .sensor := by
  refine ⟨takes_of _ _ (by decide), takes_of _ _ (by decide), takes_of _ _ ⟨by decide, by decide⟩, ?_, ?_, ?_,
    fun _ _ h => h.1 rfl, ?_, (List.length_replicate (n := 2048)).ge, by decide⟩
  · exact ⟨by decide, by decide, by decide, by decide, by decide, by decide, by decide, by decide, ⟨rfl, rfl, rfl, rfl⟩⟩
  · exact ⟨by decide, by decide, by decide, by decide, by decide, by decide, by decide, by decide, ⟨rfl, rfl, rfl, rfl⟩⟩
  · exact ⟨by decide, by decide, by decide, by decide, by decide, by decide, by decide, by decide,
      ⟨4117, sensor, rfl, rfl, rfl⟩, ⟨120, rfl, by decide⟩, by decide⟩
  · intro p hp
    rw [List.eq_of_mem_replicate hp]
    decide

/-- The drive is replaced: a distribution or nothing refers to it. -/
theorem not_refers {s : State} {p : Point} (hp : s.work.plan = []) (hf : ∀ e ∈ s.work.fires, e.chute ≠ some p.tag)
    (hc : s.channels = List.replicate 8 none) (hd : s.work.dist = none) : ¬s.Refers p := by
  rintro (⟨t, ht, -⟩ | ⟨t, ht, -⟩ | ⟨e, he, h⟩ | ⟨c, hmem, -⟩ | ⟨-, h⟩)
  · simp [hp] at ht
  · simp [hp] at ht
  · exact hf e he h
  · simp [hc] at hmem
  · exact h hd

theorem base_not_refers : ¬base.Refers drive := not_refers rfl (by decide) rfl rfl

theorem witness_WritePointReplaces :
    let f : PointFields := ⟨9900, 4, 0, 0, 100, 6, none, none, none, none⟩
    let line := baseWith fun w => w.setPoint { drive with custody := .line }
    let trial := baseWith (withTrial driveTrial)
    (baseWith id).Takes .console ∧ line.Takes .console ∧ trial.Takes .console ∧ ¬base.Refers drive ∧
    trial.Refers { drive with proof := .inTrial, prior := some .unproven } ∧
    base.Configures f .zoneDrive drive.config ∧
    base.Configures { f with tol := 101 } .zoneDrive { drive.config with tol := 101 } ∧
    base.Configures { f with kind := 1, edge := some 1 } .sensor { drive.config with edge := some .rising } ∧
    base.work.point f.tag = some drive ∧ PointKind.sensor ≠ drive.kind ∧
    (line.work.point f.tag).map Point.custody = some .line ∧ { drive.config with tol := 101 } ≠ drive.config := by
  refine ⟨base_takes id .console, base_takes _ .console, base_takes _ .console, base_not_refers, .inl (by decide),
    ?_, ?_, ?_, by decide⟩
  all_goals
    exact ⟨by decide, by decide, by decide, by decide, by decide, by decide, by decide, by decide, ⟨rfl, rfl, rfl, rfl⟩⟩

theorem witness_DeletePointRemoves :
    (baseWith id).Takes .console ∧
    ¬(base.Refers drive ∨ ∃ q ∈ base.work.points, q.kind = .chute ∧ q.config.entry = some 9900) ∧
    base.work.point 1 = none ∧ base.work.point 7020 = some chute ∧ chute.custody = .line ∧
    base.work.point 4117 = some sensor ∧ sensor.custody = .console ∧
    (∃ q ∈ base.work.points, q.kind = .chute ∧ q.config.entry = some 4117) ∧ base.work.point 9900 = some drive ∧
    drive.custody = .console :=
  ⟨base_takes id .console, fun h => h.elim base_not_refers (by decide), by decide⟩

theorem witness_ClearRegisterEmpties :
    let asked := baseWith fun w => { w with asks := [⟨7020, .draining⟩] }
    asked.Takes .console ∧ asked.work.asks ≠ [] ∧ (baseWith id).Takes .console ∧
    ¬(base.work.plan ≠ [] ∨ base.work.fires ≠ [] ∨ base.work.asks ≠ [] ∨
      (∃ c : Channel, some c ∈ base.channels ∧ c.mode = .accept) ∨ base.work.dist ≠ none) := by
  refine ⟨base_takes _ .console, by decide, base_takes id .console, ?_⟩
  simp [base, State.reset, State.initial, Work.initial]

theorem witness_DigestWalks :
    let walk : Walk := ⟨16, 440, 0, false, true, false⟩
    let s : State := { base with digest := some walk }
    (baseWith id).Takes .line ∧ s.Takes .line ∧ s.Takes .console ∧ base.digest = none ∧ s.digest = some walk ∧
    base.routes.length = 8 ∧ walk.line = true ∧ walk.console = false :=
  ⟨base_takes id .line, takes_of _ _ (by decide), takes_of _ _ (by decide), by decide⟩

/-- 4.5: the conflict, the record in the way under an accepting channel, and the accepted write, which moves 12,293
only. -/
theorem witness_WriteWindowReroutes :
    let s : State := { configured with work := { configured.work with
      points := configured.work.points ++ [{ sensor with tag := 12293, route := none }] } }
    let busy : State := { s with channels := (List.replicate 8 none).set 0 (some { channel with tag := 12293 }) }
    let f (node : Nat) : WindowFields := ⟨4, 1, 12288, 65520, 1, none, node, 1⟩
    let x (node : Nat) : RouteWindow := ⟨true, 12288, 65520, .a, none, node, true, false⟩
    let new (node : Nat) (p : Point) : Option Route := routeOf (s.routes.set 4 (x node)) p.tag p.kind
    s.Takes .console ∧ busy.Takes .console ∧ busy.RouteInUse { sensor with tag := 12293, route := none } ∧
    (∀ p : Point, ¬s.RouteInUse { p with kind := .sensor }) ∧
    (∀ n, 12288 % 2 ^ 4 = 0 ∧ (f n).mask = 65536 - 2 ^ 4 ∧ (f n).base = 12288 ∧ (f n).mode = 1 ∧ (f n).weight = none ∧
      (f n).nodeBase = n ∧ (f n).perms = (if (x n).observe then 1 else 0) + (if (x n).command then 2 else 0)) ∧
    (∀ z ≤ 16, ({ f 11 with mask := 65521 } : WindowFields).mask ≠ 65536 - 2 ^ z) ∧
    s.work.points.Pairwise (fun p q => p.tag < q.tag) ∧
    new 11 { sensor with tag := 12293 } = some ⟨.a, 11, 5⟩ ∧ new 11 sensor = some ⟨.a, 11, 5⟩ ∧
    (∀ p ∈ s.work.points, ∀ q ∈ s.work.points, q.tag < p.tag → new 11 p = new 11 q → p.tag = 12293 ∧ q.tag = 4117) ∧
    (∀ p ∈ s.work.points, ∀ q ∈ s.work.points, q.tag < p.tag → new 40 p ≠ new 40 q) ∧
    ∀ p ∈ s.work.points, p.kind = .sensor ∧ (new 40 p ≠ p.route ↔ p.tag = 12293) := by
  refine ⟨takes_of _ _ (by decide), takes_of _ _ (by decide), .inr (.inr (.inl ⟨{ channel with tag := 12293 }, by decide⟩)),
    ?_, fun _ => ⟨rfl, rfl, rfl, rfl, rfl, rfl, rfl⟩, by decide⟩
  rintro p (⟨t, ht, -⟩ | ⟨t, ht, -⟩ | ⟨c, hc, -⟩ | ⟨h, -⟩)
  · exact absurd ht (by simp [configured, Work.initial])
  · exact absurd ht (by simp [configured, Work.initial])
  · exact absurd hc (by simp [configured, State.reset, State.initial])
  · exact absurd h (by simp)

/-- The window that decides stands behind one that is disabled and one that does not hit; its address is in range,
beyond 126, or not permitted. -/
theorem witness_WindowHitsItsBlock :
    let x : RouteWindow := { window0 with base := 0, mask := 65535 }
    let before : List RouteWindow := [{ window0 with enabled := false }, { window0 with base := 8192 }]
    (∀ b ∈ before, b.enabled = true → b.hits 4117 = false) ∧ window0.enabled = true ∧ window0.hits 4117 = true ∧
    (window0.translate 4117).node ≤ 126 ∧ window0.observe = true ∧ (window0.observe && window0.command) = true ∧
    126 < (RouteWindow.translate { window0 with nodeBase := 126 } 4117).node ∧
    ({ window0 with observe := false } : RouteWindow).observe = false ∧
    (8 : Nat) ≤ 16 ∧ window0.mask = 65536 - 2 ^ 8 ∧ window0.base % 2 ^ 8 = 0 ∧ x.mask = 65536 - 2 ^ 0 ∧ x.base = 0 ∧
    window0.hits 4096 = true ∧ window0.hits 4351 = true ∧ window0.hits 4352 = false := by decide

theorem witness_TranslationLaysOut :
    (4 : Nat) < 8 ∧ (255 : Nat) < 2 ^ 8 ∧ (127 : Nat) < 2 ^ (8 - 1) ∧ window0.mask = 65536 - 2 ^ 8 := by decide

/-! ### Custody and fencing -/

theorem witness_TakeHandsOver :
    let out : Point := { chute with service := .outOfService }
    let outFires := baseWith fun w => withEntry entry (w.setPoint out)
    let outFree := baseWith fun w => w.setPoint out
    let asked (n : Nat) := baseWith fun w => { w with asks := (List.range n).map fun i => ⟨i + 1, .asked 1⟩ }
    let open' := baseWith fun w => { w with asks := [⟨7020, .asked 1⟩] }
    (∀ s ∈ [base, outFires, outFree, asked 15, asked 16, open'], s.Takes .console) ∧
    base.work.point 1 = none ∧ base.work.point 4117 = some sensor ∧ sensor.custody = .console ∧
    base.work.point 7020 = some chute ∧ chute.custody = .line ∧ (∃ a ∈ open'.work.asks, a.tag = 7020) ∧
    outFires.work.point 7020 = some out ∧ (∃ e ∈ outFires.work.fires, e.owner = .line ∧ e.chute = some 7020) ∧
    outFree.work.point 7020 = some out ∧ (¬∃ e ∈ outFree.work.fires, e.owner = .line ∧ e.chute = some 7020) ∧
    (∀ a ∈ (asked 16).work.asks, a.tag ≠ 7020) ∧ 16 ≤ (asked 16).work.asks.length ∧
    (asked 15).work.asks.length < 16 ∧ chute.service = .inService := by
  refine ⟨?_, by decide⟩
  simp only [List.forall_mem_cons, List.not_mem_nil, false_imp_iff, implies_true, and_true]
  exact ⟨base_takes id _, base_takes _ _, base_takes _ _, base_takes _ _, base_takes _ _, base_takes _ _⟩

theorem witness_AsksAreAnswered :
    let asked (x : AskState) := baseWith fun w => { w with asks := [⟨7020, x⟩] }
    let fires := baseWith fun w => withEntry entry { w with asks := [⟨7020, .asked 9⟩] }
    (baseWith id).Takes .line ∧ base.work.ask 7020 = none ∧
    ((asked .draining).Takes .line ∧ (asked .draining).work.ask 7020 = some ⟨7020, .draining⟩) ∧
    ((asked (.asked 9)).Takes .line ∧ (asked (.asked 9)).work.ask 7020 = some ⟨7020, .asked 9⟩ ∧
      (asked (.asked 9)).work.point 7020 = some chute ∧ (asked (.asked 9)).work.fires = []) ∧
    (fires.Takes .line ∧ fires.work.ask 7020 = some ⟨7020, .asked 9⟩ ∧ fires.work.point 7020 = some chute ∧
      (fires.work.fires.filter fun e => decide (e.owner = .line ∧ e.chute = some 7020)).length ≠ 0) :=
  ⟨base_takes id .line, by decide, ⟨base_takes _ .line, by decide⟩, ⟨base_takes _ .line, by decide⟩,
    ⟨base_takes _ .line, by decide⟩⟩

theorem witness_GiveBackReturns :
    let held := baseWith (withTrial driveTrial)
    (baseWith id).Takes .console ∧ held.Takes .console ∧ base.work.point 1 = none ∧ base.work.point 7020 = some chute ∧
    chute.custody = .line ∧ (∃ t ∈ held.work.plan, t.kind ≠ .belt ∧ t.target = 9900) ∧
    base.work.point 9900 = some drive ∧ drive.custody = .console ∧ base.work.plan = [] ∧ base.work.fires = [] :=
  ⟨base_takes id .console, base_takes _ .console, by decide⟩

theorem witness_ServiceIsSet :
    let asked := baseWith fun w => { w with asks := [⟨7020, .draining⟩] }
    let unproven : Point := { chute with proof := .failed }
    let bad := baseWith fun w => w.setPoint unproven
    (baseWith id).Takes .line ∧ asked.Takes .line ∧ bad.Takes .line ∧ base.work.point 1 = none ∧
    base.work.point 4117 = some sensor ∧ sensor.custody = .console ∧ (∃ a ∈ asked.work.asks, a.tag = 7020) ∧
    bad.work.point 7020 = some unproven ∧ unproven.custody = .line ∧ unproven.proof ≠ .proven ∧
    base.work.point 7020 = some chute ∧ chute.proof = .proven ∧ ∀ a ∈ base.work.asks, a.tag ≠ 7020 :=
  ⟨base_takes id .line, base_takes _ .line, base_takes _ .line, by decide⟩

/-- A zone without sensors and drives, fenced and not, with a distribution in flight and without. -/
theorem witness_FenceEvents :
    let d : Distribution := ⟨2000, .request, [⟨9900, .sent 2000 false⟩]⟩
    let s (z : BitVec 8) (d : Option Distribution) := onLoop (running 30000 12) z fun w => { w with dist := d }
    (s 0 none).Quiet ∧ (s 255 none).Quiet ∧ (s 255 (some d)).Quiet ∧ base.work.plan = [] ∧ base.work.windows = [] ∧
    (base.work.points.filter fun q => decide (q.kind = .zoneDrive) && q.config.zone == 7) = [] ∧
    (0 : BitVec 8).getLsbD 7 = false ∧ (255 : BitVec 8).getLsbD 7 = true :=
  ⟨loop_quiet _ _ _, loop_quiet _ _ _, loop_quiet _ _ _, by decide⟩

/-- The sensor's zone 2 under its ACTIVE trial, and fenced with the trial HELD for the fence alone. -/
theorem witness_FenceEvents_sensor :
    let d : Distribution := ⟨2000, .request, [⟨9900, .sent 2000 false⟩]⟩
    let held : Trial := { sensorTrial with state := .held, reasons := ⟨false, false, true, false⟩, armed := none }
    let s := onLoop (running 1752 12) 0 (watching sensorWindow sensorTrial)
    let t := onLoop (running 1752 12) 4 fun w => { watching sensorWindow held w with windows := [], dist := some d }
    s.Quiet ∧ t.Quiet ∧ geo.Law ∧ FirstDue geo sensor 1752 4 ∧ s.loop.fences.getLsbD 2 = false ∧
    t.loop.fences.getLsbD 2 = true ∧ s.loop.tracker.geometry = some geo ∧ s.loop.tracker.lock = .locked ∧
    s.loop.tracker.pos = some 1752 ∧ (1752 : Nat) < geo.length ∧
    (s.work.points.filter fun q => decide (q.kind = .zoneDrive) && q.config.zone == 2) = [] ∧
    s.work.plan = [sensorTrial] ∧ sensorTrial.kind = .sensor ∧ sensorTrial.target = sensor.tag ∧
    s.work.point sensor.tag = some sensor ∧ sensor.config.zone = 2 ∧ sensorTrial.reasons = .clear ∧
    s.work.windows = [sensorWindow] ∧ sensorWindow.trial = sensorTrial.id ∧ t.work.plan = [held] ∧
    t.work.windows = [] ∧ t.work.dist ≠ none :=
  ⟨loop_quiet _ _ _, loop_quiet _ _ _, geo_law, firstDue_4, by decide⟩

/-- The drive's zone 6: without a distribution, under its HELD trial, and with the row of the drive waiting, on the
field, WITHHELD and absent. -/
theorem witness_FenceEvents_drive :
    let held : Trial := { driveTrial with state := .held, reasons := ⟨false, false, true, false⟩ }
    let q : Req := ⟨.setSpeed 9900 900, 3, 7, 0, false⟩
    let bare := onLoop (running 30000 12) 64 id
    let trial := onLoop (running 30000 12) 64 fun w => { w with plan := [held] }
    let s (z : BitVec 8) (rows : List Row) (qs : List Req) := onLoop (running 30000 12) z fun w =>
      withRing { busyRing with driveq := qs } { w with dist := some ⟨900, .request, rows⟩ }
    let sent : Row := ⟨9900, .sent 900 false⟩
    let waits := s 0 [sent, ⟨9901, .acked 900⟩] [q]
    let field := s 64 [sent, ⟨9901, .acked 900⟩] []
    bare.Quiet ∧ trial.Quiet ∧ waits.Quiet ∧ field.Quiet ∧ (s 0 [sent, ⟨9901, .sent 900 false⟩] [q]).Quiet ∧
    (s 64 [⟨9900, .withheld⟩, ⟨9901, .sent 900 false⟩] []).Quiet ∧
    (s 64 [⟨9800, .withheld⟩, ⟨9901, .sent 900 false⟩] []).Quiet ∧
    (base.work.points.filter fun q => decide (q.kind = .zoneDrive) && q.config.zone == 6) = [drive] ∧
    base.work.point drive.tag = some drive ∧ drive.route = some ⟨.a, 3, 7⟩ ∧ base.work.windows = [] ∧
    bare.loop.fences.getLsbD 6 = true ∧ waits.loop.fences.getLsbD 6 = false ∧ bare.work.dist = none ∧
    busyRing.state = .running ∧ busyRing.nodeState 3 ≠ .silent ∧ busyRing.downlink ≠ none ∧
    trial.work.plan = [held] ∧ held.target = drive.tag ∧ trial.loop.tracker.steady = true ∧
    ([sent, ⟨9901, .acked 900⟩] : List Row).find? (fun y => y.tag == drive.tag) = some sent ∧
    q ∈ waits.work.ringA.driveq ++ waits.work.ringB.driveq ∧
    (∀ y ∈ ([⟨9900, .withheld⟩, ⟨9901, .acked 900⟩] : List Row), y.state = .withheld ∨ y.state = .acked 900) ∧
    (¬∀ y ∈ ([⟨9900, .withheld⟩, ⟨9901, .sent 900 false⟩] : List Row),
      y.state = .withheld ∨ y.state = .acked 900 ∨ y.state = .failed 900) ∧
    field.work.ringA.waiting ++ field.work.ringB.waiting = [] ∧ (9800 : Nat) < drive.tag ∧ drive.tag < 9901 :=
  ⟨loop_quiet _ _ _, loop_quiet _ _ _, loop_quiet _ _ _, loop_quiet _ _ _, loop_quiet _ _ _, loop_quiet _ _ _,
    loop_quiet _ _ _, by decide⟩

/-! ### Carriers and fires -/

theorem witness_DischargeJoins :
    let mine := baseWith fun w =>
      { w.setPoint { chute with custody := .console } with carriers := w.carriers.set 7 (loaded .console 3 none) }
    (baseWith id).Takes .line ∧ mine.Takes .console ∧ base.loop.tracker.geometry = some geo ∧ 7 < geo.carriers ∧
    base.work.point 7020 = some chute ∧ chute.kind = .chute ∧
    base.work.carriers[7]? = some (loaded .line 880114 none) ∧ (∀ e ∈ base.work.fires, e.carrier ≠ 7) ∧
    chute.custody = .line ∧ chute.service = .inService ∧ base.work.fires.length < 256 ∧
    (mine.work.point 7020).map Point.custody = some .console ∧ mine.work.carriers[7]? = some (loaded .console 3 none) :=
  ⟨base_takes id .line, base_takes _ .console, by decide⟩

/-- The refusals, in their order: no geometry, carrier 320, no record, no chute, a carrier that is not the line's, one
that is listed, a chute out of service, a full list. -/
theorem witness_DischargeJoins_refused :
    let out := baseWith fun w => w.setPoint { chute with service := .outOfService }
    let full := baseWith fun w => { w with fires := List.replicate 256 { entry with carrier := 3 } }
    State.reset.Takes .line ∧ (baseWith id).Takes .line ∧ (baseWith (withEntry entry)).Takes .line ∧ out.Takes .line ∧
    full.Takes .line ∧ (∃ c ref dest, base.work.carriers[7]? = some c ∧ c.load = .loaded .line ref dest) ∧
    (¬∃ c ref dest, base.work.carriers[3]? = some c ∧ c.load = .loaded .line ref dest) ∧
    256 ≤ full.work.fires.length ∧ (∀ e ∈ full.work.fires, e.carrier ≠ 7) ∧
    State.reset.loop.tracker.geometry = none ∧ geo.carriers ≤ 320 ∧ base.work.point 1 = none ∧
    base.work.point 4117 = some sensor ∧ sensor.kind ≠ .chute ∧
    (∃ e ∈ (baseWith (withEntry entry)).work.fires, e.carrier = 7) ∧
    (out.work.point 7020).map Point.service = some .outOfService := by
  refine ⟨takes_of _ _ (by decide), base_takes id .line, base_takes _ .line, base_takes _ .line, base_takes _ .line,
    ⟨loaded .line 880114 none, 880114, none, rfl, rfl⟩, ?_, (List.length_replicate (n := 256)).ge, ?_, by decide⟩
  · rintro ⟨c, ref, dest, hc, hl⟩
    obtain rfl : newCarrier = c := Option.some.inj hc
    exact absurd hl (by simp [newCarrier])
  · intro e he
    rw [List.eq_of_mem_replicate he]
    decide

theorem witness_CancelDischargeEnds :
    let s := baseWith (withEntry entry)
    let drains := baseWith fun w => { withEntry entry w with asks := [⟨7020, .draining⟩] }
    s.Takes .line ∧ drains.Takes .line ∧ s.loop.tracker.geometry = some geo ∧ 7 < geo.carriers ∧
    s.work.entryOf 7 = some entry ∧ entry.chute = some 7020 ∧ entry.origin = .lineDischarge ∧ entry.owner = .line ∧
    entry.state = .waiting ∧ s.work.ask 7020 = none ∧ drains.work.entryOf 7 = some entry ∧
    drains.work.ask 7020 = some ⟨7020, .draining⟩ ∧ drains.work.point 7020 = some chute ∧
    ∀ f ∈ drains.work.fires, f.owner = .line → f.chute = some 7020 → f.seq = entry.seq :=
  ⟨base_takes _ .line, base_takes _ .line, by decide⟩

theorem witness_CancelDischargeEnds_refused :
    let s (e : Entry) := baseWith (withEntry e)
    let item : Entry := { entry with origin := .chuteItem }
    let sent : Entry := { entry with state := .sent }
    State.reset.Takes .line ∧ (s item).Takes .line ∧ (s entry).Takes .console ∧ (s sent).Takes .line ∧
    State.reset.loop.tracker.geometry = none ∧ (s entry).loop.tracker.geometry = some geo ∧ geo.carriers ≤ 320 ∧
    (∀ e ∈ (s entry).work.fires, e.carrier ≠ 8) ∧ (s item).work.entryOf 7 = some item ∧
    (s entry).work.entryOf 7 = some entry ∧ entry.owner ≠ .console ∧ (s sent).work.entryOf 7 = some sent ∧
    sent.owner = .line :=
  ⟨takes_of _ _ (by decide), base_takes _ .line, base_takes _ .console, base_takes _ .line, by decide⟩

theorem witness_CarrierIsCleared :
    let sent := baseWith (withEntry { entry with state := .sent })
    let waits := baseWith (withEntry entry)
    let belt := baseWith fun w => { w with plan := [beltTrial] }
    State.reset.Takes .line ∧ (baseWith id).Takes .line ∧ sent.Takes .line ∧ waits.Takes .line ∧ belt.Takes .line ∧
    State.reset.loop.tracker.geometry = none ∧ geo.carriers ≤ 320 ∧ sent.loop.tracker.geometry = some geo ∧
    7 < geo.carriers ∧ sent.work.carriers[7]? = some (loaded .line 880114 (some 7020)) ∧
    sent.work.entryOf 7 = some { entry with state := .sent } ∧
    base.work.carriers[7]? = some (loaded .line 880114 none) ∧
    (¬∃ t ∈ base.work.plan, t.kind = .belt ∧ t.target = 7) ∧ (∀ e ∈ base.work.fires, e.carrier ≠ 7) ∧
    (∃ t ∈ belt.work.plan, t.kind = .belt ∧ t.target = 9) ∧ belt.work.carriers[9]? = some newCarrier ∧
    waits.work.entryOf 7 = some entry ∧ entry.state = .waiting ∧ entry.chute = some 7020 ∧
    entry.origin = .lineDischarge ∧ waits.work.ask 7020 = none :=
  ⟨takes_of _ _ (by decide), base_takes id .line, base_takes _ .line, base_takes _ .line, base_takes _ .line, by decide⟩

/-- The induct's EVENT, stale and of the other edge; at 13,636 on carrier 6 with d = +30, EMPTY, LOADED with and
without an entry, in FAULT; at 13,736 beyond the tolerance of each carrier. -/
theorem witness_LoadsArePlaced :
    let f : EventFields := ⟨3, 6, false, false, 45, 880200⟩
    let s (c : Carrier) (es : List Entry) :=
      onLoop (running 13636 41) 0 fun w => { w with carriers := w.carriers.set 6 c, fires := es }
    let mine : Entry := { entry with carrier := 6, owner := .console, origin := .consoleDischarge, seq := 4 }
    let faulty : Carrier := ⟨.fault .sequence, .unproven, none, none⟩
    let at' (x : Nat) : Nat × Int :=
      attribution geo 10000 0 (((x : Int) - ((2500 * 45 + 10000) / 20000 : Nat)) % geo.length).toNat
    (∀ c es, (s c es).Quiet) ∧ (∀ c : Channel, some c ∈ base.channels → c.mode = .accept → c.tag ≠ 9310) ∧
    (∃ g, some geo = some g ∧ g.maxAge < min 4096 4095) ∧ (¬∃ g, some geo = some g ∧ g.maxAge < min 45 4095) ∧
    f.passes = true ∧ EventFields.passes { f with age := 4096 } = true ∧ busyRing.state = .running ∧
    busyRing.downlink ≠ none ∧ busyRing.acks.length < 32 ∧ busyRing.node 3 = some linkNode ∧ linkNode.state = .online ∧
    f.seq = linkNode.expected ∧ eventPoint .a f base.work = some induct ∧ induct.kind = .induct ∧
    induct.config.edge = some (if f.falling then .falling else .rising) ∧ induct.config.edge ≠ some .falling ∧
    (running 0 0).lock = .locked ∧ ({ running 0 0 with lock := .coasting } : Tracker).lock ≠ .locked ∧
    at' 13636 = (6, 30) ∧ (30 : Int).natAbs ≤ min 100 ((geo.pitch - 1) / 2) ∧ at' 13736 = (6, 130) ∧
    min 100 ((geo.pitch - 1) / 2) < (130 : Int).natAbs ∧ (s newCarrier []).work.carriers[6]? = some newCarrier ∧
    induct.custody = .line ∧ (s (loaded .console 5 none) []).work.carriers[6]? = some (loaded .console 5 none) ∧
    (s (loaded .console 5 none) [mine]).work.entryOf 6 = some mine ∧ mine.state = .waiting ∧ mine.chute = some 7020 ∧
    (s faulty []).work.carriers[6]? = some faulty :=
  ⟨fun _ _ => loop_quiet _ _ _, no_channel rfl, ⟨geo, rfl, by decide⟩, by rintro ⟨g, ⟨⟩, h⟩; revert h; decide,
    by decide⟩

/-- The move to 52,190 with the entry asked for, at rest, ready in this pass revolution, and on a branch that is not
RUNNING. -/
theorem witness_FireIsGranted_due :
    let tr (v : Nat) : Tracker := { nearly 52189 with v := v }
    let e (asked : Bool) : Entry := { entry with requested := asked, lastPassed := some 11 }
    let s (v : Nat) (asked : Bool) (r : Ring) := onLoop (tr v) 0 fun w => withRing r (withEntry (e asked) w)
    let down : Ring := { busyRing with state := .enumerating }
    (∀ v asked, (s v asked busyRing).Quiet ∧ (s v asked down).Quiet) ∧ (tr 0).geometry = some geo ∧ (tr 0).frac < 65536 ∧
    (tr 0).pos = some 52189 ∧ 52189 < geo.length ∧ (tr 0).lock = .locked ∧
    levelOf true false = (levelOf false false + 1) % 4 ∧ (tr 0).homeDist + 1 ≤ (geo.length : Int) + geo.homeTol ∧
    base.work.windows = [] ∧ reaches geo.length 52189 1 entry.firePoint = true ∧ entry.chute = some 7020 ∧
    (s 0 true busyRing).work.point 7020 = some chute ∧ (e false).lastPassed ≠ some 12 ∧ (e false).state = .waiting ∧
    (tr 0).v = 0 ∧ (tr 2500).v ≠ 0 ∧ base.loop.fences.getLsbD chute.config.zone = false ∧ busyRing.state = .running ∧
    busyRing.nodeState geo.linkNode ≠ .silent ∧ busyRing.downlink ≠ none ∧ down.state ≠ .running ∧ entry.misses < 2 :=
  ⟨fun _ _ => ⟨loop_quiet _ _ _, loop_quiet _ _ _⟩, by decide⟩

/-- A ring with three transactions and a FIRE request of the carrier link node in front. -/
def fireReq : Req := ⟨.fire 0, 3, 0, 1, false⟩

def firingRing (rest drives relays : List Req) : Ring :=
  { busyRing with
    fireq := fireReq :: rest, driveq := drives, relayq := relays
    table := (List.range 3).map fun i => ⟨i, relay, 5, 5, .query, 1, 10⟩ }

/-- What the grant asks of the branch; tag 3 is the lowest free one. -/
theorem witness_FireIsGranted_ring :
    let r := firingRing [] [] []
    r.state = .running ∧ r.downlink = some .enumerate ∧ r.acks = [] ∧ r.fireq = [fireReq] ∧ r.driveq = [] ∧
    r.relayq = [] ∧ fireReq.node = geo.linkNode ∧ fireReq.yield = false ∧ r.outstanding fireReq.node < 8 ∧
    (∀ y ∈ r.table, y.tag ≠ 3) ∧ (∀ m < 3, ∃ y ∈ r.table, y.tag = m) ∧ geo.linkBranch = .a := by decide

/-- A discharge at the slack's end and one count beyond it, at its third miss, and while COASTING. -/
theorem witness_FireIsGranted :
    let e (n : Nat) : Entry := { entry with requested := true, misses := n }
    let s (t : Tracker) (n : Nat) := onLoop t 0 fun w => withRing (firingRing [] [] []) (withEntry (e n) w)
    let past (x : Nat) : Nat := (((x : Int) - entry.firePoint) % geo.length).toNat
    (∀ t n, (s t n).Quiet ∧ (s t n).work.entryAt 0 = some (e n) ∧ (s t n).work.point 7020 = some chute) ∧
    (running 52250 12).geometry = some geo ∧ (running 52250 12).pos = some 52250 ∧ (e 0).state = .waiting ∧
    (e 0).requested = true ∧ (e 0).origin = .lineDischarge ∧ (e 0).chute = some 7020 ∧ chute.config.side = some .left ∧
    (running 52250 12).lock = .locked ∧ (running 52250 12).v ≠ 0 ∧
    ({ running 52250 12 with lock := .coasting } : Tracker).lock ≠ .locked ∧
    base.loop.fences.getLsbD chute.config.zone = false ∧ past 52250 ≤ geo.slack ∧ geo.slack < past 52251 ∧
    (e 1).misses < 2 ∧ (e 2).misses = 2 ∧ base.work.ask 7020 = none :=
  ⟨fun _ _ => ⟨loop_quiet _ _ _, rfl, rfl⟩, by decide⟩

/-- A chute item on carrier 7, with a window of another carrier in the table. -/
theorem witness_FireIsGranted_item :
    let i : Item := ⟨2, 7, 880114, .assigned, none, none⟩
    let t : Trial := { chuteTrial i with id := 4 }
    let e : Entry := { entry with requested := true, origin := .chuteItem, owner := .console, trial := some 4 }
    let s := onLoop (running 52250 12) 0 fun w => withRing (firingRing [] [] [])
      { withEntry e w with plan := [driveTrial, t], windows := [{ entryWindow with carrier := 5 }] }
    s.Quiet ∧ s.work.entryAt 0 = some e ∧ s.work.trial 4 = some t ∧ s.work.point 7020 = some chute ∧
    chute.config.entry = some 4117 ∧ s.work.point 4117 = some sensor ∧
    t.items.find? (fun j => j.carrier == e.carrier) = some i ∧ s.loop.tracker.steady = true ∧ 0 < s.loop.tracker.v ∧
    s.loop.fences.getLsbD sensor.config.zone = false ∧ s.work.windows.length < 512 ∧
    ∀ y ∈ s.work.windows, ¬(y.sensor = 4117 ∧ y.carrier = e.carrier) :=
  ⟨loop_quiet _ _ _, by decide⟩

/-- A belt jog of an EMPTY carrier, and of one that is not. -/
theorem witness_FireIsGranted_jog :
    let e (n : Nat) : Entry :=
      { entry with requested := true, carrier := n, chute := none, origin := .beltJog, owner := .console, trial := some 2 }
    let s (n : Nat) := onLoop (running 52250 12) 0 fun w => withRing (firingRing [] [] [])
      { withEntry (e n) w with plan := [driveTrial, beltTrial] }
    (∀ n, (s n).Quiet ∧ (s n).work.entryAt 0 = some (e n) ∧ (s n).work.trial 2 = some beltTrial) ∧
    beltTrial.jogSpeed = some 2500 ∧ beltTrial.jogTime = some 100 ∧ (s 9).work.carriers[9]? = some newCarrier ∧
    newCarrier.load = .empty ∧ (s 7).work.carriers[7]? = some (loaded .line 880114 (some 7020)) ∧
    (loaded .line 880114 (some 7020)).load ≠ .empty :=
  ⟨fun _ => ⟨loop_quiet _ _ _, rfl, rfl⟩, by decide⟩

/-! ### Trials and drives -/

/-- What R113 asks of a SUBMIT_TRIAL's own fields, met by one request of each kind. -/
theorem witness_TrialIsSubmitted_fields :
    let fields (kind target : Nat) : TrialFields := ⟨kind, target, 5, 3, 60, none, none, none⟩
    let belt : TrialFields := ⟨4, 9, 64, 16, 3600, some 500, some 2500, some 500⟩
    (∀ kind target, let f := fields kind target
      (1 ≤ f.need ∧ f.need ≤ 64 ∧ 1 ≤ f.limit ∧ f.limit ≤ 16 ∧ 10 ≤ f.time ∧ f.time ≤ 3600) ∧
      f.band = none ∧ f.jogSpeed = none ∧ f.jogTime = none) ∧
    (∃ b, trialFields.band = some b ∧ 5 ≤ b ∧ b ≤ 500) ∧ trialFields.kind = 3 ∧ trialFields.jogSpeed = none ∧
    (∃ b, belt.band = some b ∧ 5 ≤ b ∧ b ≤ 500) ∧ (∃ v, belt.jogSpeed = some v ∧ 100 ≤ v ∧ v ≤ 2500) ∧
    (∃ d, belt.jogTime = some d ∧ 20 ≤ d ∧ d ≤ 500) ∧ belt.need ≤ 64 ∧ belt.limit ≤ 16 ∧ belt.time ≤ 3600 ∧
    ¬TrialFields.time { trialFields with time := 3601 } ≤ 3600 ∧ geo.carriers ≤ 320 :=
  ⟨fun _ _ => ⟨⟨by show 1 ≤ 5; decide, by show 5 ≤ 64; decide, by show 1 ≤ 3; decide, by show 3 ≤ 16; decide,
    by show 10 ≤ 60; decide, by show 60 ≤ 3600; decide⟩, rfl, rfl, rfl⟩, ⟨50, by decide⟩, by decide, by decide,
    ⟨500, by decide⟩, ⟨2500, by decide⟩, ⟨500, by decide⟩, by decide⟩

/-- Sixteen trials that run. -/
def sixteen : List Trial := (List.range 16).map fun i => { driveTrial with id := i + 10, target := i + 100 }

/-- The drive's trial: refused by each step of R113, QUEUED, HELD, ACTIVE. -/
theorem witness_TrialIsSubmitted :
    let s (f : Work → Work) := baseWith f
    let unrouted : Point := { drive with route := none }
    let plan (n : Nat) (w : Work) : Work := { w with plan := List.replicate n { driveTrial with id := 9, target := 8 } }
    let unsteady := onLoop { running 30000 12 with steady := false } 0 id
    (∀ f : Work → Work, (f base.work).outbox = [] ∧ (f base.work).dist = none → (s f).Takes .console) ∧
    State.reset.Takes .console ∧ unsteady.Takes .console ∧ 64 ≤ (s (plan 64)).work.plan.length ∧
    State.reset.loop.tracker.geometry = none ∧ base.loop.tracker.geometry = some geo ∧ base.work.point 7 = none ∧
    base.work.point 7020 = some chute ∧ chute.kind ≠ .sensor ∧ chute.custody = .line ∧
    base.work.point 9900 = some drive ∧ drive.kind = .zoneDrive ∧ drive.custody = .console ∧ drive.route ≠ none ∧
    (∃ u ∈ (s (withTrial driveTrial)).work.plan, u.kind ≠ .belt ∧ u.target = 9900) ∧
    (s fun w => w.setPoint unrouted).work.point 9900 = some unrouted ∧ unrouted.route = none ∧
    (¬∃ u ∈ base.work.plan, u.kind ≠ .belt ∧ u.target = 9900) ∧ base.work.plan.length < 64 ∧
    base.work.nextId = 1 ∧ base.work.trial ((1 - 1 + 0) % 255 + 1) = none ∧ base.work.running < 16 ∧
    (∀ u ∈ base.work.plan, u.state ≠ .queued) ∧
    16 ≤ (s fun w => { w with plan := sixteen }).work.running ∧ sixteen.length < 64 ∧
    (∀ u ∈ sixteen, u.target ≠ 9900) ∧ unsteady.loop.tracker.steady = false ∧ base.loop.tracker.steady = true ∧
    base.loop.fences.getLsbD drive.config.zone = false :=
  ⟨fun f h => base_takes f .console ⟨h.1, by rw [h.2]; rfl⟩, takes_of _ _ (by decide), loop_takes _ _ _ _,
    (List.length_replicate (n := 64)).ge, by decide⟩

/-- The id to assign is 254; 254, 255 and 1 are held, so 2 is chosen. -/
theorem witness_TrialIsSubmitted_id :
    let w : Work := { base.work with
      nextId := 254, plan := [254, 255, 1].map fun n => { driveTrial with id := n, target := n } }
    let following (n : Nat) : Nat := (w.nextId - 1 + n) % 255 + 1
    1 ≤ w.nextId ∧ w.nextId ≤ 255 ∧ 2 = following 3 ∧ w.trial 2 = none ∧
    (∀ m < 3, w.trial (following m) ≠ none) ∧ w.plan.length < 64 := by decide

/-- The sensor's trial, at 30,000: the first carrier due is 51, free, taken, and with the table full. -/
theorem witness_TrialIsSubmitted_sensor :
    let y : Window := { entryWindow with carrier := 51 }
    let s (n : Nat) := onLoop (running 30000 12) 0 fun w => { w with windows := List.replicate n y }
    (∀ n, (s n).Takes .console) ∧ geo.Law ∧ FirstDue geo sensor 30000 51 ∧ 512 ≤ (s 512).work.windows.length ∧
    (s 0).loop.tracker.pos = some 30000 ∧ 30000 < geo.length ∧ (s 0).loop.tracker.lock = .locked ∧
    (s 0).loop.fences.getLsbD sensor.config.zone = false ∧ (s 0).work.point 4117 = some sensor ∧
    sensor.custody = .console ∧ sensor.route ≠ none ∧ (s 1).work.windows.length < 512 ∧
    (¬∃ z ∈ (s 0).work.windows, z.sensor = 4117 ∧ z.carrier = 51) ∧
    (∃ z ∈ (s 1).work.windows, z.sensor = 4117 ∧ z.carrier = 51) ∧
    ¬∃ z ∈ (s 1).work.windows, z.sensor = 4117 ∧ z.carrier = (51 + 1) % geo.carriers :=
  ⟨fun _ => loop_takes _ _ _ _, geo_law, firstDue_51, (List.length_replicate (n := 512)).ge, by decide⟩

/-- The chute's trial, with no carrier to claim, and with carrier 7 alone. -/
theorem witness_TrialIsSubmitted_chute :
    let p : Point := { chute with custody := .console }
    let none' := baseWith fun w => w.setPoint p
    let one := baseWith fun w => { w.setPoint p with carriers := w.carriers.set 7 (loaded .console 3 (some 7020)) }
    let free (s : State) (n : Nat) : Prop :=
      (∃ c ref dest, s.work.carriers[n]? = some c ∧ c.load = .loaded .console ref dest) ∧
      ∀ e ∈ s.work.fires, e.carrier ≠ n
    none'.Takes .console ∧ one.Takes .console ∧ (∀ n, ¬free none' n) ∧ free one 7 ∧ (∀ n, free one n → n = 7) ∧
    (∃ u n, p.config.entry = some u ∧ one.work.point u = some n ∧ n.route ≠ none) ∧
    one.work.point 7020 = some p ∧ p.custody = .console ∧ one.work.fires.length < 256 ∧
    (∀ u ∈ one.work.plan, u.kind = .chute → u.state ≠ .active) ∧ one.loop.tracker.steady = true ∧
    one.loop.fences.getLsbD p.config.zone = false ∧ one.loop.fences.getLsbD sensor.config.zone = false := by
  have look {cs : List Carrier} {n : Nat} {c : Carrier} {ref : BitVec 32} {dest : Option Nat} (hc : cs[n]? = some c)
      (hl : c.load = .loaded .console ref dest) : n < cs.length ∧ (cs[n]?.any fun c => c.loadedFor .console) = true :=
    ⟨(List.getElem?_eq_some_iff.1 hc).1, by rw [hc]; simp [Carrier.loadedFor, hl]⟩
  refine ⟨base_takes _ _, base_takes _ _, ?_, ⟨⟨_, _, _, rfl, rfl⟩, by decide⟩, ?_, ⟨4117, sensor, by decide⟩, by decide⟩
  · rintro n ⟨⟨c, ref, dest, hc, hl⟩, -⟩
    have h : ∀ n < 16, (carriers[n]?.any fun c => c.loadedFor .console) = false := by decide
    have := look hc hl
    exact absurd (this.2.symm.trans (h n this.1)) (by decide)
  · rintro n ⟨⟨c, ref, dest, hc, hl⟩, -⟩
    exact carrier_7 n (look hc hl).1 (look hc hl).2

/-- The belt trial of carrier 9, and of carrier 7, which the line's load keeps. -/
theorem witness_TrialIsSubmitted_belt :
    let s (t : Tracker) (es : List Entry) (ts : List Trial) := onLoop t 0 fun w => { w with fires := es, plan := ts }
    (∀ t es ts, (s t es ts).Takes .console) ∧ (9 : Nat) < geo.carriers ∧
    (∃ ref dest, (loaded .line 880114 none).load = .loaded .line ref dest) ∧
    (¬∃ ref dest, newCarrier.load = .loaded .line ref dest) ∧
    base.work.carriers[7]? = some (loaded .line 880114 none) ∧ base.work.carriers[9]? = some newCarrier ∧
    (∃ u ∈ [beltTrial], u.kind = .belt ∧ u.target = 9) ∧ ({ running 0 0 with lock := .coasting } : Tracker).lock ≠ .locked ∧
    (∃ e ∈ [{ entry with carrier := 9 }], e.carrier = 9) ∧ base.work.fires.length < 256 :=
  ⟨fun _ _ _ => loop_takes _ _ _ _, by decide, ⟨880114, none, rfl⟩, by rintro ⟨_, _, h⟩; exact absurd h (by simp [newCarrier]),
    by decide⟩

/-- A chute trial on 7,020 with one item on carrier 9, its entry and its window, beside another trial's window; a drive
trial waits. -/
def tried : Point := { chute with custody := .console, proof := .inTrial, prior := some .failed }

def queuedTrial : Trial := { driveTrial with state := .queued, id := 8, order := 4 }

def itemTrial (i : Item) : Trial := { chuteTrial i with id := 5, items := [i], order := 3 }

def trialEntry : Entry := { entry with carrier := 9, owner := .console, origin := .chuteItem, trial := some 5, seq := 2 }

def trying (t : Trial) (e : Entry) (others : List Trial) (w : Work) : Work :=
  let y : Window := { entryWindow with carrier := 9, trial := 5, order := 1 }
  { w.setPoint tried with
    plan := others ++ [t], fires := [entry, e], fireCount := 3, windows := [y, { y with trial := 2, order := 3 }]
    carriers := w.carriers.set 9 (loaded .console 5 (some 7020)) }

theorem witness_TrialsEnd_refused :
    (baseWith id).Takes .console ∧ ((0 : Nat) = 0 ∨ 255 < 0) ∧ ((256 : Nat) = 0 ∨ 255 < 256) ∧
    base.work.trial 255 = none ∧ base.work.trial 1 = none :=
  ⟨base_takes id .console, by decide⟩

theorem witness_TrialsEnd :
    let i (how : Option ItemReply) : Item := ⟨1, 9, 5, .assigned, none, how⟩
    let s (how : Option ItemReply) (e : Entry) (ts : List Trial) := baseWith (trying (itemTrial (i how)) e ts)
    let sent : Entry := { trialEntry with state := .sent }
    let bare := baseWith (withTrial driveTrial)
    (∀ how e ts, (s how e ts).Takes .console) ∧ bare.Takes .console ∧ bare.work.trial 1 = some driveTrial ∧
    (∀ e ∈ bare.work.fires, e.trial = some 1 → e.orphan = true) ∧ bare.work.windows = [] ∧
    (s none trialEntry [queuedTrial]).work.trial 5 = some (itemTrial (i none)) ∧
    (∀ u ∈ [queuedTrial, itemTrial (i none)], u.id ≠ 5 → u.kind = .chute → u.state ≠ .active) ∧
    (∀ u ∈ [queuedTrial, itemTrial (i none)], u.reasons.noSpace = false) ∧
    (∀ y ∈ (s none sent []).work.windows, ∀ z ∈ (s none sent []).work.windows, y.trial = 5 → z.trial ≠ 5 →
      y.order ≠ z.order) ∧
    (∀ z ∈ [entry, trialEntry], z.trial = some 5 → z.orphan = false → z = trialEntry) ∧ trialEntry.state = .waiting ∧
    (∀ z ∈ [entry, sent], z.trial = some 5 → z.orphan = false → z = sent) ∧ (i none).reply = none ∧
    (itemTrial (i (some .doneKept))).items.find? (fun j => j.carrier == sent.carrier) = some (i (some .doneKept)) ∧
    (s none trialEntry []).work.point 7020 = some tried ∧ (itemTrial (i none)).state = .active ∧
    ({ driveTrial with state := .held } : Trial).state ≠ .active ∧ queuedTrial.kind = .zoneDrive ∧
    (∀ u ∈ [queuedTrial, itemTrial (i none)], u.id ≠ 5 → u.state = .queued → u = queuedTrial) ∧
    (s none trialEntry [queuedTrial]).work.running < 16 ∧
    (s none trialEntry [queuedTrial]).work.point queuedTrial.target = some drive :=
  ⟨fun _ _ _ => base_takes _ _, base_takes _ _, by decide⟩

/-- A belt trial whose jog is on the field. -/
theorem witness_TrialsEnd_belt :
    let e : Entry := { trialEntry with chute := none, origin := .beltJog, trial := some 2, state := .sent }
    let c : Carrier := ⟨.empty, .inTrial, some .proven, none⟩
    let s := baseWith fun w => { w with plan := [beltTrial], fires := [e], carriers := w.carriers.set 9 c }
    s.Takes .console ∧ s.work.trial 2 = some beltTrial ∧ beltTrial.kind = .belt ∧ s.work.carriers[9]? = some c ∧
    (∀ z ∈ s.work.fires, z.trial = some 2 → z.orphan = false → z = e) ∧
    (∀ i ∈ beltTrial.items, i.carrier = e.carrier → i.reply = none) ∧ s.work.windows = [] :=
  ⟨base_takes _ _, by decide⟩

/-- A trial one hit short of its need and one fail short of its limit, with its query outstanding. -/
def lastQuery : Txn := ⟨2, .speedQuery 1 6, 3, 7, .query, 4, 10⟩

def askedRing (y : Txn) : Ring := { busyRing with table := [⟨1, relay, 5, 5, .query, 1, 10⟩, y] }

theorem witness_TrialsEnd_completes :
    let t : Trial := { driveTrial with streak := 4, fails := 2, order := 6 }
    let s := baseWith fun w => withRing (askedRing lastQuery) (withTrial t w)
    s.Quiet ∧ s.work.trial 1 = some t ∧ (s.work.ring .a).state ≠ .down ∧ (s.work.ring .a).node 3 = some linkNode ∧
    linkNode.state ≠ .silent ∧
    (s.work.ring .a).table.find? (fun z => z.tag == 2 && z.node == 3) = some lastQuery ∧
    lastQuery.job = .speedQuery 1 t.order ∧ t.state = .active ∧ t.band = some 50 ∧
    s.work.point t.target = some { drive with proof := .inTrial, prior := some .unproven } ∧
    (∀ e ∈ s.work.fires, e.trial ≠ some 1) ∧ (∀ z ∈ s.work.windows, z.trial ≠ 1) ∧
    ((2540 : Int) - s.loop.tracker.v).natAbs ≤ 50 ∧ 50 < ((2560 : Int) - s.loop.tracker.v).natAbs ∧
    t.need ≤ t.streak + 1 ∧ t.limit ≤ t.fails + 1 ∧ 4 ≤ lastQuery.attempts ∧
    ∀ u ∈ s.work.plan, u.id ≠ 1 → u.state ≠ .queued :=
  ⟨base_quiet _, by decide⟩

theorem witness_PollsAsk :
    let p : Point := { drive with proof := .inTrial, prior := some .unproven }
    let s := baseWith (withTrial driveTrial)
    let asks := baseWith fun w => withRing { busyRing with driveq := [⟨.speedQuery 1 0, 3, 7, 0, false⟩] }
      (withTrial driveTrial w)
    let mute : Ring := { busyRing with state := .enumerating }
    s.Quiet ∧ asks.Quiet ∧ (baseWith fun w => withRing mute (withTrial driveTrial w)).Quiet ∧
    (∃ q ∈ asks.work.ringA.waiting ++ asks.work.ringB.waiting, ∃ n, q.job = .speedQuery n driveTrial.order) ∧
    s.work.ringA.waiting ++ s.work.ringB.waiting = [] ∧ s.work.ringA.table ++ s.work.ringB.table = [] ∧
    s.work.trial 1 = some driveTrial ∧ driveTrial.band = some 50 ∧ (⟨1, 100⟩ : Poll) ∈ s.work.polls ∧
    s.work.point driveTrial.target = some p ∧ p.route = some ⟨.a, 3, 7⟩ ∧ (s.work.ring .a).state = .running ∧
    (s.work.ring .a).downlink ≠ none ∧ (s.work.ring .a).nodeState 3 ≠ .silent ∧ mute.state ≠ .running ∧
    driveTrial.state = .active ∧ driveTrial.fails + 1 < driveTrial.limit :=
  ⟨base_quiet _, base_quiet _, base_quiet _, ⟨⟨.speedQuery 1 0, 3, 7, 0, false⟩, by decide, 1, rfl⟩,
    by decide⟩

/-- The end of a query: its attempts and its trial's state, and a query of a trial that is gone. -/
theorem witness_PollsAsk_replies :
    let t (x : TrialState) : Trial := { driveTrial with state := x, order := 6 }
    let y (n : Nat) : Txn := { lastQuery with attempts := n }
    let s (x : TrialState) (n : Nat) := baseWith fun w => withRing (askedRing (y n)) (withTrial (t x) w)
    let gone : Txn := { lastQuery with job := .speedQuery 9 6 }
    let left := baseWith fun w => withRing (askedRing gone) (withTrial (t .active) w)
    (∀ x n, (s x n).Quiet ∧ (s x n).work.trial 1 = some (t x) ∧
      (s x n).work.ringA.table.find? (fun z => z.tag == 2) = some (y n)) ∧ left.Quiet ∧
    left.work.ringA.table.find? (fun z => z.tag == 2) = some gone ∧ (∀ u ∈ left.work.plan, u.id = 9 → u.order ≠ 6) ∧
    (t .held).state ≠ .active ∧ (t .active).state = .active ∧ busyRing.state ≠ .down ∧ busyRing.node 3 = some linkNode ∧
    linkNode.state ≠ .silent ∧ linkNode.timeouts < 2 ∧ (y 1).node = 3 ∧ (y 1).job = .speedQuery 1 (t .held).order ∧
    ((2540 : Int) - 2500).natAbs ≤ 50 ∧ 50 < ((2560 : Int) - 2500).natAbs ∧ (t .active).streak + 1 < (t .active).need ∧
    (t .active).fails + 1 < (t .active).limit ∧ (y 3).attempts < 4 ∧ 4 ≤ (y 4).attempts ∧ busyRing.downlink ≠ none :=
  ⟨fun _ _ => ⟨base_quiet _, rfl, rfl⟩, base_quiet _, by decide⟩

theorem witness_LoopSpeedIsSet :
    let d : Distribution := ⟨4000, .request, [⟨9900, .sent 4000 false⟩]⟩
    let flying := baseWith fun w => { w with dist := some d }
    let bare := baseWith fun w => { w with points := [sensor] }
    let drives (s : State) : List Point :=
      s.work.points.filter fun p => decide (p.kind = .zoneDrive) && !s.loop.fences.getLsbD p.config.zone
    State.reset.Takes .line ∧ flying.Takes .line ∧ bare.Takes .line ∧ (baseWith id).Takes .line ∧
    State.reset.loop.tracker.geometry = none ∧ flying.loop.tracker.geometry = some geo ∧ flying.work.dist = some d ∧
    d.value = min 5000 geo.vmax ∧ bare.work.dist = none ∧ drives bare = [] ∧ drives base = [drive] ∧
    base.work.point drive.tag = some drive ∧ drive.route = some ⟨.a, 3, 7⟩ ∧ (base.work.ring .a).state = .running ∧
    (base.work.ring .a).downlink ≠ none ∧ (base.work.ring .a).nodeState 3 ≠ .silent :=
  ⟨takes_of _ _ (by decide), base_takes _ .line, base_takes _ .line, base_takes id .line, by decide⟩

/-- A distribution of another value, whose first row is on the field, waits, is ACKED or FAILED; the other row is on the
field or WITHHELD. -/
theorem witness_LoopSpeedIsSet_supersedes :
    let q : Req := ⟨.setSpeed 9900 1500, 3, 7, 1, true⟩
    let rest (x : RowState) : List Row := [⟨9901, x⟩]
    let s (z : BitVec 8) (x y : RowState) (r : Ring) := onLoop (running 30000 12) z fun w =>
      withRing r { w with dist := some ⟨1500, .unfence, ⟨9900, x⟩ :: rest y⟩ }
    let ring (qs : List Req) : Ring := { busyRing with driveq := ⟨.speedQuery 1 1, 3, 7, 1, true⟩ :: qs }
    let down : Ring := { ring [q] with state := .down }
    let waits := s 0 (.sent 1500 true) (.sent 1400 false) (ring [q])
    let asked (s : State) : List Req := s.work.ringA.waiting ++ s.work.ringB.waiting
    (s 0 (.sent 1500 true) (.sent 1400 false) (ring [])).Takes .line ∧ waits.Takes .line ∧
    (s 64 (.sent 1500 true) .withheld (ring [q])).Takes .line ∧ (s 0 (.acked 1500) (.sent 1400 false) (ring [])).Takes .line ∧
    (s 0 (.sent 1500 true) .withheld down).Takes .line ∧ (s 0 (.failed 1500) (.sent 1400 false) down).Takes .line ∧
    (1500 : Nat) ≠ min 5000 geo.vmax ∧
    (∀ y ∈ rest .withheld, y.tag ≠ drive.tag) ∧ (∀ y ∈ rest .withheld, y.state = .withheld) ∧
    (∃ y ∈ rest (.sent 1400 false), y.state ≠ .withheld) ∧ q ∈ asked waits ∧
    (∀ r ∈ asked waits, r = q ∨ r.job = .speedQuery 1 1) ∧
    (∀ r ∈ asked (s 0 (.acked 1500) .withheld (ring [])), r.job = .speedQuery 1 1) ∧
    waits.work.point drive.tag = some drive ∧ waits.loop.fences.getLsbD drive.config.zone = false ∧
    (64#8 : BitVec 8).getLsbD drive.config.zone = true ∧ drive.route = some ⟨.a, 3, 7⟩ ∧
    (waits.work.ring .a).state = .running ∧ (waits.work.ring .a).nodeState 3 ≠ .silent ∧
    (waits.work.ring .a).downlink ≠ none ∧ down.state ≠ .running :=
  ⟨loop_takes _ _ _ _, loop_takes _ _ _ _, loop_takes _ _ _ _, loop_takes _ _ _ _, loop_takes _ _ _ _, loop_takes _ _ _ _,
    by decide⟩

/-- The end of a SET_SPEED: of the value in flight, of an older one, with the mark, settled or not, in a fenced zone. -/
theorem witness_LoopSpeedIsSet_replies :
    let y (n : Nat) : Txn := ⟨2, .setSpeed 9900 1500, 3, 7, .command, n, 10⟩
    let rows (v : Nat) (m : Bool) (x : RowState) : List Row := [⟨9900, .sent v m⟩, ⟨9901, x⟩]
    let d (v : Nat) (m : Bool) (x : RowState) : Distribution := ⟨1500, .unfence, rows v m x⟩
    let s (v n : Nat) (m : Bool) (x : RowState) := baseWith fun w =>
      withRing (askedRing (y n)) { w with dist := some (d v m x) }
    let none' := baseWith (withRing (askedRing (y 1)))
    none'.Quiet ∧ (∀ v n m x, (s v n m x).Quiet ∧ (s v n m x).work.dist = some (d v m x) ∧
      (s v n m x).work.ringA.table.find? (fun z => z.tag == 2) = some (y n) ∧
      (d v m x).rows.find? (fun z => z.tag == 9900) = some ⟨9900, .sent v m⟩) ∧
    none'.work.dist = none ∧ busyRing.state ≠ .down ∧ busyRing.node 3 = some linkNode ∧ linkNode.state ≠ .silent ∧
    linkNode.timeouts < 2 ∧ (y 1).node = 3 ∧ base.work.point 9900 = some drive ∧ (1400 : Nat) ≠ 1500 ∧
    (y 3).attempts < 4 ∧ 4 ≤ (y 4).attempts ∧ drive.route = some ⟨.a, 3, 7⟩ ∧
    base.loop.fences.getLsbD drive.config.zone = false ∧ (64#8 : BitVec 8).getLsbD drive.config.zone = true ∧
    (∀ w ∈ ([⟨9900, .acked 1500⟩, ⟨9901, .withheld⟩] : List Row), w.state = .withheld ∨ w.state = .acked 1500) ∧
    (¬∀ w ∈ ([⟨9900, .acked 1500⟩, ⟨9901, .sent 1500 false⟩] : List Row),
      w.state = .withheld ∨ w.state = .acked 1500 ∨ w.state = .failed 1500) ∧
    busyRing.nodeState 3 ≠ .silent ∧ busyRing.downlink ≠ none :=
  ⟨base_quiet _, fun _ _ _ _ => ⟨base_quiet _, rfl, rfl, rfl⟩, by decide⟩

/-! ### The field ring -/

theorem witness_EnumerationBegins :
    (baseWith id).Takes .console ∧ (0 : Nat) ≠ 1 ∧ (3 : Nat) ≠ 2 ∧ base.Quiet ∧ (base.work.ring .b).state = .down ∧ (base.work.ring .b).signal = false ∧
    (base.work.ring .b).table = [] ∧ (base.work.ring .b).waiting = [] ∧ (base.work.ring .a).state ≠ .down ∧
    (base.work.ring .a).table = [] ∧ (base.work.ring .a).waiting = [] :=
  ⟨base_takes id .console, by decide, by decide, base_quiet id, by decide⟩

theorem witness_SignalLossTakesTheBranchDown :
    base.Quiet ∧ (base.work.ring .a).signal = true ∧ (base.work.ring .a).waiting = [] :=
  ⟨base_quiet id, by decide⟩

/-- A ring on which the one request `j` waits, in the queue of its requester. -/
def waitingRing (j : Job) : Ring :=
  let q : Req := ⟨j, 3, 0, 1, true⟩
  match j with
  | .fire _ => { busyRing with fireq := [q] }
  | .relay .. => { busyRing with relayq := [q] }
  | .setSpeed .. => { busyRing with driveq := [q] }
  | .speedQuery .. => { busyRing with driveq := [q] }

/-- The one waiting request of each requester: a relay, a discharge with one miss and with two, a SET_SPEED on the value
in flight and an older one, a query of an ACTIVE and of a HELD trial. -/
theorem witness_RequestFails :
    let s (j : Job) (f : Work → Work) := baseWith fun w => withRing (waitingRing j) (f w)
    let e (n : Nat) : Entry := { entry with requested := true, misses := n }
    let d (v : Nat) : Distribution := ⟨1500, .unfence, [⟨9900, .sent v false⟩, ⟨9901, .acked 1500⟩]⟩
    let rows (x : RowState) : List Row := [⟨9900, x⟩, ⟨9901, .acked 1500⟩]
    let t (x : TrialState) : Trial := { driveTrial with order := 6, state := x }
    (∀ n, (s (.fire 0) (withEntry (e n))).Takes .console ∧ (s (.fire 0) (withEntry (e n))).work.entryAt 0 = some (e n)) ∧
    (∀ v, (s (.setSpeed 9900 v) fun w => { w with dist := some (d v) }).Takes .console ∧
      (d v).rows.find? (fun z => z.tag == 9900) = some ⟨9900, .sent v false⟩) ∧
    (∀ x, (s (.speedQuery 1 6) (withTrial (t x))).Takes .console ∧
      (s (.speedQuery 1 6) (withTrial (t x))).work.trial 1 = some (t x)) ∧ (s relay id).Takes .console ∧
    ([relay, .fire 0, .setSpeed 9900 1500, .speedQuery 1 6].all fun j =>
      decide ((waitingRing j).waiting = [⟨j, 3, 0, 1, true⟩])) = true ∧
    busyRing.state ≠ .down ∧ busyRing.signal = true ∧ busyRing.table = [] ∧ (e 1).misses < 2 ∧ 2 ≤ (e 2).misses ∧
    (e 2).chute = some 7020 ∧ (e 2).origin = .lineDischarge ∧ base.work.ask 7020 = none ∧ (1400 : Nat) ≠ 1500 ∧
    base.work.point 9900 = some drive ∧ base.loop.fences.getLsbD drive.config.zone = false ∧
    drive.route = some ⟨.a, 3, 7⟩ ∧ (64#8 : BitVec 8).getLsbD drive.config.zone = true ∧
    (∀ z ∈ rows (.failed 1500), z.state = .withheld ∨ z.state = .acked 1500 ∨ z.state = .failed 1500) ∧
    (t .active).state = .active ∧ (t .active).fails + 1 < (t .active).limit ∧ (t .held).state ≠ .active :=
  ⟨fun _ => ⟨base_takes _ _, rfl⟩, fun _ => ⟨base_takes _ _, rfl⟩, fun _ => ⟨base_takes _ _, rfl⟩, base_takes _ _,
    by decide⟩

/-- R147: the frames of a SILENT node, here of an EVENT, an ANNOUNCE and the replies to a relay, to a SPEED query and to a
SET_SPEED. -/
theorem witness_SilentNode :
    let x : Node := { linkNode with state := .silent, timeouts := 3 }
    let r (y : Txn) : Ring := { askedRing y with nodes := (List.replicate 126 Node.initial).set 2 x }
    let y (j : Job) : Txn := ⟨2, j, 3, 7, .query, 1, 10⟩
    let s (j : Job) := baseWith fun w => withRing (r (y j)) w
    (∀ j, (s j).Quiet ∧ (s j).work.ringA.node 3 = some x ∧ (s j).work.ringA.state = .running ∧
      (s j).work.ringA.table.find? (fun z => z.tag == 2 && z.node == 3) = some (y j) ∧
      (s j).work.ringA.table.find? (fun z => z.tag == 2) = some (y j)) ∧
    x.state = .silent ∧ x.state ≠ .absent ∧ x.heard.state = .online ∧ x.heard.timeouts = 0 ∧
    heardNotices .a 3 x = [.nodeState .a 3 .online .heard] ∧ busyRing.acks.length < 32 ∧ busyRing.downlink ≠ none :=
  ⟨fun _ => ⟨base_quiet _, rfl, rfl, rfl, rfl⟩, by decide⟩

theorem witness_NodesAnnounce :
    let s := baseWith (withRing { busyRing with state := .enumerating })
    s.Quiet ∧ (s.work.ring .a).state = .enumerating ∧ base.Quiet ∧ (base.work.ring .a).state = .running ∧
    (126 : Nat) ≤ 126 ∧ NodeKind.carrierLink.code = 4 ∧ (base.work.ring .a).node 126 = some Node.initial ∧
    Node.initial.state ≠ .silent ∧ (s.work.ring .a).node 1 = some Node.initial :=
  ⟨base_quiet _, by decide, base_quiet id, by decide⟩

theorem witness_EventsTakeTheirSequence :
    let node : Node := ⟨.online, some .carrierLink, 16, false, 0⟩
    let full := baseWith (withRing { busyRing with acks := List.replicate 32 ⟨3, false⟩ })
    let enum := baseWith (withRing { busyRing with state := .enumerating })
    base.Quiet ∧ full.Quiet ∧ enum.Quiet ∧ (enum.work.ring .a).state = .enumerating ∧
    (32 : Nat) ≤ (full.work.ring .a).acks.length ∧ (base.work.ring .a).node 3 = some node ∧ node.state ≠ .silent ∧
    (base.work.ring .a).node 1 = some Node.initial ∧ Node.initial.state = .absent ∧
    (base.work.ring .a).state = .running ∧ (base.work.ring .a).acks.length < 32 ∧ (base.work.ring .a).downlink ≠ none ∧
    true ≠ node.expected ∧ false = node.expected ∧
    (∀ p ∈ base.work.points, p.route = some ⟨.a, 3, 9⟩ → p.kind ≠ .sensor ∧ p.kind ≠ .induct) ∧
    (base.work.ring .b).state = .down ∧ (base.work.ring .b).node 126 = some Node.initial :=
  ⟨base_quiet id, base_quiet _, base_quiet _, by decide⟩

/-- A relay's reply, its BUSY at the third and at the fourth attempt, and a reply without a transaction. -/
theorem witness_RepliesEndTransactions :
    let y (n : Nat) : Txn := ⟨2, relay, 3, 5, .query, n, 10⟩
    let s (n : Nat) := baseWith (withRing (askedRing (y n)))
    base.Quiet ∧ (∀ n, (s n).Quiet ∧
      (s n).work.ringA.table.find? (fun z => z.tag == 2 && z.node == 3) = some (y n)) ∧
    base.work.ringA.node 3 = some linkNode ∧ linkNode.state ≠ .silent ∧ base.work.ringA.state ≠ .down ∧
    (∀ z ∈ base.work.ringA.table, ¬(z.tag = 2 ∧ z.node = 3)) ∧ (y 3).attempts < 4 ∧ 4 ≤ (y 4).attempts ∧
    busyRing.downlink ≠ none := ⟨base_quiet id, fun _ => ⟨base_quiet _, rfl⟩, by decide⟩

/-- The entry `e` on the field with attempt `n`, its carrier 7 holding `c`. -/
def onField (e : Entry) (c : Carrier) (n : Nat) (w : Work) : Work :=
  withRing (askedRing ⟨2, .fire 0, 3, 0, .command, n, 10⟩)
    { w with fires := [e, { entry with seq := 7, carrier := 3 }], fireCount := 8, carriers := w.carriers.set 7 c }

/-- An entry SENT with `n` misses, of the origin `o`. -/
def sentEntry (o : Origin) (n : Nat) (orphan : Bool) : Entry :=
  { entry with
    state := .sent, misses := n, origin := o, orphan := orphan, owner := if o = .lineDischarge then .line else .console
    chute := if o = .beltJog then none else some 7020, trial := if o = .lineDischarge then none else some 1 }

def doubleLoaded : Carrier := ⟨.fault .doubleLoad, .unproven, none, none⟩

/-- A discharge on the field; its carrier LOADED, and in FAULT(DOUBLE_LOAD); and entries whose trial has left. -/
theorem witness_RepliesEndTransactions_fire :
    let s (e : Entry) (c : Carrier) (n : Nat) := baseWith (onField e c n)
    let e (n : Nat) := sentEntry .lineDischarge n false
    let carrier := loaded .line 880114 (some 7020)
    (∀ e c n, (s e c n).Quiet ∧
      (s e c n).work.ringA.table.find? (fun z => z.tag == 2 && z.node == 3) = some ⟨2, .fire 0, 3, 0, .command, n, 10⟩ ∧
      (s e c n).work.carriers[7]? = some c) ∧
    (∀ o n b, (s (sentEntry o n b) carrier 1).work.entryAt 0 = some (sentEntry o n b)) ∧
    (e 0).orphan = false ∧ (e 0).chute = some 7020 ∧ (e 0).origin = .lineDischarge ∧
    (s (e 0) carrier 1).work.ask 7020 = none ∧ carrier.load ≠ .fault .doubleLoad ∧
    doubleLoaded.load = .fault .doubleLoad ∧ (e 1).misses < 2 ∧ 2 ≤ (e 2).misses ∧
    (sentEntry .chuteItem 0 true).orphan = true ∧ (sentEntry .chuteItem 0 true).origin = .chuteItem ∧
    (sentEntry .beltJog 0 true).origin = .beltJog :=
  ⟨fun _ _ _ => ⟨base_quiet _, rfl, rfl⟩, fun _ _ _ => rfl, by decide⟩

/-- A chute item on the field, with and without its verdict, ACTIVE and HELD; its window stands between two others. -/
def fieldItem (v : Option Verdict) : Item := ⟨2, 7, 3, .fired, v, none⟩

def itemsTrial (v : Option Verdict) (x : TrialState) : Trial := { chuteTrial (fieldItem v) with state := x }

def itemOnField (v : Option Verdict) (x : TrialState) (n : Nat) (c : Carrier) (w : Work) : Work :=
  { onField (sentEntry .chuteItem n false) c 1 w with
    plan := [{ driveTrial with id := 77 }, itemsTrial v x]
    windows := [{ entryWindow with order := 4, item := some 1 }, entryWindow, { entryWindow with order := 8, trial := 2 }] }

theorem witness_RepliesEndTransactions_item :
    let s (v : Option Verdict) (x : TrialState) (n : Nat) (c : Carrier) := baseWith (itemOnField v x n c)
    let c := loaded .console 3 (some 7020)
    let hit : Option Verdict := some (.hit 12)
    (∀ v x n c, (s v x n c).Quiet ∧ (s v x n c).work.entryAt 0 = some (sentEntry .chuteItem n false) ∧
      (s v x n c).work.entryOf 7 = some (sentEntry .chuteItem n false) ∧
      (s v x n c).work.trial 1 = some (itemsTrial v x) ∧
      (itemsTrial v x).items.find? (fun j => j.carrier == 7) = some (fieldItem v)) ∧
    (∀ v x n, (s v x n c).work.NoClaimBut (sentEntry .chuteItem n false)) ∧
    (∀ n, (s none .active n doubleLoaded).work.NoClaimBut (sentEntry .chuteItem n false)) ∧
    (∀ z ∈ (s none .active 1 c).work.windows, ∀ z' ∈ (s none .active 1 c).work.windows, z.trial = 1 → z.item = some 2 →
      z'.order = z.order ∨ (z'.trial = 1 ∧ z'.item = some 2) → z' = z) ∧
    (∀ u ∈ (s none .active 1 c).work.plan, u.reasons.noSpace = false) ∧
    (itemsTrial none .active).streak + 1 < (itemsTrial none .active).need ∧
    (itemsTrial none .active).fails + 1 < (itemsTrial none .active).limit ∧
    (∀ u ∈ (s hit .held 2 c).work.plan, u.kind = .chute → u.state ≠ .active) ∧
    (fieldItem none).verdict = none ∧ (fieldItem hit).verdict = some (.hit 12) :=
  ⟨fun _ _ _ _ => ⟨base_quiet _, rfl, rfl, rfl, rfl⟩, fun _ _ _ => noClaimBut_of carrier_7,
    fun _ => noClaimBut_of (show ∀ n < 16, ((carriers.set 7 doubleLoaded)[n]?.any fun c => c.loadedFor .console) = true →
      n = 7 by decide), by decide⟩

/-- A jog on the field, its trial ACTIVE and HELD. -/
def jogTrial (x : TrialState) : Trial := { beltTrial with id := 1, target := 7, state := x }

theorem witness_RepliesEndTransactions_jog :
    let s (x : TrialState) (n : Nat) (m : Nat) := baseWith fun w =>
      { onField (sentEntry .beltJog n false) newCarrier m w with plan := [{ driveTrial with id := 77 }, jogTrial x] }
    (∀ x n m, (s x n m).Quiet ∧ (s x n m).work.entryAt 0 = some (sentEntry .beltJog n false) ∧
      (s x n m).work.trial 1 = some (jogTrial x) ∧
      (s x n m).work.ringA.table.find? (fun z => z.tag == 2 && z.node == 3) = some ⟨2, .fire 0, 3, 0, .command, m, 10⟩) ∧
    (jogTrial .active).target = (sentEntry .beltJog 0 false).carrier ∧ base.loop.tracker.geometry = some geo ∧
    (jogTrial .active).band = some 50 ∧ (jogTrial .active).jogSpeed = some 2500 ∧
    (jogTrial .active).streak + 1 < (jogTrial .active).need ∧ (jogTrial .active).fails + 1 < (jogTrial .active).limit ∧
    (s .active 0 1).work.fires.length ≤ 256 ∧ (∀ z ∈ (s .active 0 1).work.fires, z.carrier = 7 → z.seq = 0) ∧
    ((2540 : Int) - 2500).natAbs ≤ 50 ∧ 50 < ((2560 : Int) - 2500).natAbs :=
  ⟨fun _ _ _ => ⟨base_quiet _, rfl, rfl, rfl⟩, by decide⟩

/-- The third miss of a chute item and of a belt jog whose request waits: no window is the item's, no chute trial is
ACTIVE, and the jog's carrier has no other entry. -/
theorem witness_RequestFails_trials :
    let i : Item := ⟨2, 7, 3, .assigned, none, none⟩
    let t : Trial := { chuteTrial i with state := .held }
    let e (o : Origin) : Entry := { sentEntry o 2 false with state := .waiting, requested := true }
    let s (o : Origin) (t : Trial) := baseWith fun w =>
      withRing (waitingRing (.fire 0)) { withEntry (e o) w with plan := [t] }
    let j : Trial := jogTrial .active
    (∀ o t, (s o t).Takes .console ∧ (s o t).work.entryAt 0 = some (e o)) ∧
    t.items.find? (fun j => j.carrier == 7) = some i ∧ (s .chuteItem t).work.windows = [] ∧
    (s .chuteItem t).work.trial 1 = some t ∧ (e .chuteItem).trial = some t.id ∧
    (∀ u ∈ (s .chuteItem t).work.plan, u.kind = .chute → u.state ≠ .active) ∧ (s .beltJog j).work.trial 1 = some j ∧
    (e .beltJog).trial = some j.id ∧ (e .beltJog).chute = none ∧ j.target = (e .beltJog).carrier ∧
    (s .beltJog j).work.fires = [e .beltJog] :=
  ⟨fun _ _ => ⟨base_takes _ _, rfl⟩, by decide⟩

theorem witness_DeadlinesExpire :
    let y : Txn := ⟨2, relay, 3, 5, .query, 1, 10⟩
    let node (n : Nat) : Node := { linkNode with timeouts := n }
    let other : Req := ⟨.relay .console 3 9 .status ⟨.a, 3, 1⟩, 3, 1, 0, false⟩
    let s (n : Nat) := baseWith (withRing { askedRing y with
      nodes := (List.replicate 126 Node.initial).set 2 (node n), relayq := [other] })
    base.Quiet ∧ (∀ n, (s n).Quiet ∧ (s n).work.ringA.table.find? (fun z => z.tag == 2) = some y ∧
      (s n).work.ringA.node 3 = some (node n)) ∧
    (∀ z ∈ base.work.ringA.table, z.tag ≠ 2) ∧ (node 1).timeouts < 2 ∧ 2 ≤ (node 2).timeouts ∧
    (node 2).state ≠ .silent ∧ (∀ q ∈ (s 2).work.ringA.fireq ++ (s 2).work.ringA.driveq, q.node ≠ 3) ∧
    ∀ q ∈ (s 2).work.ringA.relayq, q = other :=
  ⟨base_quiet id, fun _ => ⟨base_quiet _, rfl, rfl⟩, by decide⟩

/-- The fires of the witnesses above, with the transaction found by its tag alone, and alone in the table at a
restart. -/
theorem witness_DeadlinesExpire_fire :
    let alone (w : Work) : Work := { w with ringA := { w.ringA with table := w.ringA.table.drop 1 } }
    let y : Txn := ⟨2, .fire 0, 3, 0, .command, 1, 10⟩
    let s (e : Entry) (c : Carrier) := baseWith fun w => alone (onField e c 1 w)
    let item (v : Option Verdict) := baseWith fun w => alone (itemOnField v .active 1 (loaded .console 3 (some 7020)) w)
    (∀ e c, (s e c).Quiet ∧ (s e c).Takes .console ∧ (s e c).work.ringA.table = [y] ∧ (s e c).work.ringA.waiting = [] ∧
      (baseWith (onField e c 1)).work.ringA.table.find? (fun z => z.tag == 2) = some y) ∧
    (∀ v, (item v).Takes .console ∧ (item v).work.ringA.table = [y] ∧ (item v).work.ringA.waiting = [] ∧
      (item v).work.NoClaimBut (sentEntry .chuteItem 1 false)) ∧
    busyRing.state ≠ .down ∧ busyRing.node 3 = some linkNode ∧ linkNode.timeouts < 2 ∧
    (s (sentEntry .lineDischarge 1 false) newCarrier).work.ask 7020 = none :=
  ⟨fun _ _ => ⟨base_quiet _, base_takes _ _, rfl, rfl, rfl⟩,
    fun _ => ⟨base_takes _ _, rfl, rfl, noClaimBut_of carrier_7⟩, by decide⟩

/-- A table with two transactions to node 5, which may take no more, and two to the link node; tag 3 is the lowest
free one. -/
def fullTable : List Txn :=
  [⟨0, relay, 5, 5, .query, 1, 10⟩, ⟨1, relay, 5, 5, .query, 1, 10⟩, ⟨2, .fire 1, 3, 5, .query, 1, 10⟩,
   ⟨4, relay, 3, 5, .query, 1, 10⟩]

/-- The request can be granted (R151), over that table. -/
def canGo (q : Req) : Prop :=
  let linked : Prop := ∃ g, some geo = some g ∧ g.linkBranch = .a ∧ g.linkNode = q.node
  (∃ tag < 16, ∀ y ∈ fullTable, y.tag ≠ tag) ∧
  (linked → (fullTable.filter fun y => decide (y.node = q.node)).length < 8 ∧ ((∃ n, q.job = .fire n) ∨
    (fullTable.filter fun y => decide (y.node = q.node) && (match y.job with | .fire _ => false | _ => true)).length < 2)) ∧
  (¬linked → (fullTable.filter fun y => decide (y.node = q.node)).length < 2)

theorem canGo_free {q : Req} (h : q.node = 3 ∨ q.node = 9) : canGo q := by
  refine ⟨⟨3, by decide⟩, fun _ => ?_, fun hn => ?_⟩ <;> rcases h with h | h
  · rw [h]; exact ⟨by decide, .inr (by decide)⟩
  · rw [h]; exact ⟨by decide, .inr (by decide)⟩
  · exact absurd ⟨geo, rfl, rfl, h.symm⟩ hn
  · rw [h]; decide

theorem canGo_full {q : Req} (h : q.node = 5) : ¬canGo q := by
  rintro ⟨-, -, hn⟩
  have hn := hn (by rintro ⟨g, ⟨⟩, -, h'⟩; rw [h] at h'; exact absurd h' (by decide))
  rw [h] at hn
  exact absurd hn (by decide)

/-- Each class of request, with a request to the full node before the one that goes, marked to yield and not. -/
theorem witness_FrameEndGrants :
    let speed (n : Nat) (y : Bool) : Req := ⟨.setSpeed 9900 1500, n, 7, 1, y⟩
    let query : Req := ⟨.speedQuery 1 0, 9, 7, 1, true⟩
    let ask (n : Nat) (y : Bool) : Req := ⟨relay, n, 7, 0, y⟩
    let fire (n : Nat) (y : Bool) : Req := ⟨.fire 1, n, 7, 0, y⟩
    let ring (f d r : List Req) : Ring := { busyRing with fireq := f, driveq := d, relayq := r, table := fullTable }
    let s (r : Ring) := baseWith fun w => withRing r (withTrial driveTrial w)
    (∀ r, (s r).Quiet) ∧
    (∀ y, ¬canGo (speed 5 y) ∧ ¬canGo (ask 5 y) ∧ ¬canGo (fire 5 y) ∧ canGo (speed 9 y) ∧ canGo (ask 3 y) ∧
      canGo (fire 3 y)) ∧ canGo query ∧ ({ busyRing with state := .enumerating } : Ring).state ≠ .running ∧
    (ring [] [] []).downlink = some .enumerate ∧ (ring [] [] []).state = .running ∧ (ring [] [] []).acks = [] ∧
    ({ busyRing with acks := [⟨3, true⟩] } : Ring).acks = ⟨3, true⟩ :: [] ∧
    (∀ y ∈ fullTable, y.tag ≠ 3) ∧ (∀ m < 3, ∃ y ∈ fullTable, y.tag = m) ∧
    (s busyRing).work.trial 1 = some driveTrial ∧
    (ring [fire 5 false] [speed 5 false, speed 9 true, speed 5 true, query] [ask 5 false, ask 3 false]).driveq =
      [speed 5 false] ++ speed 9 true :: ([speed 5 true] ++ query :: []) ∧
    (ring [fire 5 false] [speed 5 true] [ask 5 false, ask 3 true, ask 9 false]).relayq =
      [ask 5 false] ++ ask 3 true :: ([] ++ ask 9 false :: []) ∧
    (ring [fire 5 false, fire 3 true] [speed 5 false, speed 9 false] []).fireq = [fire 5 false] ++ fire 3 true :: [] :=
  ⟨fun _ => base_quiet _, fun _ => ⟨canGo_full rfl, canGo_full rfl, canGo_full rfl, canGo_free (.inr rfl),
    canGo_free (.inl rfl), canGo_free (.inl rfl)⟩, canGo_free (.inr rfl), by decide⟩

theorem witness_BadFramesAreCounted :
    base.Quiet ∧ crc16 (19 :: [5, 1, 16]) ≠ numberOf [206, 76] ∧ (base.work.ring .a).rx = [] ∧
    (base.work.ring .a).hunting = false ∧ (base.work.ring .b).state = .down ∧ (base.work.ring .b).rx = [] ∧
    (base.work.ring .a).state ≠ .down ∧ uplinkLength (19#8).toNat = some ([5, 1, 16] : List Byte).length ∧
    (99#8).toNat ≠ 17 ∧ (99#8).toNat ≠ 18 ∧ (99#8).toNat ≠ 19 ∧ (165#8 : Byte) ∉ ([1] : List Byte) :=
  ⟨base_quiet id, by decide +kernel, by decide⟩

theorem witness_RelaysAreAsked :
    let four := baseWith (withRing { busyRing with relayq := List.replicate 4 ⟨relay, 3, 5, 0, false⟩ })
    let down := baseWith (withRing { busyRing with state := .down })
    let mute := baseWith (withRing
      { busyRing with nodes := (List.replicate 126 Node.initial).set 2 { linkNode with state := .silent, timeouts := 3 } })
    (baseWith id).Takes .line ∧ four.Takes .line ∧ down.Takes .line ∧ mute.Takes .line ∧ (3 : Nat) ≠ 1 ∧ (3 : Nat) ≠ 2 ∧
    base.work.point 1 = none ∧ base.work.point 7020 = some chute ∧ chute.route = none ∧
    four.work.point 4117 = some sensor ∧ sensor.route = some ⟨.a, 3, 5⟩ ∧
    4 ≤ four.work.ringA.relays .line + four.work.ringB.relays .line ∧
    base.work.ringA.relays .line + base.work.ringB.relays .line < 4 ∧ (base.work.ring .a).state = .running ∧
    (base.work.ring .a).nodeState 3 ≠ .silent ∧ (base.work.ring .a).downlink ≠ none ∧
    down.work.ringA.relays .line + down.work.ringB.relays .line < 4 ∧ (down.work.ring .a).state ≠ .running ∧
    mute.work.ringA.relays .line + mute.work.ringB.relays .line < 4 ∧ (mute.work.ring .a).nodeState 3 = .silent :=
  ⟨base_takes id .line, base_takes _ .line, base_takes _ .line, base_takes _ .line, by decide⟩

/-! ### Capture channels -/

theorem witness_CaptureCommands :
    let f : CaptureFields := ⟨7, 4117, 62, 2, 0, some 100⟩
    let s := withChannel channel
    let hold := withChannel { channel with mode := .hold, reason := some .stopped }
    s.Takes .console ∧ s.Takes .line ∧ hold.Takes .console ∧ s.channels.length = 8 ∧ f.channel = 7 ∧ f.check = true ∧
    s.work.point 4117 = some sensor ∧ sensor.kind = .sensor ∧ s.channels[7]? = some none ∧
    (∀ i < 8, i ≠ 7 → ∀ c ∈ (s.channels[i]?).join, c.tag ≠ 4117 ∧ (c.first + c.count ≤ 62 ∨ 62 + 2 ≤ c.first)) ∧
    s.channels[1]? = some (some channel) ∧ channel.owner = .console ∧ channel.owner ≠ .line ∧ channel.mode = .accept ∧
    channel.buffer = .single 3 [record 1, record 2] ∧
    (hold.channels[1]?).join.map Channel.mode = some .hold :=
  ⟨takes_of _ _ (by decide), takes_of _ _ (by decide), takes_of _ _ (by decide), by decide⟩

/-- The refusals of CAPTURE_SET: fields out of range, no record, a chute, a channel in ACCEPT, a point that is bound,
blocks that overlap. -/
theorem witness_CaptureCommands_refused :
    let f : CaptureFields := ⟨1, 4117, 62, 2, 0, some 100⟩
    let s := withChannel channel
    s.Takes .line ∧ s.channels.length = 8 ∧ (8 : Nat) < 9 ∧ ¬(63 + 2 ≤ 64) ∧ f.channel ≤ 7 ∧ f.first + f.count ≤ 64 ∧
    s.work.point 1 = none ∧ s.work.point 7020 = some chute ∧ chute.kind ≠ .sensor ∧ chute.kind ≠ .induct ∧
    s.channels[f.channel]? = some (some channel) ∧ channel.mode = .accept ∧ s.work.point 9310 = some induct ∧
    channel.tag = 9310 ∧ s.channels[3]? = some none ∧ channel.tag ≠ 4117 ∧ channel.first < 1 + 2 ∧
    1 < channel.first + channel.count :=
  ⟨takes_of _ _ (by decide), by decide⟩

/-- A channel at the point with `b` in its memory, and an EVENT of the edge that the point does not look for: the
target, the capacity and the end of a half are one record away. -/
theorem witness_CaptureCommands_stores :
    let f : EventFields := ⟨3, 6, false, true, 45, 0⟩
    let c (b : Buffer) : Channel := { channel with buffer := b }
    let s (b : Buffer) : State := { withChannel (c b) with loop := ⟨running 13636 41, 0, 0⟩ }
    let xc : Nat := (((13636 : Int) - ((2500 * 45 + 10000) / 20000 : Nat)) % geo.length).toNat
    let half (x : HalfState) (n : Nat) : Half := ⟨x, (List.range n).map record⟩
    (∀ b, (s b).Quiet ∧ (s b).channels[1]? = some (some (c b)) ∧ (s b).loop.tracker.pos = some 13636 ∧
      ∀ j < 1, ∀ e : Channel, (s b).channels[j]? = some (some e) → e.mode = .accept → e.tag ≠ 9310) ∧
    f.passes = true ∧ busyRing.state = .running ∧ busyRing.downlink ≠ none ∧ busyRing.acks.length < 32 ∧
    busyRing.node 3 = some linkNode ∧ f.seq = linkNode.expected ∧ eventPoint .a f base.work = some induct ∧
    induct.config.edge ≠ some .falling ∧ channel.mode = .accept ∧ channel.tag = induct.tag ∧ ¬geo.maxAge < min 45 4095 ∧
    (running 13636 41).lock = .locked ∧ xc = 13630 ∧ attribution geo 10000 0 xc = (6, 30) ∧
    (half .handed 2).records.length + 1 = 3 ∧ 32 * channel.count = (half .handed 63).records.length + 1 ∧
    (half .filling 62).records.length + 1 < 32 * channel.count ∧
    16 * channel.count = (half .filling 31).records.length + 1 ∧
    (half .filling 30).records.length + 1 < 16 * channel.count ∧ (half .free 0).state ≠ .filling := by
  refine ⟨fun b => ⟨quiet_of _ ⟨rfl, rfl⟩, rfl, rfl, ?_⟩, by decide⟩
  rintro j hj e he
  obtain rfl : j = 0 := Nat.lt_one_iff.1 hj
  simp [withChannel, List.replicate] at he

/-- A double buffer of the console with a HANDED half: stopped while its other half fills, and read. -/
theorem witness_CaptureCommands_double :
    let c : Channel := { channel with buffer := .double ⟨.handed, [record 1, record 2]⟩ ⟨.filling, [record 3]⟩ false }
    let s := withChannel c
    s.Takes .console ∧ s.channels[1]? = some (some c) ∧ c.owner = .console ∧ c.mode = .accept ∧
    (HalfState.handed ≠ .filling) ∧ (1 : Nat) ≤ 8 ∧ s.channels.length = 8 :=
  ⟨takes_of _ _ (by decide), by decide⟩

end Sys2Proof.Tests
end

section
/-! ## What each command makes of the loop

The tracker, the fences and the clock are written by few commands. A request is handled without them, but for
LOAD_GEOMETRY and SET_LOOP_SPEED; a cascade is a function into the core. -/

namespace Sys2Proof.Machine

/-- A request whose handling leaves what the tracker and the zone lines say. -/
def KeepsLoop (handle : State → Reply) : Prop := ∀ s, (handle s).state.loop = s.loop

/-- What the taking of a request leaves of the loop: all of it, or what the handling makes of it. -/
theorem serve_loop_cases (k : Link) (rtag : Nat) (q : Request) (handle : State → Reply) (s : State) :
    (serve k rtag q handle s).loop = s.loop ∨
      ∃ p, (serve k rtag q handle s).loop = (handle (s.setPort k p)).state.loop := by
  unfold serve
  split
  · split
    · exact .inr ⟨_, State.setPort_loop ..⟩
    · exact .inl rfl
  · split
    · dsimp only
      split
      · exact .inl (by simp)
      · exact .inr ⟨_, State.setPort_loop ..⟩
    · exact .inl rfl

theorem serve_loop {handle : State → Reply} (h : KeepsLoop handle) (k : Link) (rtag : Nat) (q : Request) (s : State) :
    (serve k rtag q handle s).loop = s.loop := by
  obtain h' | ⟨p, h'⟩ := serve_loop_cases k rtag q handle s
  · exact h'
  · rw [h', h, State.setPort_loop]

/-! ### The requests -/

@[simp] theorem refuse_state (s : State) (x : Status) : (refuse s x).state = s := rfl
@[simp] theorem ok_state (s : State) (b : List Field) : (ok s b).state = s := rfl
@[simp] theorem disturb_loop (s : State) : (disturb s).loop = s.loop := rfl

theorem createPoint_loop (tag : Nat) (k : PointKind) (c : PointConfig) : KeepsLoop (createPoint tag k c) := by
  intro s
  unfold createPoint
  split
  · rfl
  · dsimp only; split <;> rfl

theorem replacePoint_loop (k : PointKind) (c : PointConfig) (p : Point) : KeepsLoop (replacePoint k c p) := by
  intro s
  unfold replacePoint
  repeat' split
  all_goals rfl

theorem writePoint_loop (f : PointFields) : KeepsLoop (writePoint f) := by
  intro s
  unfold writePoint
  split
  · rfl
  · split
    · split
      · exact createPoint_loop ..
      · exact replacePoint_loop ..
    · rfl

theorem deletePoint_loop (tag : Nat) : KeepsLoop (deletePoint tag) := by
  intro s
  unfold deletePoint
  repeat' split
  all_goals rfl

theorem clearRegister_loop : KeepsLoop clearRegister := by
  intro s
  unfold clearRegister
  split <;> rfl

theorem writeWindow_loop (f : WindowFields) : KeepsLoop (writeWindow f) := by
  intro s
  unfold writeWindow
  dsimp only
  repeat' split
  all_goals rfl

theorem submitTrial_loop (f : TrialFields) : KeepsLoop (submitTrial f) := by
  intro s
  unfold submitTrial
  repeat' split
  all_goals rfl

theorem cancelTrial_loop (id : Nat) : KeepsLoop (cancelTrial id) := by
  intro s
  unfold cancelTrial
  repeat' split
  all_goals rfl

theorem takePoint_loop (tag : Nat) : KeepsLoop (takePoint tag) := by
  intro s
  unfold takePoint
  repeat' split
  all_goals rfl

theorem giveBack_loop (tag : Nat) : KeepsLoop (giveBack tag) := by
  intro s
  unfold giveBack
  repeat' split
  all_goals rfl

theorem restartBranch_loop (code : Nat) : KeepsLoop (restartBranch code) := by
  intro s
  unfold restartBranch
  repeat' split
  all_goals rfl

theorem setService_loop (tag service : Nat) : KeepsLoop (setService tag service) := by
  intro s
  unfold setService
  repeat' split
  all_goals rfl

theorem releasePoint_loop (p : Point) : KeepsLoop (releasePoint p) := by
  intro s
  unfold releasePoint
  dsimp only
  split <;> rfl

theorem answerAsk_loop (tag answer : Nat) : KeepsLoop (answerAsk tag answer) := by
  intro s
  unfold answerAsk
  repeat' split
  case h_2 => exact releasePoint_loop ..
  all_goals rfl

theorem discharge_loop (k : Link) (carrier chute : Nat) : KeepsLoop (discharge k carrier chute) := by
  intro s
  unfold discharge
  dsimp only
  repeat' split
  all_goals rfl

theorem cancelDischarge_loop (k : Link) (carrier : Nat) : KeepsLoop (cancelDischarge k carrier) := by
  intro s
  unfold cancelDischarge
  repeat' split
  all_goals rfl

theorem clearCarrier_loop (carrier : Nat) : KeepsLoop (clearCarrier carrier) := by
  intro s
  unfold clearCarrier
  repeat' split
  all_goals rfl

theorem readPoint_loop (tag : Nat) : KeepsLoop (readPoint tag) := by
  intro s
  unfold readPoint
  split <;> rfl

theorem listPoints_loop (f : ListFields) : KeepsLoop (listPoints f) := by
  intro s
  unfold listPoints
  split <;> rfl

theorem readWindow_loop (n : Nat) : KeepsLoop (readWindow n) := by
  intro s
  unfold readWindow
  split <;> rfl

theorem readCarrier_loop (n : Nat) : KeepsLoop (readCarrier n) := by
  intro s
  unfold readCarrier
  repeat' split
  all_goals rfl

theorem readTracker_loop : KeepsLoop readTracker := fun _ => rfl

theorem readTrial_loop (id : Nat) : KeepsLoop (readTrial id) := by
  intro s
  unfold readTrial
  repeat' split
  all_goals rfl

theorem readBranch_loop (code : Nat) : KeepsLoop (readBranch code) := by
  intro s
  unfold readBranch
  split <;> rfl

theorem nodeQuery_loop (k : Link) (rtag tag item : Nat) : KeepsLoop (nodeQuery k rtag tag item) := by
  intro s
  unfold nodeQuery
  repeat' split
  all_goals rfl

theorem digestRequest_loop (k : Link) : KeepsLoop (digestRequest k) := by
  intro s
  unfold digestRequest
  repeat' split
  all_goals rfl

theorem captureSet_loop (k : Link) (f : CaptureFields) : KeepsLoop (captureSet k f) := by
  intro s
  unfold captureSet
  repeat' split
  all_goals rfl

theorem captureStop_loop (k : Link) (n : Nat) : KeepsLoop (captureStop k n) := by
  intro s
  unfold captureStop
  repeat' split
  all_goals rfl

theorem captureOff_loop (n : Nat) : KeepsLoop (captureOff n) := by
  intro s
  unfold captureOff
  split <;> rfl

theorem captureRead_loop (k : Link) (n count : Nat) : KeepsLoop (captureRead k n count) := by
  intro s
  unfold captureRead
  dsimp only
  repeat' split
  all_goals rfl

theorem fetchNotices_loop (k : Link) (max : Nat) : KeepsLoop (fetchNotices k max) := by
  intro s
  unfold fetchNotices
  split
  · rfl
  · exact State.setPort_loop ..

/-! ### The events -/

theorem offerCapture_loop (tag : Nat) (x : CaptureRecord) (s : State) : (offerCapture tag x s).loop = s.loop := by
  unfold offerCapture
  dsimp only
  repeat' split
  all_goals rfl

theorem takeEvent_loop (br : Branch) (f : EventFields) (s : State) : (takeEvent br f s).loop = s.loop := by
  unfold takeEvent intake
  dsimp only
  split
  · split
    · rfl
    · exact offerCapture_loop ..
  · rfl

theorem uplinkArrives_loop (br : Branch) (f : UplinkFrame) (s : State) : (uplinkArrives br f s).loop = s.loop := by
  cases f with
  | event e => unfold uplinkArrives eventArrives; dsimp only; split; exacts [takeEvent_loop .., rfl]
  | reply e => unfold uplinkArrives replyArrives; dsimp only; split <;> rfl
  | announce e => unfold uplinkArrives announceArrives; dsimp only; split <;> rfl

theorem uplinkFrames_loop (br : Branch) (fuel : Nat) (bs : List Byte) (s : State) :
    (uplinkFrames br fuel bs s).loop = s.loop := by
  induction fuel generalizing bs s with
  | zero => rfl
  | succ fuel ih =>
    unfold uplinkFrames
    split
    case h_1 => rfl
    case h_2 => exact ih ..
    case h_3 =>
      dsimp only
      split
      · split
        · rfl
        · exact ih ..
      · exact ih ..
    case h_4 => rw [ih, State.settle_loop, uplinkArrives_loop]

theorem uplinkBytes_loop (br : Branch) (bs : List Byte) (s : State) : (uplinkBytes br bs s).loop = s.loop := by
  unfold uplinkBytes
  dsimp only
  generalize (if (s.work.ring br).hunting = true then _ else _ : List Byte) = bs
  split
  · rfl
  · exact uplinkFrames_loop ..

theorem portReset_loop (k : Link) (s : State) : (portReset k s).loop = s.loop := by
  cases k <;> rfl

theorem endWalk_loop (s : State) : (endWalk s).loop = s.loop := by
  unfold endWalk
  split <;> rfl

/-- A frame that is taken only while its branch hears leaves the loop. -/
theorem heard_loop {s u : State} (h : u.loop = s.loop) (b : Bool) : (if b then u.settle else s).loop = s.loop := by
  cases b
  · rfl
  · exact h

end Sys2Proof.Machine
end

section
/-! ## What the loop's events make of the tracker

Nothing in the core reaches the tracker, so each event of the loop is a function of the tracker alone: below they are
named, and each is tied to the model's function on the state. -/

namespace Sys2Proof.Machine

@[simp] theorem State.setTracker_loop (s : State) (t : Tracker) :
    (s.setTracker t).loop = { s.loop with tracker := t } := rfl
@[simp] theorem State.postSteady_loop (s : State) (b : Bool) : (s.postSteady b).loop = s.loop := rfl

@[simp] theorem lockChanged_loop (before : Loop) (c : LockCause) (s : State) :
    (lockChanged before c s).loop = s.loop := by
  unfold lockChanged
  dsimp only
  split <;> rfl

@[simp] theorem loseLock_loop (x : Lock) (c : LockCause) (s : State) :
    (loseLock x c s).loop = { s.loop with tracker := s.loop.tracker.loseLock x } := lockChanged_loop ..

/-- The tracker after the check of the home distance (R15). -/
def Tracker.checkHome (t : Tracker) (g : Geometry) : Tracker :=
  if t.lock.placed && decide (t.homeDist > (g.length : Int) + g.homeTol) then
    if t.lock = .locked then
      { t with lock := .coasting, coast := 1, revolution := t.revolution + 1, homeDist := t.homeDist - g.length }
    else if t.coast < 2 then
      { t with coast := t.coast + 1, revolution := t.revolution + 1, homeDist := t.homeDist - g.length }
    else t.loseLock .seeking
  else t

/-- The tracker after a step of `z` mm (R6, R15). -/
def Tracker.moveBy (t : Tracker) (g : Geometry) (z : Int) : Tracker :=
  if z > 0 then (t.step g z).checkHome g else t.step g z

/-- The tracker after a count (R5). -/
def Tracker.applyCount (t : Tracker) (g : Geometry) (delta : Int) : Tracker :=
  Tracker.moveBy { t with frac := (accumulate t.frac delta).1 } g (accumulate t.frac delta).2

/-- The states in which lock can be lost (R17). -/
def Lock.losable : Lock → Bool
  | .verifying => true
  | .locked => true
  | .coasting => true
  | _ => false

/-- The tracker after a loss that takes effect in VERIFYING, LOCKED and COASTING alone (R4, R8). -/
def Tracker.loseIfHeld (t : Tracker) : Tracker := if t.lock.losable then t.loseLock .seeking else t

/-- The tracker after a change of the encoder inputs (R4). -/
def Tracker.encoderChange (t : Tracker) (encA encB : Bool) : Tracker :=
  let u := { t with encA := encA, encB := encB }
  match t.geometry, classify t encA encB with
  | none, _ => u
  | some _, .same => u
  | some g, .forward => u.applyCount g g.scale
  | some g, .reverse => u.applyCount g (-(g.scale : Int))
  | some _, .illegal => u.loseIfHeld

/-- The tracker after an accepted home (R13, R16). -/
def Tracker.acceptedHome (t : Tracker) (g : Geometry) : Tracker :=
  let u := Tracker.acceptHome { t with pos := some 0 } g
  if t.lock = .coasting then { u with coast := 0, lock := .locked } else u

/-- The tracker after a rejected home (R14). -/
def Tracker.rejectedHome (t : Tracker) : Tracker :=
  if t.rejected + 1 ≥ 2 then t.loseLock .verifying else { t with rejected := t.rejected + 1 }

/-- The tracker after a home event (R12, R13, R14). -/
def Tracker.homeSeen (t : Tracker) : Tracker :=
  match t.geometry with
  | none => t
  | some g =>
    match t.lock with
    | .noGeometry => t
    | .seeking => { t with lock := .verifying, homeDist := 0 }
    | .verifying =>
      if homeWithin g t.homeDist then { t.acceptHome g with lock := .locked, pos := some 0, coast := 0 }
      else { t with homeDist := 0 }
    | .locked => if homeWithin g t.homeDist then t.acceptedHome g else t.rejectedHome
    | .coasting => if homeWithin g t.homeDist then t.acceptedHome g else t.rejectedHome

/-- The tracker after the loss of a reverse sample (R8). -/
def Tracker.reverseLoss (t : Tracker) : Tracker := if t.reverse then t.loseIfHeld else t

/-- The tracker after a sample expiry (R7 to R10). -/
def Tracker.sampleExpiry (t : Tracker) : Tracker := t.closeSample.sampleMotion.reverseLoss.sampleSteady

/-! ### They are what the model's events do -/

theorem checkHome_loop (g : Geometry) (s : State) :
    (Machine.checkHome g s).loop = { s.loop with tracker := s.loop.tracker.checkHome g } := by
  unfold Machine.checkHome Tracker.checkHome
  dsimp only
  split
  · split
    · exact lockChanged_loop ..
    · split
      · rfl
      · exact loseLock_loop ..
  · rfl

theorem moveBy_loop (g : Geometry) (z : Int) (s : State) :
    (Machine.moveBy g z s).loop = { s.loop with tracker := s.loop.tracker.moveBy g z } := by
  unfold Machine.moveBy Tracker.moveBy
  dsimp only
  split
  · rw [checkHome_loop]
    split <;> rfl
  · rfl

theorem applyCount_loop (g : Geometry) (delta : Int) (s : State) :
    (Machine.applyCount g delta s).loop = { s.loop with tracker := s.loop.tracker.applyCount g delta } :=
  moveBy_loop ..

theorem illegalMove_loop (s : State) :
    (illegalMove s).loop = { s.loop with tracker := s.loop.tracker.loseIfHeld } := by
  unfold illegalMove Tracker.loseIfHeld
  split <;> simp [*, Lock.losable]

theorem encoderChange_loop (a b : Bool) (s : State) :
    (Machine.encoderChange a b s).loop = { s.loop with tracker := s.loop.tracker.encoderChange a b } := by
  cases hg : s.loop.tracker.geometry with
  | none => simp [Machine.encoderChange, Tracker.encoderChange, hg]
  | some g =>
    cases hc : classify s.loop.tracker a b <;>
      simp [Machine.encoderChange, Tracker.encoderChange, hg, hc, applyCount_loop, illegalMove_loop]

theorem snapHome_loop (g : Geometry) (s : State) :
    (snapHome g s).loop = { s.loop with tracker := { s.loop.tracker with pos := some 0 } } := by
  unfold snapHome
  dsimp only
  split
  · rfl
  · split <;> rfl

theorem acceptedHome_loop (g : Geometry) (s : State) :
    (Machine.acceptedHome g s).loop = { s.loop with tracker := s.loop.tracker.acceptedHome g } := by
  unfold Machine.acceptedHome Tracker.acceptedHome
  simp only [snapHome_loop, Tracker.acceptHome]
  split <;> simp [snapHome_loop]

theorem rejectedHome_loop (s : State) :
    (Machine.rejectedHome s).loop = { s.loop with tracker := s.loop.tracker.rejectedHome } := by
  unfold Machine.rejectedHome Tracker.rejectedHome
  dsimp only
  split
  · exact loseLock_loop ..
  · rfl

theorem homeSeen_loop (s : State) :
    (Machine.homeSeen s).loop = { s.loop with tracker := s.loop.tracker.homeSeen } := by
  have hhome (g : Geometry) : (if homeWithin g s.loop.tracker.homeDist then Machine.acceptedHome g s
      else Machine.rejectedHome s).loop = { s.loop with
        tracker := if homeWithin g s.loop.tracker.homeDist then s.loop.tracker.acceptedHome g
          else s.loop.tracker.rejectedHome } := by
    split
    · exact acceptedHome_loop ..
    · exact rejectedHome_loop ..
  cases hg : s.loop.tracker.geometry with
  | none => simp [Machine.homeSeen, Tracker.homeSeen, hg]
  | some g =>
    cases hl : s.loop.tracker.lock with
    | noGeometry => simp [Machine.homeSeen, Tracker.homeSeen, hg, hl]
    | seeking => simp [Machine.homeSeen, Tracker.homeSeen, hg, hl]
    | verifying =>
      cases hw : homeWithin g s.loop.tracker.homeDist <;>
        simp [Machine.homeSeen, Tracker.homeSeen, hg, hl, hw, Tracker.acceptHome]
    | locked => simpa [Machine.homeSeen, Tracker.homeSeen, hg, hl] using hhome g
    | coasting => simpa [Machine.homeSeen, Tracker.homeSeen, hg, hl] using hhome g

theorem reverseLoss_loop (s : State) :
    (Machine.reverseLoss s).loop = { s.loop with tracker := s.loop.tracker.reverseLoss } := by
  unfold Machine.reverseLoss Tracker.reverseLoss Tracker.loseIfHeld
  split
  · split <;> simp [*, Lock.losable]
  · rfl

theorem steadyTest_loop (s : State) :
    (steadyTest s).loop = { s.loop with tracker := s.loop.tracker.sampleSteady } := by
  unfold steadyTest
  dsimp only
  split <;> rfl

theorem sampleExpiry_loop (s : State) :
    (Machine.sampleExpiry s).loop =
      { s.loop with tracker := s.loop.tracker.sampleExpiry, clock := s.loop.clock + 4 } := by
  unfold Machine.sampleExpiry Tracker.sampleExpiry
  dsimp only [elapse, State.mapWork]
  rw [steadyTest_loop, reverseLoss_loop]
  rfl

theorem loadGeometry_loop (f : GeometryFields) (s : State) :
    (loadGeometry f s).state.loop = s.loop ∨
      ∃ g, f.check = some g ∧
        (loadGeometry f s).state.loop = { s.loop with tracker := s.loop.tracker.load g } := by
  unfold loadGeometry
  split
  · exact .inl rfl
  · next g hg =>
    split
    · exact .inl rfl
    · split
      · exact .inl rfl
      · exact .inr ⟨g, hg, lockChanged_loop ..⟩

theorem setLoopSpeed_loop (speed : Nat) (s : State) :
    (setLoopSpeed speed s).state.loop = s.loop ∨
      ∃ g, s.loop.tracker.geometry = some g ∧ (setLoopSpeed speed s).state.loop =
        { s.loop with tracker := { s.loop.tracker with setpoint := min speed g.vmax } } := by
  unfold setLoopSpeed
  split
  · exact .inl rfl
  · next g hg => exact .inr ⟨g, hg, rfl⟩

theorem fenceZone_loop (zone : Nat) (s : State) :
    (fenceZone zone s).loop =
      if s.loop.fenced zone then s.loop else { s.loop with fences := s.loop.fences ||| 1#8 <<< zone } := by
  unfold fenceZone
  split <;> rfl

theorem unfenceZone_loop (zone : Nat) (s : State) :
    (unfenceZone zone s).loop =
      if s.loop.fenced zone then { s.loop with fences := s.loop.fences &&& ~~~(1#8 <<< zone) } else s.loop := by
  unfold unfenceZone
  split <;> rfl

/-! ### What a command can make of the loop -/

/-- The taking of LOAD_GEOMETRY leaves the loop or loads a geometry within the ranges of R1. -/
theorem serve_loadGeometry_loop (rtag : Nat) (f : GeometryFields) (s : State) :
    let t := serve .console rtag (.loadGeometry f) (loadGeometry f) s
    t.loop = s.loop ∨
      ∃ g, f.check = some g ∧ t.loop = { s.loop with tracker := s.loop.tracker.load g } := by
  obtain h | ⟨p, h⟩ := serve_loop_cases .console rtag (.loadGeometry f) (loadGeometry f) s
  · exact .inl h
  · obtain h' | ⟨g, hg, h'⟩ := loadGeometry_loop f (s.setPort .console p)
    · exact .inl (h.trans h')
    · exact .inr ⟨g, hg, h.trans h'⟩

/-- The taking of SET_LOOP_SPEED leaves the loop but for the setpoint copy (R11). -/
theorem serve_setLoopSpeed_loop (rtag speed : Nat) (s : State) :
    let t := serve .line rtag (.setLoopSpeed speed) (setLoopSpeed speed) s
    t.loop = s.loop ∨ ∃ g, s.loop.tracker.geometry = some g ∧
      t.loop = { s.loop with tracker := { s.loop.tracker with setpoint := min speed g.vmax } } := by
  obtain h | ⟨p, h⟩ := serve_loop_cases .line rtag (.setLoopSpeed speed) (setLoopSpeed speed) s
  · exact .inl h
  · obtain h' | ⟨g, hg, h'⟩ := setLoopSpeed_loop speed (s.setPort .line p)
    · exact .inl (h.trans h')
    · exact .inr ⟨g, hg, h.trans h'⟩

end Sys2Proof.Machine
end

section
namespace Sys2Proof

/-- The commands that can change what the tracker or the zone lines say. -/
def Instr.changesLoop : Instr → Bool
  | .powerOn _ => true
  | .resetPin _ => true
  | .loadGeometry _ _ => true
  | .setLoopSpeed _ _ => true
  | .encoderEvent _ _ => true
  | .homeEvent => true
  | .sampleTimerExpiry => true
  | .zoneFenced _ => true
  | .zoneUnfenced _ => true
  | _ => false

end Sys2Proof

namespace Sys2Proof.Machine

theorem exec_keeps_loop {c : Instr} {s t : State} (h : exec c s = .next t) (hc : c.changesLoop = false) :
    t.loop = s.loop := by
  cases c with
  | powerOn x => cases hc
  | resetPin x => cases hc
  | breakBegin k => cases h; exact State.setPort_loop ..
  | portReset k => cases h; exact portReset_loop ..
  | breakEnd k => cases h; exact State.setPort_loop ..
  | requestFrame k bs => cases h; exact State.setPort_loop ..
  | loadGeometry rtag g => cases hc
  | writePoint rtag p => cases h; exact serve_loop (writePoint_loop p) ..
  | deletePoint rtag tag => cases h; exact serve_loop (deletePoint_loop tag) ..
  | clearRegister rtag => cases h; exact serve_loop clearRegister_loop ..
  | writeWindow rtag w => cases h; exact serve_loop (writeWindow_loop w) ..
  | submitTrial rtag f => cases h; exact serve_loop (submitTrial_loop f) ..
  | cancelTrial rtag id => cases h; exact serve_loop (cancelTrial_loop id) ..
  | take rtag tag => cases h; exact serve_loop (takePoint_loop tag) ..
  | giveBack rtag tag => cases h; exact serve_loop (giveBack_loop tag) ..
  | restartBranch rtag code => cases h; exact serve_loop (restartBranch_loop code) ..
  | setLoopSpeed rtag speed => cases hc
  | setService rtag tag x => cases h; exact serve_loop (setService_loop tag x) ..
  | answerAsk rtag tag x => cases h; exact serve_loop (answerAsk_loop tag x) ..
  | discharge k rtag n chute => cases h; exact serve_loop (discharge_loop k n chute) ..
  | cancelDischarge k rtag n => cases h; exact serve_loop (cancelDischarge_loop k n) ..
  | clearCarrier k rtag n => cases h; exact serve_loop (clearCarrier_loop n) ..
  | readPoint k rtag tag => cases h; exact serve_loop (readPoint_loop tag) ..
  | listPoints k rtag q => cases h; exact serve_loop (listPoints_loop q) ..
  | readWindow k rtag n => cases h; exact serve_loop (readWindow_loop n) ..
  | readCarrier k rtag n => cases h; exact serve_loop (readCarrier_loop n) ..
  | readTracker k rtag => cases h; exact serve_loop readTracker_loop ..
  | readTrial k rtag id => cases h; exact serve_loop (readTrial_loop id) ..
  | readBranch k rtag code => cases h; exact serve_loop (readBranch_loop code) ..
  | nodeQuery k rtag tag item => cases h; exact serve_loop (nodeQuery_loop k rtag tag item) ..
  | digest k rtag => cases h; exact serve_loop (digestRequest_loop k) ..
  | captureSet k rtag f => cases h; exact serve_loop (captureSet_loop k f) ..
  | captureStop k rtag n => cases h; exact serve_loop (captureStop_loop k n) ..
  | captureOff k rtag n => cases h; exact serve_loop (captureOff_loop n) ..
  | captureRead k rtag n m => cases h; exact serve_loop (captureRead_loop k n m) ..
  | fetchNotices k rtag m => cases h; exact serve_loop (fetchNotices_loop k m) ..
  | encoderEvent a b => cases hc
  | homeEvent => cases hc
  | sampleTimerExpiry => cases hc
  | zoneFenced z => cases hc
  | zoneUnfenced z => cases hc
  | ringSignalLost br => cases h; rfl
  | ringSignalReturned br => cases h; rfl
  | announcePeriodEnd br => cases h; rfl
  | uplinkBadFrame br bs => cases h; exact heard_loop (uplinkBytes_loop ..) _
  | announceFrame br f => cases h; exact heard_loop (uplinkArrives_loop br (.announce f) s) _
  | eventFrame br f => cases h; exact heard_loop (uplinkArrives_loop br (.event f) s) _
  | replyFrame br f => cases h; exact heard_loop (uplinkArrives_loop br (.reply f) s) _
  | downlinkFrameEnd br => cases h; rfl
  | replyDeadlineExpiry br tag => cases h; rfl
  | askTimerExpiry tag => cases h; rfl
  | digestWalkComplete => cases h; exact endWalk_loop s
  | trialTimeExpiry id => cases h; rfl
  | pollTimerExpiry id => cases h; rfl
  | answerFrameSent k => cases h; exact State.setPort_loop ..

/-- A zone's bit in the fence states after it is set. -/
theorem fences_stop (x : BitVec 8) (z : Fin 8) {i : Nat} (hi : i < 8) :
    (x ||| 1#8 <<< z.val).getLsbD i = if i = z.val then true else x.getLsbD i := by
  obtain rfl | h := eq_or_ne i z.val
  · simp [hi]
  · simp only [BitVec.getLsbD_or, BitVec.getLsbD_shiftLeft, BitVec.getLsbD_one, h, if_false]
    by_cases h' : i < z.val
    · simp [h']
    · simp [show ¬ i - z.val = 0 by omega]

/-- A zone's bit in the fence states after it is cleared. -/
theorem fences_run (x : BitVec 8) (z : Fin 8) {i : Nat} (hi : i < 8) :
    (x &&& ~~~(1#8 <<< z.val)).getLsbD i = if i = z.val then false else x.getLsbD i := by
  obtain rfl | h := eq_or_ne i z.val
  · simp [hi]
  · simp only [BitVec.getLsbD_and, BitVec.getLsbD_not, BitVec.getLsbD_shiftLeft, BitVec.getLsbD_one, h, if_false]
    by_cases h' : i < z.val
    · simp [h', hi]
    · simp [show ¬ i - z.val = 0 by omega, hi]

/-- A zone line that changes to STOP sets its bit alone (R73). -/
theorem fenceZone_bits (z : Fin 8) (s : State) :
    (fenceZone z.val s).loop.tracker = s.loop.tracker ∧
    ∀ i < 8, (fenceZone z.val s).loop.fences.getLsbD i =
      if i = z.val then true else s.loop.fences.getLsbD i := by
  rw [fenceZone_loop]
  split
  · next hz =>
    refine ⟨rfl, fun i _ => ?_⟩
    split
    · next hi => rw [hi]; exact hz
    · rfl
  · exact ⟨rfl, fun i hi => fences_stop _ z hi⟩

/-- A zone line that changes to RUN clears its bit alone (R73). -/
theorem unfenceZone_bits (z : Fin 8) (s : State) :
    (unfenceZone z.val s).loop.tracker = s.loop.tracker ∧
    ∀ i < 8, (unfenceZone z.val s).loop.fences.getLsbD i =
      if i = z.val then false else s.loop.fences.getLsbD i := by
  rw [unfenceZone_loop]
  split
  · exact ⟨rfl, fun i hi => fences_run _ z hi⟩
  · next hz =>
    refine ⟨rfl, fun i _ => ?_⟩
    split
    · next hi => rw [hi]; exact Bool.eq_false_of_not_eq_true hz
    · rfl

end Sys2Proof.Machine

open Sys2Proof Sys2Proof.Machine

/-- Settles O18: the events of the loop each write the tracker or one fence bit; everything else is
`exec_keeps_loop`. -/
theorem loopChangesOnlyAtItsEvents : Obligations.LoopChangesOnlyAtItsEvents := by
  unfold Obligations.LoopChangesOnlyAtItsEvents
  intro c s t h
  cases c
  case powerOn => trivial
  case resetPin => trivial
  case loadGeometry rtag f =>
    cases h
    obtain h' | ⟨g, -, h'⟩ := serve_loadGeometry_loop rtag f s <;> simp [h']
  case setLoopSpeed rtag speed =>
    cases h
    obtain h' | ⟨g, -, h'⟩ := serve_setLoopSpeed_loop rtag speed s <;> simp [h']
  case encoderEvent a b => cases h; simp [encoderChange_loop]
  case homeEvent => cases h; simp [homeSeen_loop]
  case sampleTimerExpiry => cases h; simp [sampleExpiry_loop]
  case zoneFenced z => cases h; exact fenceZone_bits z s
  case zoneUnfenced z => cases h; exact unfenceZone_bits z s
  all_goals exact exec_keeps_loop h rfl
end

section
namespace Sys2Proof.Machine

/-! ## The revolution count -/

theorem Tracker.step_frame (t : Tracker) (g : Geometry) (z : Int) :
    (t.step g z).lock = t.lock ∧ (t.step g z).revolution = t.revolution := by
  unfold Tracker.step
  dsimp only
  split <;> exact ⟨rfl, rfl⟩

@[simp] theorem Tracker.step_lock (t : Tracker) (g : Geometry) (z : Int) : (t.step g z).lock = t.lock :=
  (t.step_frame g z).1
@[simp] theorem Tracker.step_revolution (t : Tracker) (g : Geometry) (z : Int) :
    (t.step g z).revolution = t.revolution := (t.step_frame g z).2

/-- The count stays or grows by one. -/
def Tracker.CountsTo (t u : Tracker) : Prop := u.revolution = t.revolution ∨ u.revolution = t.revolution + 1

theorem Tracker.countsTo_checkHome (t : Tracker) (g : Geometry) : t.CountsTo (t.checkHome g) := by
  unfold Tracker.checkHome
  split
  · split
    · exact .inr rfl
    · split
      · exact .inr rfl
      · exact .inl rfl
  · exact .inl rfl

theorem Tracker.countsTo_moveBy (t : Tracker) (g : Geometry) (z : Int) : t.CountsTo (t.moveBy g z) := by
  unfold Tracker.moveBy
  split
  · simpa [Tracker.CountsTo] using (t.step g z).countsTo_checkHome g
  · exact .inl (t.step_revolution g z)

theorem Tracker.loseIfHeld_revolution (t : Tracker) : t.loseIfHeld.revolution = t.revolution := by
  unfold Tracker.loseIfHeld
  split <;> rfl

theorem Tracker.countsTo_encoderChange (t : Tracker) (a b : Bool) : t.CountsTo (t.encoderChange a b) := by
  unfold Tracker.encoderChange
  dsimp only
  split
  · exact .inl rfl
  · exact .inl rfl
  · exact Tracker.countsTo_moveBy ..
  · exact Tracker.countsTo_moveBy ..
  · exact .inl (Tracker.loseIfHeld_revolution ..)

theorem Tracker.countsTo_home (t : Tracker) (g : Geometry) :
    t.CountsTo (if homeWithin g t.homeDist then t.acceptedHome g else t.rejectedHome) := by
  split
  · unfold Tracker.acceptedHome
    dsimp only
    split <;> exact .inr rfl
  · unfold Tracker.rejectedHome
    split <;> exact .inl rfl

theorem Tracker.countsTo_homeSeen (t : Tracker) : t.CountsTo t.homeSeen := by
  unfold Tracker.homeSeen
  split
  · exact .inl rfl
  · split
    · exact .inl rfl
    · exact .inl rfl
    · split
      · exact .inr rfl
      · exact .inl rfl
    · exact t.countsTo_home _
    · exact t.countsTo_home _

theorem Tracker.sampleExpiry_revolution (t : Tracker) : t.sampleExpiry.revolution = t.revolution := by
  have hm (u : Tracker) : u.sampleMotion.revolution = u.revolution := by
    unfold Tracker.sampleMotion; split <;> rfl
  have hr (u : Tracker) : u.reverseLoss.revolution = u.revolution := by
    unfold Tracker.reverseLoss
    split
    · exact u.loseIfHeld_revolution
    · rfl
  have hs (u : Tracker) : u.sampleSteady.revolution = u.revolution := by
    unfold Tracker.sampleSteady; split <;> rfl
  rw [Tracker.sampleExpiry, hs, hr, hm]
  rfl

theorem Tracker.CountsTo.bounds {t u : Tracker} (h : t.CountsTo u) :
    t.revolution ≤ u.revolution ∧ u.revolution ≤ t.revolution + 1 := by
  rcases h with h | h <;> omega

/-! ## The laws of the tracker -/

theorem Geometry.Law.pos {g : Geometry} (h : g.Law) : 0 < g.length := by
  have := h.1.1
  omega

theorem modL_lt {L : Nat} (h : 0 < L) (x : Int) : modL L x < L := by
  have := Int.emod_lt_of_pos x (show (0 : Int) < L by omega)
  have := Int.emod_nonneg x (show (L : Int) ≠ 0 by omega)
  simp only [modL]
  omega

/-- A geometry that passes the checks of R1 lies in its ranges. -/
theorem geometryLaw_of_check {f : GeometryFields} {g : Geometry} (h : f.check = some g) : g.Law := by
  unfold GeometryFields.check at h
  split at h
  · cases h
  · split at h
    · next hr =>
      cases h
      simp only [within, Bool.and_eq_true, decide_eq_true_eq] at hr
      simp only [Geometry.Law]
      omega
    · cases h

theorem Tracker.law_initial (a b : Bool) : (Tracker.initial a b).Law := by
  simp [Tracker.Law, Tracker.initial]

theorem Tracker.Law.load {t : Tracker} (h : t.Law) {g : Geometry} (hg : g.Law) : (t.load g).Law := by
  obtain ⟨-, -, -, -, -, -, hv, hstill, -, -, -, hset, -⟩ := h
  simp [Tracker.Law, Tracker.load, hg, hv, hstill, hset]

theorem Tracker.Law.setpoint {t : Tracker} (h : t.Law) {n : Nat} (hn : n ≤ 4000) :
    Tracker.Law { t with setpoint := n } := by
  obtain ⟨hg, hn', hp, hx, hf, hs, hv, hstill, hr, hc, hj, -, hst⟩ := h
  exact ⟨hg, hn', hp, hx, hf, hs, hv, hstill, hr, hc, hj, hn, hst⟩

/-- In LOCKED and COASTING a geometry is loaded, as in every state but NO_GEOMETRY. -/
theorem Tracker.Law.loseLock {t : Tracker} (h : t.Law) (hl : t.lock ≠ .noGeometry) {x : Lock}
    (hx : x = .seeking ∨ x = .verifying) : (t.loseLock x).Law := by
  obtain ⟨hg, hn, -, -, hf, hs, hv, hstill, -, -, -, hset, -⟩ := h
  rcases hx with rfl | rfl <;> simpa [Tracker.Law, Tracker.loseLock, hn, hl, hf, hs, hv, hstill, hset] using hg

theorem Tracker.Law.loseIfHeld {t : Tracker} (h : t.Law) : t.loseIfHeld.Law := by
  unfold Tracker.loseIfHeld
  split
  · next hl => exact h.loseLock (by rintro h'; simp [h', Lock.losable] at hl) (.inl rfl)
  · exact h

theorem Tracker.Law.step {t : Tracker} (h : t.Law) {g : Geometry} (hg : t.geometry = some g) (z : Int) :
    (t.step g z).Law := by
  have hlen := (h.1 g hg).pos
  unfold Tracker.step
  obtain ⟨hgl, hn, hp, hx, hf, hs, hv, hstill, hr, hc, hj, hset, hst⟩ := h
  have hmoved : ∀ g' y, t.geometry = some g' → (t.pos.map fun x => modL g.length (x + z)) = some y →
      y < g'.length := by
    intro g' y hg' hy
    obtain rfl : g = g' := Option.some.inj (hg.symm.trans hg')
    obtain ⟨x, -, rfl⟩ := Option.map_eq_some_iff.1 hy
    exact modL_lt hlen _
  have hsome : (t.pos.map fun x => modL g.length (x + z)).isSome = t.pos.isSome := by cases t.pos <;> rfl
  dsimp only
  split
  · exact ⟨hgl, hn, hp, hx, hf, hs, hv, hstill, hr, hc, hj, hset, hst⟩
  · exact ⟨hgl, hn, by simpa only [hsome] using hp, hmoved, hf, hs, hv, hstill, hr, hc, hj, hset, hst⟩
  · exact ⟨hgl, hn, by simpa only [hsome] using hp, hmoved, hf, hs, hv, hstill, hr, hc, hj, hset, hst⟩
  · exact ⟨hgl, hn, hp, hx, hf, hs, hv, hstill, hr, hc, hj, hset, hst⟩

theorem Tracker.Law.checkHome {t : Tracker} (h : t.Law) (g : Geometry) : (t.checkHome g).Law := by
  unfold Tracker.checkHome
  split
  · next hl =>
    have hplaced : t.lock.placed = true := by simp_all
    split
    · next hlk =>
      obtain ⟨hgl, hn, hp, hx, hf, hs, hv, hstill, hr, -, hj, hset, -⟩ := h
      exact ⟨hgl, by simp [hn, hlk], by simp [hp, hlk], hx, hf, hs, hv, hstill, hr, by simp, hj, hset, by simp⟩
    · split
      · next hco =>
        obtain ⟨hgl, hn, hp, hx, hf, hs, hv, hstill, hr, -, hj, hset, hst⟩ := h
        exact ⟨hgl, hn, hp, hx, hf, hs, hv, hstill, hr, hco, hj, hset, hst⟩
      · exact h.loseLock (by rintro h'; simp [h', Lock.placed] at hplaced) (.inl rfl)
  · exact h

theorem Tracker.Law.moveBy {t : Tracker} (h : t.Law) {g : Geometry} (hg : t.geometry = some g) (z : Int) :
    (t.moveBy g z).Law := by
  unfold Tracker.moveBy
  split
  · exact (h.step hg z).checkHome g
  · exact h.step hg z

theorem accumulate_lt (frac : Nat) (delta : Int) : (accumulate frac delta).1 < 65536 := by
  simp only [accumulate]
  omega

theorem Tracker.Law.applyCount {t : Tracker} (h : t.Law) {g : Geometry} (hg : t.geometry = some g) (delta : Int) :
    (t.applyCount g delta).Law := by
  obtain ⟨hgl, hn, hp, hx, -, hs, hv, hstill, hr, hc, hj, hset, hst⟩ := h
  exact Tracker.Law.moveBy (t := { t with frac := (accumulate t.frac delta).1 })
    ⟨hgl, hn, hp, hx, accumulate_lt .., hs, hv, hstill, hr, hc, hj, hset, hst⟩ hg _

theorem Tracker.Law.encoderChange {t : Tracker} (h : t.Law) (a b : Bool) : (t.encoderChange a b).Law := by
  have hu : Tracker.Law { t with encA := a, encB := b } := h
  unfold Tracker.encoderChange
  dsimp only
  split
  · exact hu
  · exact hu
  · next hg _ => exact hu.applyCount hg _
  · next hg _ => exact hu.applyCount hg _
  · exact hu.loseIfHeld

theorem Tracker.Law.home {t : Tracker} (h : t.Law) {g : Geometry} (hg : t.geometry = some g)
    (hl : t.lock = .locked ∨ t.lock = .coasting) :
    Tracker.Law (if homeWithin g t.homeDist then t.acceptedHome g else t.rejectedHome) := by
  have hpos := (h.1 g hg).pos
  have hno : t.lock ≠ .noGeometry := by rcases hl with hl | hl <;> simp [hl]
  split
  · obtain ⟨hgl, hn, -, -, hf, hs, hv, hstill, hr, hc, hj, hset, -⟩ := h
    simp only [Tracker.acceptedHome, Tracker.acceptHome]
    rcases hl with hl | hl <;> simp [Tracker.Law, hl, hg, hf, hs, hv, hstill, hr, hc, hset, hgl, hpos]
  · unfold Tracker.rejectedHome
    split
    · exact h.loseLock hno (.inr rfl)
    · next hrej =>
      obtain ⟨hgl, hn, hp, hx, hf, hs, hv, hstill, hr, hc, -, hset, hst⟩ := h
      exact ⟨hgl, hn, hp, hx, hf, hs, hv, hstill, hr, hc, Nat.le_of_lt_succ (not_le.1 hrej), hset, hst⟩

theorem Tracker.Law.homeSeen {t : Tracker} (h : t.Law) : t.homeSeen.Law := by
  unfold Tracker.homeSeen
  split
  · exact h
  · next g hg =>
    have hpos := (h.1 g hg).pos
    split
    · exact h
    · next hl =>
      obtain ⟨hgl, hn, hp, hx, hf, hs, hv, hstill, hr, hc, hj, hset, hst⟩ := h
      simp_all [Tracker.Law]
    · next hl =>
      obtain ⟨hgl, hn, hp, hx, hf, hs, hv, hstill, hr, hc, hj, hset, hst⟩ := h
      split
      · simp_all [Tracker.Law, Tracker.acceptHome]
      · exact ⟨hgl, hn, hp, hx, hf, hs, hv, hstill, hr, hc, hj, hset, hst⟩
    · next hl => exact h.home hg (.inl hl)
    · next hl => exact h.home hg (.inr hl)

theorem speedOf_le (z : Int) : speedOf z ≤ 65535 := by
  unfold speedOf
  split <;> omega

theorem Tracker.Law.closeSample {t : Tracker} (h : t.Law) : t.closeSample.Law := by
  obtain ⟨hgl, hn, hp, hx, hf, hs, -, hstill, hr, hc, hj, hset, hst⟩ := h
  refine ⟨hgl, hn, hp, hx, hf, by simp [Tracker.closeSample, hs], ?_, hstill, hr, hc, hj, hset, hst⟩
  simp only [Tracker.closeSample]
  split
  · omega
  · exact speedOf_le _

theorem Tracker.Law.sampleMotion {t : Tracker} (h : t.Law) : t.sampleMotion.Law := by
  obtain ⟨hgl, hn, hp, hx, hf, hs, hv, -, hr, hc, hj, hset, hst⟩ := h
  unfold Tracker.sampleMotion
  split
  · exact ⟨hgl, hn, hp, hx, hf, hs, hv, by simp, hr, hc, hj, hset, hst⟩
  · exact ⟨hgl, hn, hp, hx, hf, hs, hv, by simp, hr, hc, hj, hset, hst⟩

theorem Tracker.Law.reverseLoss {t : Tracker} (h : t.Law) : t.reverseLoss.Law := by
  unfold Tracker.reverseLoss
  split
  · exact h.loseIfHeld
  · exact h

theorem Tracker.Law.sampleSteady {t : Tracker} (h : t.Law) : t.sampleSteady.Law := by
  obtain ⟨hgl, hn, hp, hx, hf, hs, hv, hstill, -, hc, hj, hset, -⟩ := h
  unfold Tracker.sampleSteady
  split
  · next hgood =>
    have hl : t.lock = .locked := by simp_all [Tracker.goodSample]
    exact ⟨hgl, hn, hp, hx, hf, hs, hv, hstill, by simp, hc, hj, hset, fun _ => .inl hl⟩
  · exact ⟨hgl, hn, hp, hx, hf, hs, hv, hstill, by simp, hc, hj, hset, by simp⟩

theorem Tracker.Law.sampleExpiry {t : Tracker} (h : t.Law) : t.sampleExpiry.Law :=
  h.closeSample.sampleMotion.reverseLoss.sampleSteady

/-- Every command keeps the laws of the tracker. -/
theorem exec_keeps_trackerLaw {c : Instr} {s t : State} (hs : s.loop.tracker.Law) (h : exec c s = .next t) :
    t.loop.tracker.Law := by
  cases hc : c.changesLoop with
  | false => rw [exec_keeps_loop h hc]; exact hs
  | true =>
    cases c with
    | powerOn x => cases h; exact Tracker.law_initial ..
    | resetPin x => cases h; exact Tracker.law_initial ..
    | loadGeometry rtag f =>
      cases h
      obtain h' | ⟨g, hg, h'⟩ := serve_loadGeometry_loop rtag f s
      · exact h' ▸ hs
      · exact h' ▸ hs.load (geometryLaw_of_check hg)
    | setLoopSpeed rtag speed =>
      cases h
      obtain h' | ⟨g, hg, h'⟩ := serve_setLoopSpeed_loop rtag speed s
      · exact h' ▸ hs
      · obtain ⟨-, -, -, -, -, -, -, -, ⟨-, hmax⟩, -⟩ := hs.1 g hg
        exact h' ▸ hs.setpoint ((min_le_right ..).trans hmax)
    | encoderEvent a b => cases h; exact encoderChange_loop a b s ▸ hs.encoderChange a b
    | homeEvent => cases h; exact homeSeen_loop s ▸ hs.homeSeen
    | sampleTimerExpiry => cases h; exact sampleExpiry_loop s ▸ hs.sampleExpiry
    | zoneFenced z => cases h; exact (fenceZone_bits z s).1 ▸ hs
    | zoneUnfenced z => cases h; exact (unfenceZone_bits z s).1 ▸ hs
    | _ => cases hc

end Sys2Proof.Machine

open Sys2Proof Sys2Proof.Machine

/-- Settles O12: each event of the loop is a function of the tracker that keeps the laws, and every other command leaves
the tracker. -/
theorem positionLawKept : Obligations.PositionLawKept := by
  unfold Obligations.PositionLawKept
  intro s t hs h
  unfold step at h
  split at h
  · cases h; exact hs
  · next rest _ => exact exec_keeps_trackerLaw (s := { s with pending := rest }) hs h

/-- Settles O19: only a synthesized or an accepted home counts a revolution, and each counts one. -/
theorem revolutionNeverDecreases : Obligations.RevolutionNeverDecreases := by
  unfold Obligations.RevolutionNeverDecreases
  intro c s t h
  cases c
  case powerOn => cases h; rfl
  case resetPin => cases h; rfl
  case loadGeometry rtag f =>
    cases h
    obtain h' | ⟨g, -, h'⟩ := serve_loadGeometry_loop rtag f s
    · exact .inr (congrArg (fun l => l.tracker.revolution) h')
    · exact .inl (congrArg (fun l => l.tracker.revolution) h')
  case setLoopSpeed rtag speed =>
    cases h
    obtain h' | ⟨g, -, h'⟩ := serve_setLoopSpeed_loop rtag speed s <;> simp [h']
  case encoderEvent a b => cases h; simpa [encoderChange_loop] using (s.loop.tracker.countsTo_encoderChange a b).bounds
  case homeEvent => cases h; simpa [homeSeen_loop] using s.loop.tracker.countsTo_homeSeen.bounds
  case sampleTimerExpiry => cases h; simp [sampleExpiry_loop, Tracker.sampleExpiry_revolution]
  case zoneFenced z => cases h; simp [(fenceZone_bits z s).1]
  case zoneUnfenced z => cases h; simp [(unfenceZone_bits z s).1]
  all_goals simp [exec_keeps_loop h rfl]
end

section
namespace Sys2Proof.Machine

/-! ## Power-on and reset -/

/-- An enumeration of a branch with no transaction and no waiting request tells no requester (R145). -/
theorem enumerate_idle (l : Loop) (br : Branch) (w : Work) (ht : (w.ring br).table = [])
    (hf : (w.ring br).fireq = []) (hd : (w.ring br).driveq = []) (hr : (w.ring br).relayq = []) :
    enumerate l br w = w.setRing br ((w.ring br).startEnumeration.clearNodes l.clock) := by
  simp [enumerate, failWaiting, Ring.waiting, byTag, sortBy, ht, Ring.startEnumeration, hf, hd, hr]

/-- A branch as it is after its ring signal is sampled at power-on (R144). -/
def Ring.sampled (present : Bool) : Ring :=
  if present then
    { Ring.initial with
      state := .enumerating, signal := true, kept := some (List.replicate 126 .absent)
      downlink := some .enumerate, wire := DownFrame.enumerate.bytes, announceEnd := 50 }
  else Ring.initial

theorem sampleSignal_initial (l : Loop) (hl : l.clock = 0) (br : Branch) (present : Bool) (w : Work)
    (hw : w.ring br = Ring.initial) : sampleSignal l br present w = w.setRing br (Ring.sampled present) := by
  cases present with
  | false => simp [sampleSignal, Ring.sampled, ← hw]
  | true =>
    rw [sampleSignal, if_pos rfl, enumerate_idle] <;>
      simp [hw, Ring.initial, Ring.sampled, Ring.startEnumeration, Ring.clearNodes, Ring.transmit, hl, Node.initial]

/-- What a restart makes of the core: both branches sampled, all else empty. -/
theorem restart_eq (cause : StartCause) (x : Samples) (s : State) :
    restart cause x s = (State.initial cause x.encA x.encB (~~~x.zones) s.pending).mapWork fun w =>
      { w with ringA := Ring.sampled x.ringA, ringB := Ring.sampled x.ringB } := by
  have hw (w : Work) (hA : w.ringA = Ring.initial) (hB : w.ringB = Ring.initial) (l : Loop) (hl : l.clock = 0) :
      sampleSignal l .b x.ringB (sampleSignal l .a x.ringA w) =
        { w with ringA := Ring.sampled x.ringA, ringB := Ring.sampled x.ringB } := by
    rw [sampleSignal_initial l hl .a x.ringA w hA,
      sampleSignal_initial l hl .b x.ringB (w.setRing .a (Ring.sampled x.ringA)) hB]
    rfl
  simp only [restart, State.mapWork]
  rw [hw _ rfl rfl _ rfl]

theorem Ring.law_initial : Ring.initial.Law := by
  simp only [Ring.Law, Ring.initial]
  refine ⟨by simp, ?_, by simp, by simp, by simp, by simp [Ring.outstanding, Ring.otherOutstanding], by simp,
    by simp [Ring.waiting]⟩
  intro x hx
  rw [List.eq_of_mem_replicate hx]
  simp [Node.initial]

end Sys2Proof.Machine

open Sys2Proof Sys2Proof.Machine

/-- Settles O2: the two branches are sampled on an empty core, so an enumeration finds nothing to fail. -/
theorem startsEveryBlock : Obligations.StartsEveryBlock := by
  unfold Obligations.StartsEveryBlock
  intro x s
  exact ⟨congrArg _ (restart_eq .power x s), congrArg _ (restart_eq .pin x s)⟩

/-- Settles O3: after reset every list of the state is empty, and the laws speak of their members. -/
theorem resetKeepsTheLaws : Obligations.ResetKeepsTheLaws := by
  unfold Obligations.ResetKeepsTheLaws
  refine ⟨⟨rfl, by simp [State.reset, State.initial, Work.initial]⟩, ?_, ?_, Tracker.law_initial .., ?_, ?_, ?_,
    Ring.law_initial, Ring.law_initial, ?_, ?_, ?_, ?_⟩
  · simp [State.reset, State.initial, Port.initial, Port.Law]
  · simp [State.reset, State.initial, Port.initial, Port.Law]
  · simp [RegisterLaw, State.reset, State.initial, Work.initial]
  · simp [Work.AskLaw, State.reset, State.initial, Work.initial]
  · simp [CaptureLaw, State.reset, State.initial]
  · simp [Work.ListLaw, State.reset, State.initial, Work.initial]
  · simp [Work.TargetLaw, State.reset, State.initial, Work.initial]
  · simp [Work.PlanLaw, State.reset, State.initial, Work.initial, Work.running]
  · simp [State.ProofLaw, State.reset, State.initial, Work.initial, Tracker.initial]
end

section
/-! ## What an event posts

The notices of an event gather in the outbox and join the queues at its end. -/

namespace Sys2Proof.Machine

/-- The state with more posts in its outbox. -/
def State.posting (s : State) (ps : List Post) : State :=
  { s with work := { s.work with outbox := s.work.outbox ++ ps } }

@[simp] theorem State.posting_loop (s : State) (ps : List Post) : (s.posting ps).loop = s.loop := rfl

/-- The posts of notices that go to both links, each named with its poster. -/
def bothPosts (ns : List (Block × Notice)) : List Post :=
  ns.flatMap fun x => [⟨.line, x.1, x.2⟩, ⟨.console, x.1, x.2⟩]

theorem postsTo_bothPosts (k : Link) (ns : List (Block × Notice)) :
    postsTo k (bothPosts ns) = ns.map fun x => ⟨k, x.1, x.2⟩ := by
  induction ns with
  | nil => rfl
  | cons x ns ih =>
    simp only [bothPosts, postsTo] at ih
    cases k <;> simp [bothPosts, postsTo, ih]

theorem notices_bothPosts (k : Link) (ns : List (Block × Notice)) :
    (postsTo k (bothPosts ns)).map Post.notice = ns.map Prod.snd := by
  simp [postsTo_bothPosts, Function.comp_def]

theorem State.posting_posting (s : State) (ps qs : List Post) : (s.posting ps).posting qs = s.posting (ps ++ qs) := by
  simp [State.posting]

theorem bothPosts_append (ms ns : List (Block × Notice)) : bothPosts ms ++ bothPosts ns = bothPosts (ms ++ ns) :=
  List.flatMap_append.symm

theorem State.mapWork_postBoth (s : State) (b : Block) (n : Notice) :
    (s.mapWork fun w => w.postBoth b n) = s.posting (bothPosts [(b, n)]) := by
  simp [Work.postBoth, Work.post, bothPosts, State.posting, State.mapWork]

theorem State.postSteady_eq (s : State) (gained : Bool) :
    s.postSteady gained =
      s.posting (bothPosts [(.steady, .steady gained s.loop.tracker.v s.loop.tracker.setpoint)]) :=
  s.mapWork_postBoth ..

/-- From a state as it is between commands, the outbox holds what the event posts, and is emptied at its end. -/
theorem State.posting_outbox {s : State} (h : s.Quiet) (ps : List Post) :
    (s.posting ps).work.outbox = ps ∧
    ({ s.posting ps with work := { (s.posting ps).work with outbox := [] } } : State) = s := by
  refine ⟨by simp [State.posting, h.1], ?_⟩
  simp only [State.posting]
  rw [← h.1]

/-- The end of an event that posts, from a state as it is between commands. -/
theorem State.settle_posting {s : State} (h : s.Quiet) (ps : List Post) :
    s.Posted (s.posting ps).settle ((postsTo .line ps).map Post.notice) ((postsTo .console ps).map Post.notice) := by
  obtain ⟨hout, hs⟩ := s.posting_outbox h ps
  rw [State.settle_of_not_over (s.posting ps) h.2]
  have hp := (s.posting ps).flush_posted
  rwa [hout, hs] at hp

/-- The end of an event at which each link hears of one block alone. -/
theorem State.settle_posting_one {s : State} (h : s.Quiet) {ps : List Post} {b c : Block}
    (hl : ∀ p ∈ postsTo .line ps, p.block = b) (hc : ∀ p ∈ postsTo .console ps, p.block = c) :
    (s.posting ps).settle =
      (s.notified .line ((postsTo .line ps).map Post.notice)).notified .console
        ((postsTo .console ps).map Post.notice) := by
  obtain ⟨hout, hs⟩ := s.posting_outbox h ps
  rw [State.settle_of_not_over (s.posting ps) h.2,
    State.flush_one (b := b) (c := c) _ (by rwa [hout]) (by rwa [hout]), hs, hout]

/-- The end of an event that posts one notice to both links. -/
theorem State.settle_posting_both {s : State} (h : s.Quiet) (b : Block) (n : Notice) :
    (s.posting (bothPosts [(b, n)])).settle = s.notifiedBoth [n] := by
  rw [State.settle_posting_one (b := b) (c := b) h] <;> simp [postsTo_bothPosts, State.notifiedBoth]

/-! ## What a change of lock state posts and leads to -/

/-- LOCK, and STEADY where the flag fell (R10, R18). -/
def lockNotices (was t : Tracker) (c : LockCause) : List (Block × Notice) :=
  (.lock, .lock t.lock t.revolution c) ::
    if was.steady && !t.steady then [(.steady, .steady false t.v t.setpoint)] else []

theorem lockChanged_eq (before : Loop) (c : LockCause) (s : State) :
    lockChanged before c s =
      (s.posting (bothPosts (lockNotices before.tracker s.loop.tracker c))).mapWork (lockWork before s.loop) := by
  unfold lockChanged lockNotices
  rw [s.mapWork_postBoth]
  dsimp only [State.posting_loop]
  by_cases h : (before.tracker.steady && !s.loop.tracker.steady) = true
  · simp only [h, if_true, State.postSteady_eq, State.posting_posting, bothPosts_append]
    rfl
  · simp only [h]
    rfl

theorem reevaluate_noPlan (l : Loop) {w : Work} (h : w.plan = []) : reevaluate l w = w := by
  simp [reevaluate, h]

theorem cancelWindows_none (before l : Loop) (p : Window → Bool) {w : Work} (h : w.windows = []) :
    cancelWindows before l p w = w := by
  simp [cancelWindows, h, tableOrder, sortBy]

/-- Without trials and windows a change of lock state has no neighbours to tell. -/
theorem lockWork_idle (before l : Loop) {w : Work} (hp : w.plan = []) (hw : w.windows = []) :
    lockWork before l w = w := by
  have hm : markCoasted w = w := by simp only [markCoasted, hw, List.map_nil]; rw [← hw]
  unfold lockWork
  simp [reevaluate_noPlan l hp, cancelWindows_none before l _ hw, hm]

/-- Without trials and windows a change of lock state only posts. -/
theorem lockChanged_idle (before : Loop) (c : LockCause) {s : State} (hp : s.work.plan = [])
    (hw : s.work.windows = []) :
    lockChanged before c s = s.posting (bothPosts (lockNotices before.tracker s.loop.tracker c)) := by
  rw [lockChanged_eq]
  simp only [State.mapWork]
  rw [lockWork_idle _ _ (by exact hp) (by exact hw)]

end Sys2Proof.Machine
end

section
namespace Sys2Proof

/-- The record that the fields of a LOAD_GEOMETRY within their ranges form (R1). -/
def GeometryFields.geometry (f : GeometryFields) (br : Branch) : Machine.Geometry where
  length := f.length
  carriers := f.carriers
  pitch := f.pitch
  scale := f.scale
  homeTol := f.homeTol
  grace := f.grace
  slack := f.slack
  latency := f.latency
  vmax := f.vmax
  jog := f.jog
  linkBranch := br
  linkNode := f.linkNode
  maxAge := f.maxAge

end Sys2Proof

namespace Sys2Proof.Machine

/-! ## LOAD_GEOMETRY -/

theorem branch_ofCode_eq_some {n : Nat} {br : Branch} : Branch.ofCode n = some br ↔ n = br.code := by
  unfold Branch.ofCode
  split <;> cases br <;> simp_all [Branch.code]

/-- The checks of R1 pass exactly within the ranges, and then form the record of the fields. -/
theorem geometry_check (f : GeometryFields) :
    (¬ f.inRange → f.check = none) ∧
    (f.inRange → ∃ br, f.linkBranch = br.code ∧ f.check = some (f.geometry br)) := by
  unfold GeometryFields.check
  cases hb : Branch.ofCode f.linkBranch with
  | none =>
    have hcode (br : Branch) : f.linkBranch ≠ br.code := fun h => by simp [branch_ofCode_eq_some.2 h] at hb
    refine ⟨fun _ => rfl, fun ⟨_, _, _, _, _, _, _, _, _, _, hbr, _⟩ => ?_⟩
    rcases hbr with h | h
    · exact absurd h (hcode .a)
    · exact absurd h (hcode .b)
  | some br =>
    have hcode := branch_ofCode_eq_some.1 hb
    have hor : f.linkBranch = 1 ∨ f.linkBranch = 2 := by
      cases br
      · exact .inl hcode
      · exact .inr hcode
    constructor
    · intro hr
      refine if_neg fun hc => hr ?_
      simp only [within, Bool.and_eq_true, decide_eq_true_eq] at hc
      simp only [GeometryFields.inRange]
      omega
    · intro hr
      refine ⟨br, hcode, if_pos ?_⟩
      simp only [GeometryFields.inRange] at hr
      simp only [within, Bool.and_eq_true, decide_eq_true_eq]
      omega

/-- The BUSY conditions of R2. -/
theorem loadBusy_iff (s : State) :
    loadBusy s = true ↔ s.work.plan ≠ [] ∨ s.work.fires ≠ [] ∨
      (s.loop.tracker.lock ≠ .noGeometry ∧ s.loop.tracker.motion ≠ .stopped) := by
  simp [loadBusy, or_assoc]

/-- A request of the console that finds some record at or past `len` (R2). -/
theorem points_outside_iff (s : State) (len : Nat) :
    s.work.points.any (fun p => decide (p.config.loc ≥ len)) = true ↔
      ∃ p ∈ s.work.points, len ≤ p.config.loc := by
  simp

/-- LOAD_GEOMETRY by its checks, in the order of R1 and R2. -/
theorem loadGeometry_accepts {f : GeometryFields} {g : Geometry} {s : State} (hf : f.check = some g)
    (hb : loadBusy s = false) (hp : ∀ p ∈ s.work.points, p.config.loc < g.length) :
    loadGeometry f s = ok (applyGeometry g s) := by
  have hany : s.work.points.any (fun p => decide (p.config.loc ≥ g.length)) = false := by simpa using hp
  simp [loadGeometry, hf, hb, hany]

/-- The console's port after an event is settled, but for its notices. -/
theorem answers_settle (s : State) (k : Link) : (s.settle.port k).answers = (s.port k).answers :=
  (s.settle_port k).2.1

theorem applyGeometry_eq (g : Geometry) {s : State} (hp : s.work.plan = []) :
    applyGeometry g s =
      ({ s with loop := { s.loop with tracker := s.loop.tracker.load g }
                work := { s.work with carriers := List.replicate g.carriers newCarrier, windows := [] } } : State).posting
        (bothPosts (lockNotices s.loop.tracker (s.loop.tracker.load g) .geometry)) :=
  lockChanged_idle s.loop .geometry (by exact hp) rfl

theorem posting_answered (s : State) (ps : List Post) (k : Link) (rtag : Nat) (q : Request) (x : Status)
    (b : List Field) : (s.posting ps).answered k rtag q x b = (s.answered k rtag q x b).posting ps := by
  cases k <;> rfl

end Sys2Proof.Machine

open Sys2Proof Sys2Proof.Machine

/-- Settles O20: the three sets of checks are tests in one order, and a refusal only answers. -/
theorem geometryLoadChecks : Obligations.GeometryLoadChecks := by
  unfold Obligations.GeometryLoadChecks
  intro s rtag f hs hr busy outside
  have refused {x : Status} (h : loadGeometry f s = refuse s x) :
      exec (.loadGeometry rtag f) s = .next (s.answered .console rtag (.loadGeometry f) x []) :=
    congrArg _ (serve_answers hs hr _ _ h)
  obtain ⟨hnone, hsome⟩ := geometry_check f
  refine ⟨fun hf => refused ?_, fun hf hb => refused ?_, fun hf hb ho => refused ?_, fun hf hb ho => ?_⟩
  · simp [loadGeometry, hnone hf]
  · obtain ⟨br, -, hg⟩ := hsome hf
    simp [loadGeometry, hg, (loadBusy_iff s).2 hb]
  · obtain ⟨br, -, hg⟩ := hsome hf
    have hb' : loadBusy s = false := by simpa using mt (loadBusy_iff s).1 hb
    have ho' := (points_outside_iff s (f.geometry br).length).2 ho
    simp only [loadGeometry, hg, hb', ho']
    rfl
  · obtain ⟨br, -, hg⟩ := hsome hf
    have hb' : loadBusy s = false := by simpa using mt (loadBusy_iff s).1 hb
    have hp : ∀ p ∈ s.work.points, p.config.loc < (f.geometry br).length := fun p hp =>
      not_le.1 fun h => ho ⟨p, hp, h⟩
    refine ⟨_, congrArg Host.Outcome.next (serve_takes hs hr _ _), ?_⟩
    have hanswers := answers_settle ((loadGeometry f s).state.answered .console rtag (.loadGeometry f)
      (loadGeometry f s).status (loadGeometry f s).body) .console
    rw [State.port_console, State.port_console] at hanswers
    have hplan : s.work.plan = [] := not_not.1 fun h => hb (.inl h)
    rw [hanswers, loadGeometry_accepts hg hb' hp]
    simp only [ok, applyGeometry_eq _ hplan]
    rfl

/-- Settles O21: an accepted load posts LOCK, and STEADY where the flag falls, to a core without trials and windows. -/
theorem geometryLoadResets : Obligations.GeometryLoadResets := by
  unfold Obligations.GeometryLoadResets
  intro s rtag f br hs hr hf hbr hplan hfires hidle hpts g tr tr' s' ns
  obtain ⟨br', hbr', hg⟩ := (geometry_check f).2 hf
  obtain rfl : br = br' := by
    have := hbr.symm.trans hbr'
    cases br <;> cases br' <;> simp_all [Branch.code]
  have hb : loadBusy s = false := by
    rcases hidle with h | h <;> simp [loadBusy, hplan, hfires, h]
  refine ⟨_, congrArg Host.Outcome.next (serve_takes hs hr _ _), ?_⟩
  rw [loadGeometry_accepts hg hb hpts]
  simp only [ok, applyGeometry_eq _ hplan, posting_answered]
  have hq : (s'.answered .console rtag (.loadGeometry f) .ok []).Quiet := hs.1
  have h := State.settle_posting hq (bothPosts (lockNotices tr tr' .geometry))
  rw [notices_bothPosts, notices_bothPosts] at h
  have hns : (lockNotices tr tr' .geometry).map Prod.snd = ns := by
    simp only [lockNotices, ns, tr']
    cases tr.steady <;> rfl
  rw [hns] at h
  exact h
end

section
/-! ## The READ requests -/

namespace Sys2Proof.Machine

/-! ### Bodies -/

/-- An optional field whose value is a code of what is held. -/
theorem optField_map {α β : Type} (f : β → List Field) (c : α → β) (o : Option α) :
    optField f (o.map c) = optField (fun a => f (c a)) o := by
  cases o <;> rfl

/-- Two bodies agree part by part. -/
theorem append_congr {as bs cs ds : List Field} (h : as = bs) (h' : cs = ds) : as ++ cs = bs ++ ds := by
  rw [h, h']

theorem Ring.outstanding_eq (r : Ring) (n : Nat) :
    r.outstanding n = (r.table.filter fun y => decide (y.node = n)).length := by
  rfl

/-- The nodes that are reported, each with its number (R158). -/
theorem reportedNodes_eq (r : Ring) (n : Nat) (xs : List Node) :
    reportedNodes r n xs = (xs.zipIdx n).flatMap fun x =>
      if x.1.state = .absent ∧ r.outstanding x.2 = 0 then [] else nodeFields r x.2 x.1 := by
  induction xs generalizing n with
  | nil => rfl
  | cons x xs ih =>
    rw [reportedNodes, ih, List.zipIdx_cons, List.flatMap_cons]
    congr 1
    by_cases hx : x.state = .absent <;> by_cases ho : r.outstanding n = 0 <;> simp [hx, ho, Nat.pos_iff_ne_zero]

/-! ### The filters of LIST_POINTS -/

theorem PointKind.ofCode_eq_some {n : Nat} {k : PointKind} : PointKind.ofCode n = some k ↔ k.code = n := by
  unfold PointKind.ofCode
  split <;> cases k <;> simp_all [PointKind.code, eq_comm]

theorem Link.ofCode_eq_some {n : Nat} {k : Link} : Link.ofCode n = some k ↔ Link.code k = n := by
  unfold Link.ofCode
  split <;> cases k <;> simp_all [Link.code, eq_comm]

theorem Proof.ofCode_eq_some {n : Nat} {k : Proof} : Proof.ofCode n = some k ↔ k.code = n := by
  unfold Proof.ofCode
  split <;> cases k <;> simp_all [Proof.code, eq_comm]

/-- An optional operand that carries a code decodes exactly if the code is one of those of the values. -/
theorem decodeOpt_isSome {α : Type} {dec : Nat → Option α} {lo hi : Nat}
    (h : ∀ n, (dec n).isSome ↔ lo ≤ n ∧ n ≤ hi) (o : Option Nat) :
    (decodeOpt dec o).isSome ↔ ∀ n, o = some n → lo ≤ n ∧ n ≤ hi := by
  cases o with
  | none => simp [decodeOpt]
  | some n => simpa [decodeOpt] using h n

/-- What a decoded filter lets through. -/
theorem filterOk_iff {α : Type} [DecidableEq α] {dec : Nat → Option α} {code : α → Nat}
    (h : ∀ n a, dec n = some a ↔ code a = n) {o : Option Nat} {want : Option α} (hd : decodeOpt dec o = some want)
    (x : α) : filterOk want x = true ↔ ∀ n, o = some n → code x = n := by
  cases o with
  | none =>
    obtain rfl : none = want := by simpa [decodeOpt] using hd
    simp [filterOk]
  | some n =>
    obtain ⟨a, ha, rfl⟩ : ∃ a, dec n = some a ∧ some a = want := by simpa [decodeOpt] using hd
    have hx : a = x ↔ code x = n := by
      constructor
      · rintro rfl; exact (h n a).1 ha
      · intro hc; exact Option.some.inj (ha.symm.trans ((h n x).2 hc))
    simp [filterOk, hx]

theorem PointKind.ofCode_isSome (n : Nat) : (PointKind.ofCode n).isSome ↔ 1 ≤ n ∧ n ≤ 4 := by
  rcases n with _ | _ | _ | _ | _ | n <;> simp [PointKind.ofCode]

theorem Link.ofCode_isSome (n : Nat) : (Link.ofCode n).isSome ↔ 1 ≤ n ∧ n ≤ 2 := by
  rcases n with _ | _ | _ | n <;> simp [Link.ofCode]

theorem Proof.ofCode_isSome (n : Nat) : (Proof.ofCode n).isSome ↔ 1 ≤ n ∧ n ≤ 4 := by
  rcases n with _ | _ | _ | _ | _ | n <;> simp [Proof.ofCode]

end Sys2Proof.Machine

namespace Sys2Proof

open Sys2Proof.Machine

/-- The checks of R46. -/
def ListFields.Valid (f : ListFields) : Prop :=
  f.start ≠ 0 ∧ 1 ≤ f.count ∧ f.count ≤ 16 ∧ (∀ x, f.kind = some x → 1 ≤ x ∧ x ≤ 4) ∧
  (∀ x, f.custody = some x → 1 ≤ x ∧ x ≤ 2) ∧ ∀ x, f.proof = some x → 1 ≤ x ∧ x ≤ 4

/-- The checks of a LIST_POINTS pass exactly where R46 has them pass, and then give its filters decoded. -/
theorem ListFields.check_cases (f : ListFields) :
    (¬ f.Valid ∧ f.check = none) ∨
    (f.Valid ∧ ∃ q, f.check = some q ∧ decodeOpt PointKind.ofCode f.kind = some q.kind ∧
      decodeOpt Link.ofCode f.custody = some q.custody ∧ decodeOpt Proof.ofCode f.proof = some q.proof) := by
  have hk := decodeOpt_isSome PointKind.ofCode_isSome f.kind
  have hc := decodeOpt_isSome Link.ofCode_isSome f.custody
  have hp := decodeOpt_isSome Proof.ofCode_isSome f.proof
  unfold ListFields.Valid
  rw [← hk, ← hc, ← hp]
  unfold ListFields.check
  cases decodeOpt PointKind.ofCode f.kind with
  | none => exact .inl ⟨by simp, rfl⟩
  | some k =>
    cases decodeOpt Link.ofCode f.custody with
    | none => exact .inl ⟨by simp, rfl⟩
    | some c =>
      cases decodeOpt Proof.ofCode f.proof with
      | none => exact .inl ⟨by simp, rfl⟩
      | some p =>
        by_cases h : f.start ≠ 0 ∧ 1 ≤ f.count ∧ f.count ≤ 16
        · exact .inr ⟨by simpa using h, ⟨k, c, p⟩, by simp [h], rfl, rfl, rfl⟩
        · exact .inl ⟨by simpa using h, by simpa using h⟩

end Sys2Proof

namespace Sys2Proof.Machine

theorem mem_listMatches {start : Nat} {f : ListFields} {q : ListFilter} {ps : List Point} {p : Point}
    (hk : decodeOpt PointKind.ofCode f.kind = some q.kind) (hc : decodeOpt Link.ofCode f.custody = some q.custody)
    (hp : decodeOpt Proof.ofCode f.proof = some q.proof) :
    p ∈ listMatches start q ps ↔ p ∈ ps ∧ start ≤ p.tag ∧ (∀ x, f.kind = some x → p.kind.code = x) ∧
      (∀ x, f.custody = some x → Link.code p.custody = x) ∧ ∀ x, f.proof = some x → p.proof.code = x := by
  simp only [listMatches, List.mem_filter, Bool.and_eq_true, decide_eq_true_eq,
    filterOk_iff (fun _ _ => PointKind.ofCode_eq_some) hk, filterOk_iff (fun _ _ => Link.ofCode_eq_some) hc,
    filterOk_iff (fun _ _ => Proof.ofCode_eq_some) hp, and_assoc]

/-! ### The records that a window decides -/

theorem RouteOutcome.isRouted_decide (x : RouteWindow) (tag : Nat) (k : PointKind) :
    (x.decide tag k).isRouted = (decide ((x.translate tag).node ≤ 126) && x.allows k) := by
  unfold RouteWindow.decide
  dsimp only
  split
  · next h => simp [RouteOutcome.isRouted, Nat.not_le.2 h]
  · next h => cases hk : x.allows k <;> simp [RouteOutcome.isRouted, Nat.not_lt.1 h]

theorem RouteOutcome.nodeRange_decide (x : RouteWindow) (tag : Nat) (k : PointKind) :
    (x.decide tag k == .nodeRange) = !decide ((x.translate tag).node ≤ 126) := by
  unfold RouteWindow.decide
  dsimp only
  split
  · next h => simp [Nat.not_le.2 h]
  · next h => cases hk : x.allows k <;> simp [Nat.not_lt.1 h]

theorem RouteOutcome.noPermission_decide (x : RouteWindow) (tag : Nat) (k : PointKind) :
    (x.decide tag k == .noPermission) = (decide ((x.translate tag).node ≤ 126) && !x.allows k) := by
  unfold RouteWindow.decide
  dsimp only
  split
  · next h => simp [Nat.not_le.2 h]
  · next h => cases hk : x.allows k <;> simp [Nat.not_lt.1 h]

/-- The window at a place is the first of those that some test holds of. -/
theorem findIdx?_eq_some_iff_take {α : Type} {ws : List α} {n : Nat} {x : α} (hx : ws[n]? = some x) (p : α → Bool) :
    ws.findIdx? p = some n ↔ p x = true ∧ (ws.take n).all (fun y => !p y) = true := by
  obtain ⟨hn, rfl⟩ := List.getElem?_eq_some_iff.1 hx
  rw [List.findIdx?_eq_some_iff_getElem]
  simp only [List.all_eq_true, List.mem_take_iff_getElem, Bool.not_eq_true']
  constructor
  · rintro ⟨_, h, hall⟩
    refine ⟨h, ?_⟩
    rintro y ⟨j, hj, rfl⟩
    simpa using hall j (by omega)
  · rintro ⟨h, hall⟩
    exact ⟨hn, h, fun j hj => by simpa using hall _ ⟨j, by omega, rfl⟩⟩

/-- Window `n`, which holds `x`, decides the route of a record (R57). -/
def decidedBy (ws : List RouteWindow) (n : Nat) (x : RouteWindow) (q : Point) : Bool :=
  decide (q.kind ≠ .chute) && x.enabled && x.hits q.tag &&
    (ws.take n).all fun y => !(y.enabled && y.hits q.tag)

theorem countDecided_eq (s : State) {n : Nat} {x : RouteWindow} (hx : s.routes[n]? = some x) (p : RouteOutcome → Bool) :
    countDecided s n p =
      (s.work.points.filter fun q => decidedBy s.routes n x q && p (x.decide q.tag q.kind)).length := by
  unfold countDecided
  congr 2
  funext q
  by_cases hk : q.kind = .chute
  · simp [routeOutcome, decidedBy, hk]
  · have hfirst : decidedBy s.routes n x q = true ↔ decidingWindow s.routes q.tag = some n := by
      rw [decidingWindow, findIdx?_eq_some_iff_take hx]
      simp [decidedBy, hk, and_assoc]
    cases hd : decidingWindow s.routes q.tag with
    | none => simp [routeOutcome, hk, hd, show decidedBy s.routes n x q = false by simpa [hd] using hfirst]
    | some m =>
      by_cases hm : m = n
      · subst hm
        simp [routeOutcome, hk, hd, hx, hfirst.2 hd]
      · have hnot : decidedBy s.routes n x q = false := by simpa [hd, hm] using hfirst
        cases hw : s.routes[m]? <;> simp [routeOutcome, hk, hd, hw, hm, hnot]

end Sys2Proof.Machine
end

section
open Sys2Proof Sys2Proof.Machine

/-- Settles O9: a read answers from the state as it is (`serve_answers`), and its body is the model's fields written
out. -/
theorem readsChangeNothing : Obligations.ReadsChangeNothing := by
  unfold Obligations.ReadsChangeNothing
  intro k s rtag hs hr flag one two dev four branch link record point
  have reads {i : Instr} {q : Request} {handle : State → Reply} (hi : exec i s = .next (serve k rtag q handle s))
      {x : Status} {b c : List Field} (hh : handle s = ⟨s, x, b⟩) (hb : b = c) :
      exec i s = .next (s.answered k rtag q x c) :=
    hi.trans (congrArg _ (hb ▸ serve_answers hs hr q handle hh))
  have hone : one = optField fun n => [.u8 n] := by funext o; cases o <;> rfl
  have htwo : two = optField fun n => [.u16 n] := by funext o; cases o <;> rfl
  have hdev : dev = optField fun d => [.s16 d] := by funext o; cases o <;> rfl
  have hfour : four = optField fun n => [.u32 n] := by funext o; cases o <;> rfl
  have hlink : link = fun j => .u8 (Link.code j) := by funext j; cases j <;> rfl
  have hpoint (p : Point) : pointFields s.loop p = point p := by
    have htol : reportedTol s.loop p = if p.kind = .sensor ∨ p.kind = .induct then
        two (s.loop.tracker.geometry.map fun g => min p.config.tol ((g.pitch - 1) / 2)) else [] := by
      rw [htwo, optField_map]
      cases hk : p.kind <;> simp [reportedTol, hk] <;> rfl
    have hrecord (x : ProofRecord) : x.fields = record x := by
      simp only [record, hone, optField_map]
      rfl
    simp only [point, hone, ← hrecord, ← htol]
    simp only [htwo, optField_map]
    unfold pointFields
    cases p.route <;> cases p.record <;> rfl
  refine ⟨fun tag => ?_, ?_, ?_, fun n hn => ?_, fun n x hx => ?_, fun n hg => ?_,
    fun n hg hc => ?_, fun n c hg hc => ?_, fun n hn => ?_, fun n h1 h2 ht => ?_, fun n t h1 h2 ht => ?_, ?_⟩
  · -- READ_POINT
    cases hp : s.work.point tag with
    | none => exact reads rfl (by simp [readPoint, hp, refuse]) rfl
    | some p => exact reads rfl (by simp [readPoint, hp, ok]) (hpoint p)
  · -- LIST_POINTS
    intro f valid
    rcases f.check_cases with ⟨hv, hc⟩ | ⟨hv, q, hc, hk, hcu, hpr⟩
    · exact ⟨fun _ => reads rfl (by simp [listPoints, hc, refuse]) rfl, fun hv' => absurd hv' hv⟩
    · refine ⟨fun hv' => absurd hv hv', fun _ => ⟨listMatches f.start q s.work.points,
        fun p => mem_listMatches hk hcu hpr, List.filter_sublist, ?_⟩⟩
      refine reads rfl (by simp only [listPoints, hc, ok]; rfl) ?_
      rw [List.head?_drop, htwo, optField_map]
      congr 1
      exact List.flatMap_congr fun p _ => hpoint p
  · -- READ_TRACKER
    refine reads (handle := readTracker) rfl rfl ?_
    have hhome : optField (fun a => [.s32 a]) s.loop.tracker.reportedHome =
        if s.loop.tracker.lock = .verifying ∨ s.loop.tracker.lock = .locked ∨ s.loop.tracker.lock = .coasting then
          [.u8 1, .s32 s.loop.tracker.homeDist] else [.u8 0] := by
      cases hl : s.loop.tracker.lock <;> simp [Tracker.reportedHome, hl, optField]
    show _ = _ ++ [_] ++ _ ++ (if _ then _ else _) ++ _
    rw [← hhome, hfour]
    unfold Tracker.fields
    cases s.loop.tracker.geometry <;> rfl
  · -- READ_WINDOW of no window
    exact reads rfl (by simp [readWindow, hn, refuse]) rfl
  · -- READ_WINDOW
    intro decides near may number
    refine reads rfl (by simp only [readWindow, hx, ok]; rfl) ?_
    have hmay (p : Point) : x.allows p.kind = may p := by
      simp only [may]
      cases p.kind <;> rfl
    simp only [countDecided_eq s hx, RouteOutcome.isRouted_decide, RouteOutcome.nodeRange_decide,
      RouteOutcome.noPermission_decide, hmay, ← Bool.and_assoc, htwo, RouteWindow.fields, List.append_assoc]
    rfl
  · exact reads rfl (by simp [readCarrier, Loop.geometry, hg, refuse]) rfl
  · obtain ⟨g, hg⟩ := Option.ne_none_iff_exists'.1 hg
    exact reads rfl (by simp [readCarrier, Loop.geometry, hg, Work.carrier, hc, refuse]) rfl
  · -- READ_CARRIER
    obtain ⟨g, hg⟩ := Option.ne_none_iff_exists'.1 hg
    refine reads rfl (by simp only [readCarrier, Loop.geometry, hg, Work.carrier, hc, ok]; rfl) ?_
    simp only [hone, htwo, optField_map]
    refine append_congr (append_congr (append_congr (append_congr ?load rfl) rfl) ?belt) ?entry
    case load => cases c.load <;> rfl
    case belt => cases c.belt <;> rfl
    case entry =>
      show optField _ (s.work.fires.find? fun e => e.carrier == n) = _
      cases s.work.fires.find? fun e => e.carrier == n with
      | none => rfl
      | some e =>
        cases hs : e.state <;> cases hl : e.lastPassed <;> simp [optField, Entry.fields, hs, hl, hlink, flag, flagField]
  · exact reads rfl (by simp [readTrial, refuse]; omega) rfl
  · exact reads rfl (by simp [readTrial, ht, h1, h2, refuse]) rfl
  · -- READ_TRIAL
    intro ahead bit o
    refine reads rfl (by simp only [readTrial, within, h1, h2, and_self, decide_true, Bool.not_true, ht, ok]; rfl) ?_
    simp only [Trial.planFields, Stats.fields, List.append_assoc, hone, htwo, hdev, optField_map]
    refine append_congr rfl <| append_congr rfl <| append_congr rfl <| append_congr rfl <| append_congr rfl <|
      append_congr rfl <| append_congr rfl <| append_congr ?counts <| append_congr ?queued <| append_congr rfl <|
      append_congr rfl <| append_congr rfl ?kind
    case counts => cases t.kind <;> rfl
    case queued =>
      unfold Work.queuedAhead
      split <;> rfl
    case kind =>
      unfold Trial.kindFields
      cases t.kind with
      | sensor =>
        show optField _ (s.work.windows.find? fun y => y.trial == t.id && decide (y.purpose = .sensorPass)) = _
        cases s.work.windows.find? fun y => y.trial == t.id && decide (y.purpose = .sensorPass) <;> rfl
      | chute =>
        refine List.flatMap_congr fun i _ => ?_
        rw [Item.fields, List.append_assoc]
        refine append_congr rfl (append_congr ?_ rfl)
        rcases i.verdict with _ | _ | _ | _ | _ | _ <;> rfl
      | zoneDrive => cases t.drive.last <;> rfl
      | belt => rfl
  · -- READ_BRANCH
    intro body n
    have hbody (r : Ring) : r.fields = body r := by
      simp only [Ring.fields, body, reportedNodes_eq, nodeFields, hone, optField_map, Ring.outstanding_eq]
      rfl
    obtain rfl | h1 := eq_or_ne n 1
    · exact reads rfl rfl (hbody _)
    · obtain rfl | h2 := eq_or_ne n 2
      · exact reads rfl rfl (hbody _)
      · rw [if_neg h1, if_neg h2]
        have hcode : Branch.ofCode n = none := by
          unfold Branch.ofCode
          split
          · exact absurd rfl h1
          · exact absurd rfl h2
          · rfl
        exact reads rfl (by simp [readBranch, hcode, refuse]) rfl
end

section
/-! ## The encoder -/

namespace Sys2Proof.Machine

/-! ### Counts and steps -/

/-- A forward count passes out whole millimetres and keeps the fraction (R5). -/
theorem accumulate_forward (frac scale : Nat) :
    accumulate frac scale = ((frac + scale) % 65536, (((frac + scale) / 65536 : Nat) : Int)) := by
  simp only [accumulate]
  refine Prod.ext ?_ ?_ <;> dsimp only <;> omega

/-- A reverse count adds 65,536 as often as needed to bring the accumulator back into its range (R5). -/
theorem accumulate_reverse {frac : Nat} (scale : Nat) (hf : frac < 65536) :
    accumulate frac (-(scale : Int)) =
      (frac + (scale + 65535 - frac) / 65536 * 65536 - scale, -(((scale + 65535 - frac) / 65536 : Nat) : Int)) := by
  simp only [accumulate]
  refine Prod.ext ?_ ?_ <;> dsimp only <;> omega

theorem modL_natCast (L n : Nat) : modL L (n : Int) = n % L := by
  simp only [modL]
  omega

theorem Tracker.step_seeking {t : Tracker} (h : t.lock = .seeking) (g : Geometry) (z : Int) :
    t.step g z = { t with current := t.current + z } := by
  simp [Tracker.step, h]

theorem Tracker.step_verifying {t : Tracker} (h : t.lock = .verifying) (g : Geometry) (z : Int) :
    t.step g z =
      { t with current := t.current + z, homeDist := min (t.homeDist + z) (g.length + g.homeTol + 1) } := by
  simp [Tracker.step, h]

theorem Tracker.step_placed {t : Tracker} (h : t.lock = .locked ∨ t.lock = .coasting) {x : Nat} (hx : t.pos = some x)
    (g : Geometry) (z : Int) :
    t.step g z =
      { t with current := t.current + z, homeDist := t.homeDist + z, pos := some (modL g.length (x + z)) } := by
  rcases h with h | h <;> simp [Tracker.step, h, hx]

/-! ### What a forward move reaches -/

theorem reachedWindows_none {len x d : Nat} {ws : List Window} (h : ∀ y ∈ ws, reaches len x d y.close = false) :
    reachedWindows len x d ws = [] := by
  have hf : (ws.filter fun y => reaches len x d y.close) = [] := List.filter_eq_nil_iff.2 fun y hy => by simp [h y hy]
  simp [reachedWindows, hf, sortBy]

theorem reachedEntries_none {len x d : Nat} {es : List Entry} (h : ∀ e ∈ es, reaches len x d e.firePoint = false) :
    reachedEntries len x d es = [] := by
  have hf : (es.filter fun y => reaches len x d y.firePoint) = [] :=
    List.filter_eq_nil_iff.2 fun y hy => by simp [h y hy]
  simp [reachedEntries, hf, sortBy]

/-- A move that reaches no window's close and no fire point leads to nothing (R88, R108). -/
theorem present_none {l : Loop} {x : Nat} (a : Int) {d : Nat} {w : Work}
    (hw : ∀ y ∈ w.windows, reaches l.length x d y.close = false)
    (he : ∀ e ∈ w.fires, reaches l.length x d e.firePoint = false) : present l x a d w = w := by
  simp [present, reachedWindows_none hw, reachedEntries_none he]

/-! ### Moves -/

@[simp] theorem State.setTracker_setTracker (s : State) (t u : Tracker) :
    (s.setTracker t).setTracker u = s.setTracker u := rfl

theorem moveBy_still (g : Geometry) {z : Int} (hz : ¬ z > 0) (s : State) :
    moveBy g z s = s.setTracker (s.loop.tracker.step g z) := by
  simp [moveBy, hz]

theorem checkHome_unplaced (g : Geometry) {s : State} (h : s.loop.tracker.lock.placed = false) : checkHome g s = s := by
  simp [checkHome, h]

theorem checkHome_short {g : Geometry} {s : State} (h : s.loop.tracker.homeDist ≤ (g.length : Int) + g.homeTol) :
    checkHome g s = s := by
  simp [checkHome, Int.not_lt.2 h]

/-- Without a position a step moves the tracker alone. -/
theorem moveBy_absent (g : Geometry) (z : Int) {s : State} (hp : s.loop.tracker.pos = none)
    (hl : s.loop.tracker.lock.placed = false) : moveBy g z s = s.setTracker (s.loop.tracker.step g z) := by
  by_cases hz : z > 0
  · simp only [moveBy, hz, if_true, hp]
    exact checkHome_unplaced g (by simpa using hl)
  · exact moveBy_still g hz s

/-- A forward step from position `x`: the span is presented, and the home distance is checked. -/
theorem moveBy_forward (g : Geometry) {z : Int} (hz : z > 0) {s : State} {x : Nat} (hx : s.loop.tracker.pos = some x) :
    moveBy g z s =
      let u := s.setTracker (s.loop.tracker.step g z)
      checkHome g (u.mapWork (present u.loop x s.loop.tracker.homeDist z.toNat)) := by
  simp only [moveBy, hz, if_true, hx]

/-- The four classes of a change, by the places of the levels (R4). -/
theorem classify_forward {t : Tracker} {a b : Bool} (h : levelOf a b = (levelOf t.encA t.encB + 1) % 4) :
    classify t a b = .forward := by
  unfold classify
  generalize t.encA = p, t.encB = q at h
  revert a b p q
  decide

theorem classify_reverse {t : Tracker} {a b : Bool} (h : levelOf t.encA t.encB = (levelOf a b + 1) % 4) :
    classify t a b = .reverse := by
  unfold classify
  generalize t.encA = p, t.encB = q at h
  revert a b p q
  decide

theorem classify_illegal {t : Tracker} {a b : Bool} (h : levelOf a b = (levelOf t.encA t.encB + 2) % 4) :
    classify t a b = .illegal := by
  unfold classify
  generalize t.encA = p, t.encB = q at h
  revert a b p q
  decide

theorem classify_same {t : Tracker} {a b : Bool} (h : levelOf a b = levelOf t.encA t.encB) :
    classify t a b = .same := by
  simp [classify, h]

/-- Without a geometry, or at an equal place, the levels alone change. -/
theorem encoderChange_levels {a b : Bool} {s : State}
    (h : s.loop.tracker.geometry = none ∨ levelOf a b = levelOf s.loop.tracker.encA s.loop.tracker.encB) :
    encoderChange a b s = s.setTracker { s.loop.tracker with encA := a, encB := b } := by
  unfold encoderChange
  dsimp only
  rcases h with h | h
  · rw [h]
  · rw [classify_same h]
    cases s.loop.tracker.geometry <;> rfl

section
variable {a b : Bool} {s : State} {g : Geometry} (hg : s.loop.tracker.geometry = some g)
include hg

theorem encoderChange_forward (h : levelOf a b = (levelOf s.loop.tracker.encA s.loop.tracker.encB + 1) % 4) :
    encoderChange a b s =
      moveBy g (((s.loop.tracker.frac + g.scale) / 65536 : Nat) : Int) (s.setTracker { s.loop.tracker with
        encA := a, encB := b, frac := (s.loop.tracker.frac + g.scale) % 65536 }) := by
  simp [encoderChange, hg, classify_forward h, applyCount, accumulate_forward]

theorem encoderChange_reverse (h : levelOf s.loop.tracker.encA s.loop.tracker.encB = (levelOf a b + 1) % 4)
    (hf : s.loop.tracker.frac < 65536) :
    let down := (g.scale + 65535 - s.loop.tracker.frac) / 65536
    encoderChange a b s =
      (s.setTracker { s.loop.tracker with
        encA := a, encB := b, frac := s.loop.tracker.frac + down * 65536 - g.scale }).setTracker
        (Tracker.step { s.loop.tracker with
          encA := a, encB := b, frac := s.loop.tracker.frac + down * 65536 - g.scale } g (-(down : Int))) := by
  intro down
  have hdown : ¬ -(down : Int) > 0 := by omega
  simp only [encoderChange, hg, classify_reverse h, applyCount, State.setTracker_tracker,
    accumulate_reverse g.scale hf]
  exact moveBy_still g hdown _

theorem encoderChange_illegal (h : levelOf a b = (levelOf s.loop.tracker.encA s.loop.tracker.encB + 2) % 4) :
    encoderChange a b s = illegalMove (s.setTracker { s.loop.tracker with encA := a, encB := b }) := by
  simp [encoderChange, hg, classify_illegal h]

end

/-! ### The loss of lock -/

/-- A loss of lock without trials and windows only posts: LOCK, and STEADY where the flag falls (R10, R17, R18). -/
theorem loseLock_posts {s : State} (hq : s.Quiet) (hp : s.work.plan = []) (hw : s.work.windows = []) (x : Lock)
    (c : LockCause) :
    let ns : List Notice := .lock x s.loop.tracker.revolution c ::
      if s.loop.tracker.steady then [.steady false s.loop.tracker.v s.loop.tracker.setpoint] else []
    (s.setTracker (s.loop.tracker.loseLock x)).Posted (loseLock x c s).settle ns ns := by
  intro ns
  have hns : (lockNotices s.loop.tracker (s.loop.tracker.loseLock x) c).map Prod.snd = ns := by
    simp only [lockNotices, ns, Tracker.loseLock]
    cases s.loop.tracker.steady <;> rfl
  have h := State.settle_posting (s := s.setTracker (s.loop.tracker.loseLock x)) hq
    (bothPosts (lockNotices s.loop.tracker (s.loop.tracker.loseLock x) c))
  rw [notices_bothPosts, notices_bothPosts, hns] at h
  rwa [loseLock, lockChanged_idle _ _ (by exact hp) (by exact hw)]

/-! ### A missed home -/

theorem checkHome_locked {g : Geometry} {s : State} (hl : s.loop.tracker.lock = .locked)
    (ha : (g.length : Int) + g.homeTol < s.loop.tracker.homeDist) (hp : s.work.plan = []) :
    checkHome g s =
      ((s.setTracker { s.loop.tracker with
          lock := .coasting, coast := 1, revolution := s.loop.tracker.revolution + 1
          homeDist := s.loop.tracker.homeDist - g.length }).mapWork markCoasted).posting
        (bothPosts [(.lock, .lock .coasting (s.loop.tracker.revolution + 1) .homeMissed)]) := by
  have hfar : (s.loop.tracker.lock.placed &&
      decide (s.loop.tracker.homeDist > (g.length : Int) + g.homeTol)) = true := by
    simp [hl, Lock.placed, ha]
  have hn : lockNotices s.loop.tracker { s.loop.tracker with
      lock := .coasting, coast := 1, revolution := s.loop.tracker.revolution + 1
      homeDist := s.loop.tracker.homeDist - g.length } .homeMissed =
      [(.lock, .lock .coasting (s.loop.tracker.revolution + 1) .homeMissed)] := by
    simp [lockNotices]
  have hw (l : Loop) (w : Work) (hw : w.plan = []) (h : l.tracker.lock = .coasting) :
      lockWork s.loop l w = markCoasted w := by
    simp [lockWork, reevaluate_noPlan l hw, h, Lock.placed]
  unfold checkHome
  dsimp only
  rw [if_pos hfar, if_pos hl, lockChanged_eq, State.setTracker_tracker, hn]
  simp only [State.mapWork]
  rw [hw _ _ (by exact hp) rfl]
  rfl

theorem checkHome_coasting {g : Geometry} {s : State} (hl : s.loop.tracker.lock = .coasting)
    (ha : (g.length : Int) + g.homeTol < s.loop.tracker.homeDist) :
    checkHome g s =
      if s.loop.tracker.coast < 2 then
        s.setTracker { s.loop.tracker with
          coast := s.loop.tracker.coast + 1, revolution := s.loop.tracker.revolution + 1
          homeDist := s.loop.tracker.homeDist - g.length }
      else loseLock .seeking .missedHomes s := by
  have hfar : (s.loop.tracker.lock.placed &&
      decide (s.loop.tracker.homeDist > (g.length : Int) + g.homeTol)) = true := by
    simp [hl, Lock.placed, ha]
  simp only [checkHome, hfar, if_true]
  rw [if_neg (by simp [hl])]

end Sys2Proof.Machine

open Sys2Proof Sys2Proof.Machine

/-- Settles O22: a count is a step of the tracker; only a forward step from a position presents a span, and only past
L + H does the home distance do more than grow. -/
theorem encoderMoves : Obligations.EncoderMoves := by
  unfold Obligations.EncoderMoves
  intro s a b tr turned now loses illegal ahead back hq hf
  have moves {u : State} (h : encoderChange a b s = u) : exec (.encoderEvent a b) s = .next u.settle :=
    congrArg (fun v => Host.Outcome.next (State.settle v)) h
  have stays {t : Tracker} (h : encoderChange a b s = now t) : exec (.encoderEvent a b) s = .next (now t) :=
    (moves h).trans (congrArg _ (State.Quiet.settle hq))
  refine ⟨fun hg => stays (encoderChange_levels (.inl hg)), fun hs => stays (encoderChange_levels (.inr hs)), ?_⟩
  intro g hg up down counted uncounted cap
  have forward (h : ahead) : encoderChange a b s = moveBy g up (now { counted with current := tr.current }) :=
    encoderChange_forward hg h
  have reversed (h : back) :
      encoderChange a b s = now (Tracker.step { uncounted with current := tr.current } g (-down)) :=
    encoderChange_reverse hg h hf
  have absent (h : ahead) (hx : tr.pos = none) (hl : tr.lock.placed = false) :
      encoderChange a b s = now (Tracker.step { counted with current := tr.current } g up) :=
    (forward h).trans (moveBy_absent g up hx hl)
  have unplaced {x : Lock} (hl : tr.lock = x) (hx : x.placed = false) : tr.lock.placed = false := hl ▸ hx
  refine ⟨fun hi hl => stays ?_, fun hi hl hp hw => ?_, fun hl hx => ⟨fun h => stays ?_, fun h => stays ?_⟩,
    fun hl hx => ⟨fun h => stays ?_, fun h => stays ?_⟩, ?_⟩
  · refine (encoderChange_illegal hg hi).trans ?_
    rw [illegalMove, State.setTracker_tracker, show s.loop.tracker.lock = _ from hl]
    rfl
  · refine ⟨_, moves ((encoderChange_illegal hg hi).trans ?_),
      loseLock_posts (s := now turned) hq hp hw .seeking _⟩
    rcases hl with hl | hl | hl <;>
      rw [illegalMove, State.setTracker_tracker, show s.loop.tracker.lock = _ from hl] <;> rfl
  · exact (absent h hx (unplaced hl rfl)).trans
      (congrArg now (Tracker.step_seeking (t := { counted with current := _ }) hl g up))
  · exact (reversed h).trans (congrArg now (Tracker.step_seeking (t := { uncounted with current := _ }) hl g (-down)))
  · exact (absent h hx (unplaced hl rfl)).trans
      (congrArg now (Tracker.step_verifying (t := { counted with current := _ }) hl g up))
  · exact (reversed h).trans
      (congrArg now (Tracker.step_verifying (t := { uncounted with current := _ }) hl g (-down)))
  · intro x hx hlen hl moved quietMove missed synthesized
    have hstep : Tracker.step { counted with current := tr.current } g up = moved := by
      rw [Tracker.step_placed (t := { counted with current := _ }) hl hx, ← Nat.cast_add, modL_natCast]
    have presented (h : ahead) (hup : 0 < up) : encoderChange a b s =
        checkHome g ((now moved).mapWork (present (now moved).loop x tr.homeDist up)) := by
      refine (forward h).trans ((moveBy_forward (s := now { counted with current := tr.current }) g
        (Int.natCast_pos.2 hup) hx).trans ?_)
      exact hstep ▸ rfl
    have still (h : ahead) (hup : ¬ 0 < up) : encoderChange a b s = now moved := by
      rw [forward h, moveBy_still g (fun h => hup (Int.natCast_pos.1 h))]
      exact hstep ▸ rfl
    have hpresent (h : quietMove) :
        (now moved).mapWork (present (now moved).loop x tr.homeDist up) = now moved := by
      have hlength : (now moved).loop.length = g.length := by
        rw [Loop.length, Loop.geometry, show (now moved).loop.tracker.geometry = some g from hg]
      simp only [State.mapWork]
      rw [present_none] <;> rw [hlength]
      · exact h.1
      · exact h.2
    have missing (h : missed) : encoderChange a b s = checkHome g (now moved) := by
      obtain ⟨h, hup, -, hquiet⟩ := h
      rw [presented h hup, hpresent hquiet]
    refine ⟨fun h ha => ?_, fun h => stays ?_, fun h hl hp => ?_, fun h hl hc => stays ?_, fun h hl hc hp hw => ?_⟩
    · by_cases hup : 0 < up
      · have he := (presented h hup).trans (checkHome_short ha)
        refine ⟨_, moves he, rfl, fun hquiet => ?_⟩
        rw [hpresent hquiet]
        exact State.Quiet.settle hq
      · exact ⟨_, stays (still h hup), rfl, fun _ => rfl⟩
    · exact (reversed h).trans
        (congrArg now (Tracker.step_placed (t := { uncounted with current := _ }) hl hx g (-down)))
    · intro coasts
      have ha := h.2.2.1
      have hcoasts : coasts.Quiet := hq
      rw [moves ((missing h).trans (checkHome_locked hl ha hp)), ← State.settle_posting_both hcoasts .lock]
      rfl
    · exact (missing h).trans ((checkHome_coasting (s := now moved) hl h.2.2.1).trans (if_pos hc))
    · refine ⟨_, moves ((missing h).trans ?_), loseLock_posts (s := now moved) hq hp hw .seeking _⟩
      exact (checkHome_coasting (s := now moved) hl h.2.2.1).trans (if_neg (not_lt.2 hc))
end

section
/-! ## An entry found due

The laws of R88 and R89 for a list of one discharge. -/

namespace Sys2Proof.Machine

section
variable {w : Work} {e : Entry}

theorem Work.entryAt_of_fires (h : w.fires = [e]) : w.entryAt e.seq = some e := by
  simp [Work.entryAt, h]

theorem Work.setEntry_of_fires (h : w.fires = [e]) {f : Entry} (hs : e.seq = f.seq) :
    w.setEntry f = { w with fires := [f] } := by
  simp [Work.setEntry, h, hs]

theorem Work.ring_withFires (w : Work) (es : List Entry) (br : Branch) :
    Work.ring { w with fires := es } br = w.ring br := by
  cases br <;> rfl

/-- A busy downlink grants nothing (R148). -/
theorem arbitration_busy (l : Loop) {br : Branch} (h : (w.ring br).downlink ≠ none) : arbitration l br w = w := by
  simp [arbitration, arbitrate, Option.isSome_iff_ne_none.2 h]

/-- A request put to a RUNNING branch whose downlink is busy joins its queue (R148). -/
theorem put_busy (l : Loop) {br : Branch} {q : Req} (hr : (w.ring br).state = .running)
    (hn : (w.ring br).nodeState q.node ≠ .silent) (hd : (w.ring br).downlink ≠ none) :
    put l br q w = (w.setRing br ((w.ring br).join q), none) := by
  have hjoin : ((w.ring br).join q).downlink = (w.ring br).downlink := by
    unfold Ring.join Ring.setQueue
    cases q.job.requester <;> rfl
  simp only [put, hr, ne_eq, not_true, if_false, hn]
  rw [arbitration_busy l (by rwa [Work.ring_setRing, hjoin])]

/-- A request that fails at once (R157). -/
theorem put_failed (l : Loop) {br : Branch} {q : Req}
    (h : (w.ring br).state ≠ .running ∨ (w.ring br).nodeState q.node = .silent) :
    ∃ x, (x = .branchDown ∨ x = .nodeSilent) ∧ put l br q w = (w, some x) := by
  by_cases hr : (w.ring br).state = .running
  · exact ⟨.nodeSilent, .inr rfl, by simp [put, hr, h.resolve_left (not_not_intro hr)]⟩
  · exact ⟨.branchDown, .inl rfl, by simp [put, hr]⟩

variable {l : Loop}

/-- The tests of R89 for a discharge: the lock, the speed and the fence. -/
theorem skips_discharge (ho : e.origin = .lineDischarge ∨ e.origin = .consoleDischarge) {c : Nat}
    (hc : e.chute = some c) {p : Point} (hp : w.point c = some p) :
    skips l w e = true ↔
      l.tracker.lock ≠ .locked ∨ l.tracker.v = 0 ∨ l.fences.getLsbD p.config.zone = true := by
  rcases ho with ho | ho <;> simp [skips, ho, hc, zoneFenced, hp, Loop.isLocked, Loop.fenced, or_assoc]

/-- An entry already requested, sent, or passed in this revolution is not found due again (R88). -/
theorem foundDue_again (h : w.fires = [e]) {pass : Int}
    (hd : e.state = .sent ∨ e.requested = true ∨ e.lastPassed = some pass) : foundDue l pass e.seq w = w := by
  simp [foundDue, Work.entryAt_of_fires h, or_assoc, hd]

/-- The entry as it has passed its fire point in a pass revolution (R88). -/
def Entry.passedIn (e : Entry) (pass : Int) : Entry := { e with lastPassed := some pass }

section
variable (h : w.fires = [e]) {pass : Int} (hw : e.state = .waiting) (hr : e.requested = false)
  (hl : e.lastPassed ≠ some pass)
include h hw hr hl

/-- An entry found due is marked, and tested (R88, R89). -/
theorem foundDue_tested :
    foundDue l pass e.seq w =
      if skips l { w with fires := [e.passedIn pass] } (e.passedIn pass) then { w with fires := [e.passedIn pass] }
      else requestFire l (e.passedIn pass) { w with fires := [e.passedIn pass] } := by
  have hset : w.setEntry (e.passedIn pass) = { w with fires := [e.passedIn pass] } := Work.setEntry_of_fires h rfl
  have hfresh : ¬(e.state = .sent ∨ e.requested = true ∨ e.lastPassed = some pass) := by simp [hw, hr, hl]
  unfold foundDue
  rw [Work.entryAt_of_fires h, ← hset]
  dsimp only
  rw [if_neg (by simpa [or_assoc] using hfresh)]
  rfl

theorem foundDue_asks (hs : ¬ skips l { w with fires := [e.passedIn pass] } (e.passedIn pass) = true) {g : Geometry}
    (hg : l.geometry = some g) :
    foundDue l pass e.seq w =
      issue l g.linkBranch (newReq (.fire e.seq) g.linkNode 0)
        { w with fires := [{ e.passedIn pass with requested := true }] } := by
  rw [foundDue_tested h hw hr hl, if_neg hs, requestFire, hg]
  exact congrArg (issue l g.linkBranch _) (Work.setEntry_of_fires (e := e.passedIn pass) rfl rfl)

end

/-- A fire put to a busy downlink waits in the queue of the FIRE requester. -/
theorem issue_fire_busy {br : Branch} {node seq : Nat} (hr : (w.ring br).state = .running)
    (hn : (w.ring br).nodeState node ≠ .silent) (hd : (w.ring br).downlink ≠ none) :
    issue l br (newReq (.fire seq) node 0) w =
      w.setRing br { w.ring br with fireq := (w.ring br).fireq ++ [⟨.fire seq, node, 0, 0, false⟩] } := by
  simp only [issue, put_busy l (q := newReq (.fire seq) node 0) hr hn hd]
  rfl

/-- A fire that fails at once is a miss of its entry (R90, R157). -/
theorem issue_fire_failed {br : Branch} {node : Nat} (h : w.fires = [e])
    (hd : (w.ring br).state ≠ .running ∨ (w.ring br).nodeState node = .silent) :
    issue l br (newReq (.fire e.seq) node 0) w = missEntry l e w := by
  obtain ⟨x, hx, hput⟩ := put_failed l (q := newReq (.fire e.seq) node 0) hd
  have hfire : resolve l (newReq (.fire e.seq) node 0).job x w = resolveFire l e.seq x w := rfl
  simp only [issue, hput, hfire, resolveFire, Work.entryAt_of_fires h]
  rcases hx with rfl | rfl <;> rfl

theorem missEntry_counts (h : w.fires = [e]) (hm : e.misses < 2) :
    missEntry l e w =
      { w with fires := [{ e with misses := e.misses + 1, state := .waiting, requested := false }] } := by
  have hm : e.misses + 1 < 3 := by omega
  simp only [missEntry, hm, if_true]
  exact Work.setEntry_of_fires h rfl

/-! ### A discharge found due -/

section
variable (h : w.fires = [e]) {pass : Int} (hw : e.state = .waiting) (hr : e.requested = false)
  (hl : e.lastPassed ≠ some pass) (ho : e.origin = .lineDischarge ∨ e.origin = .consoleDischarge) {c : Nat}
  (hc : e.chute = some c) {p : Point} (hp : w.point c = some p)
include h hw hr hl ho hc hp

theorem foundDue_discharge_skipped
    (hs : l.tracker.lock ≠ .locked ∨ l.tracker.v = 0 ∨ l.fences.getLsbD p.config.zone = true) :
    foundDue l pass e.seq w = { w with fires := [e.passedIn pass] } := by
  rw [foundDue_tested h hw hr hl]
  exact if_pos ((skips_discharge (w := { w with fires := [e.passedIn pass] }) ho hc hp).2 hs)

variable (hs : ¬(l.tracker.lock ≠ .locked ∨ l.tracker.v = 0 ∨ l.fences.getLsbD p.config.zone = true))
  {g : Geometry} (hg : l.geometry = some g)
include hs hg

theorem foundDue_discharge_joins (hrun : (w.ring g.linkBranch).state = .running)
    (hn : (w.ring g.linkBranch).nodeState g.linkNode ≠ .silent) (hd : (w.ring g.linkBranch).downlink ≠ none) :
    foundDue l pass e.seq w =
      Work.setRing { w with fires := [{ e.passedIn pass with requested := true }] } g.linkBranch
        { w.ring g.linkBranch with
          fireq := (w.ring g.linkBranch).fireq ++ [⟨.fire e.seq, g.linkNode, 0, 0, false⟩] } := by
  rw [foundDue_asks h hw hr hl
    (mt (skips_discharge (w := { w with fires := [e.passedIn pass] }) (e := e.passedIn pass) ho hc hp).1 hs) hg]
  rw [issue_fire_busy] <;> simp only [Work.ring_withFires]
  · exact hrun
  · exact hn
  · exact hd

theorem foundDue_discharge_missed
    (hd : (w.ring g.linkBranch).state ≠ .running ∨ (w.ring g.linkBranch).nodeState g.linkNode = .silent) :
    foundDue l pass e.seq w =
      missEntry l { e.passedIn pass with requested := true }
        { w with fires := [{ e.passedIn pass with requested := true }] } := by
  rw [foundDue_asks h hw hr hl
    (mt (skips_discharge (w := { w with fires := [e.passedIn pass] }) (e := e.passedIn pass) ho hc hp).1 hs) hg]
  exact issue_fire_failed (e := { e.passedIn pass with requested := true }) rfl
    ((Work.ring_withFires w _ g.linkBranch).symm ▸ hd)

/-- A miss that is not the third leaves the entry WAITING with its count (R90). -/
theorem foundDue_discharge_counts
    (hd : (w.ring g.linkBranch).state ≠ .running ∨ (w.ring g.linkBranch).nodeState g.linkNode = .silent)
    (hm : e.misses < 2) :
    foundDue l pass e.seq w = { w with fires := [{ e.passedIn pass with misses := e.misses + 1 }] } := by
  rw [foundDue_discharge_missed h hw hr hl ho hc hp hs hg hd]
  refine (missEntry_counts (e := { e.passedIn pass with requested := true }) rfl hm).trans ?_
  simp only [Entry.passedIn, hw, hr]

end

/-! ### What a forward move reaches -/

/-- Without windows a forward move that reaches the one entry finds it due, in the pass revolution of its fire point
(R88, log 10). -/
theorem present_entry (hw : w.windows = []) (h : w.fires = [e]) {x d : Nat} (a : Int)
    (hr : reaches l.length x d e.firePoint = true) :
    present l x a d w =
      foundDue l (passRevolution l.length l.tracker.revolution (a + forward l.length x e.firePoint)) e.seq w := by
  simp [present, hw, h, reachedEntries, reachedWindows, hr, sortBy, insertBy]

/-- Without entries a forward move that reaches the close of the one window ends it (R108). -/
theorem present_window {y : Window} (hf : w.fires = []) (h : w.windows = [y]) {x d : Nat} (a : Int)
    (hr : reaches l.length x d y.close = true) : present l x a d w = expireOne l w y.order := by
  simp [present, hf, h, reachedEntries, reachedWindows, hr, sortBy, insertBy]

end

end Sys2Proof.Machine
end

section
/-! ## The first carrier due, and a sensor trial after its window

The laws of R108, R123 and R124 for a plan of one sensor trial. -/

namespace Sys2Proof.Machine

/-! ### The first carrier due (R123) -/

section
variable {l : Loop} {g : Geometry} {p : Point} {x : Nat} (hg : l.geometry = some g) (hx : l.orderFrom = x)
  (hpos : 0 < g.length)

/-- The distance from `x` to the expected position of carrier `j` (R23, R123). -/
def farOf (g : Geometry) (p : Point) (x j : Nat) : Nat :=
  (((p.config.loc : Int) + j * g.pitch + p.config.bias - x) % g.length).toNat

/-- The distance that the candidate span of a window covers (R24, R123). -/
def spanOf (g : Geometry) (p : Point) : Nat := min p.config.tol ((g.pitch - 1) / 2) + g.grace

/-- `best` is the nearest of the carriers below `n` whose span lies ahead, and the lowest of those at its distance. -/
def Nearest (g : Geometry) (p : Point) (x n : Nat) : Option (Nat × Nat) → Prop
  | none => ∀ j < n, farOf g p x j ≤ spanOf g p
  | some (k, d) => k < n ∧ farOf g p x k = d ∧ spanOf g p < d ∧
      ∀ j < n, spanOf g p < farOf g p x j → d < farOf g p x j ∨ (d = farOf g p x j ∧ k ≤ j)

include hg hx hpos

theorem dueDistance_eq (k : Nat) :
    dueDistance l g p k = if farOf g p x k > spanOf g p then some (farOf g p x k) else none := by
  have hl : l.length = g.length := by rw [Loop.length, hg]
  have hfar : l.ahead (expectedPos g p.config.loc p.config.bias k) = farOf g p x k := by
    rw [Loop.ahead, hx, hl, forward, expectedPos, modL, modL, farOf]
    congr 1
    rw [Int.toNat_of_nonneg (Int.emod_nonneg _ (by omega)), Int.emod_sub_emod]
  simp only [dueDistance, hfar]
  rfl

/-- One more carrier keeps the nearest the nearest. -/
theorem nearest_nearer {n : Nat} {best : Option (Nat × Nat)} (h : Nearest g p x n best) :
    Nearest g p x (n + 1) (nearer l g p best n) := by
  unfold nearer
  rw [dueDistance_eq hg hx hpos]
  by_cases hn : farOf g p x n > spanOf g p
  · rw [if_pos hn]
    cases best with
    | none =>
      refine ⟨n.lt_succ_self, rfl, hn, fun j hj hf => ?_⟩
      rcases Nat.lt_succ_iff_lt_or_eq.1 hj with hj | rfl
      · exact absurd hf (Nat.not_lt.2 (h j hj))
      · exact .inr ⟨rfl, le_rfl⟩
    | some b =>
      obtain ⟨k, d⟩ := b
      obtain ⟨hk, hd, hs, hmin⟩ := h
      dsimp only
      by_cases hlt : farOf g p x n < d
      · rw [if_pos hlt]
        refine ⟨n.lt_succ_self, rfl, hn, fun j hj hf => ?_⟩
        rcases Nat.lt_succ_iff_lt_or_eq.1 hj with hj | rfl
        · have := hmin j hj hf
          omega
        · exact .inr ⟨rfl, le_rfl⟩
      · rw [if_neg hlt]
        refine ⟨by omega, hd, hs, fun j hj hf => ?_⟩
        rcases Nat.lt_succ_iff_lt_or_eq.1 hj with hj | rfl
        · exact hmin j hj hf
        · omega
  · rw [if_neg hn]
    cases best with
    | none =>
      intro j hj
      rcases Nat.lt_succ_iff_lt_or_eq.1 hj with hj | rfl
      · exact h j hj
      · exact Nat.not_lt.1 hn
    | some b =>
      obtain ⟨k, d⟩ := b
      obtain ⟨hk, hd, hs, hmin⟩ := h
      refine ⟨by omega, hd, hs, fun j hj hf => ?_⟩
      rcases Nat.lt_succ_iff_lt_or_eq.1 hj with hj | rfl
      · exact hmin j hj hf
      · exact absurd hf hn

theorem nearest_foldl (n : Nat) : Nearest g p x n ((List.range n).foldl (nearer l g p) none) := by
  induction n with
  | zero => exact fun j hj => absurd hj j.not_lt_zero
  | succ n ih =>
    rw [List.range_succ, List.foldl_append]
    exact nearest_nearer hg hx hpos ih

/-- The first carrier due is the one that R123 names. -/
theorem firstDue_eq {k : Nat} (h : FirstDue g p x k) : firstDue l p = k := by
  obtain ⟨hk, hs, hmin⟩ := h
  replace hs : spanOf g p < farOf g p x k := hs
  replace hmin : ∀ j < g.carriers, spanOf g p < farOf g p x j →
    farOf g p x k < farOf g p x j ∨ (farOf g p x k = farOf g p x j ∧ k ≤ j) := hmin
  have hn := nearest_foldl (p := p) hg hx hpos g.carriers
  unfold firstDue
  rw [hg]
  dsimp only
  generalize (List.range g.carriers).foldl (nearer l g p) none = best at hn
  cases best with
  | none => exact absurd hs (Nat.not_lt.2 (hn k hk))
  | some b =>
    obtain ⟨j, d⟩ := b
    obtain ⟨hj, hd, hsj, hminj⟩ := hn
    have h1 := hmin j hj (hd ▸ hsj)
    have h2 := hminj k hk hs
    dsimp only
    omega

end

/-! ### A plan of one sensor trial -/

/-- The work with the one trial `u` ACTIVE and armed at carrier `k`, its window the only one (R102, R123). -/
def Work.armedAt (w : Work) (g : Geometry) (p : Point) (u : Trial) (k : Nat) : Work :=
  { w with
    plan := [{ u with state := .active, reasons := .none, armed := some k, startAt := none }]
    windows := [windowFor g p k .sensorPass u.id none w.armCount]
    armCount := w.armCount + 1 }

section
variable {w : Work} {t : Trial} (h : w.plan = [t])
include h

theorem Work.trial_of_plan : w.trial t.id = some t := by
  simp [Work.trial, h]

theorem Work.setTrial_of_plan {u : Trial} (hid : t.id = u.id) : w.setTrial u = { w with plan := [u] } := by
  simp [Work.setTrial, h, hid]

theorem windowGone_of_plan : windowGone t.id w = { w with plan := [{ t with armed := none }] } := by
  rw [windowGone, Work.trial_of_plan h]
  exact Work.setTrial_of_plan h rfl

/-- A fail below the limit is counted, and ends the streak (R117). -/
theorem count_fail_of_plan (l : Loop) (ha : t.state = .active) (hlim : t.fails + 1 < t.limit) :
    count l t.id .fail w = { w with plan := [{ t with fails := t.fails + 1, streak := 0 }] } := by
  have hact : t.isActive = true := by simp [Trial.isActive, ha]
  rw [count, Work.trial_of_plan h]
  dsimp only
  rw [if_pos hact, countFail, if_neg (by simpa using hlim)]
  exact Work.setTrial_of_plan h rfl

end

section
variable {w : Work} {l : Loop} {g : Geometry} (hg : l.geometry = some g) (hl : l.tracker.lock = .locked) {p : Point}

include hg hl in
/-- In LOCKED, with an empty table, a request to arm is granted, with the window of R23, R24 and R28. -/
theorem armPass_empty {k id : Nat} (hw : w.windows = []) :
    armPass l p k id w = .armed { w with
      windows := [windowFor g p k .sensorPass id none w.armCount], armCount := w.armCount + 1 } := by
  have hform : formWindow g p k .sensorPass id none w.armCount =
      windowFor g p k .sensorPass id none w.armCount := by
    simp only [formWindow, windowFor, closeOf, ← Nat.cast_add, modL_natCast]
    rfl
  simp [armPass, hg, Loop.isLocked, hl, hw, Work.pairTaken, joinWindow, hform]

variable (hc : 0 < g.carriers)
include hg hl hc

/-- In LOCKED, with an empty table, an ACTIVE sensor trial without a window arms at the carrier it starts from
(R123). -/
theorem rearm_of_plan {t : Trial} (h : w.plan = [t]) (hw : w.windows = []) (hp : w.point t.target = some p)
    (ha : t.state = .active) (hn : t.armed = none) (start : Option Nat) :
    rearm l t.id start w = w.armedAt g p t (start.getD (firstDue l p)) := by
  have hact : (t.isActive && t.armed.isNone) = true := by simp [Trial.isActive, ha, hn]
  obtain ⟨n, hcarriers⟩ : ∃ n, l.carriers = n + 1 :=
    ⟨g.carriers - 1, by rw [Loop.carriers, hg]; dsimp only; omega⟩
  simp only [rearm, Work.trial_of_plan h, hact, if_true, armSensor, hp, hcarriers, attempt, armPass_empty hg hl hw]
  refine Work.setTrial_of_plan (t := t) ?_ ?_
  · exact h
  · rfl

variable {t : Trial} {y : Window} (h : w.plan = [t]) (hw : w.windows = [y]) (hy : y.trial = t.id)
  (hs : y.purpose = .sensorPass)

omit hg hl hc in
include hw hs in
/-- The one window of a sensor trial leaves the table with its verdict, and no announcement finds a trial that waits
(R104, R105). -/
theorem endWindow_sensor (v : Verdict) (xc : Option Nat) :
    endWindow l v xc w y.order = sensorVerdict l (reportOf l y v xc) { w with windows := [] } := by
  have hwin : w.window y.order = some y := by simp [Work.window, hw]
  have hdrop : w.dropWindow y.order = { w with windows := [] } := by simp [Work.dropWindow, hw]
  have hpurpose : (reportOf l y v xc).purpose = .sensorPass := hs
  simp [endWindow, hwin, hdrop, announceSpace, hw, hs, handVerdict, hpurpose]

variable (hp : w.point t.target = some p) (ha : t.state = .active)
include h hw hy hs hp ha

/-- A coasted window ends CANCELLED: the trial arms at the first carrier due (R108, R123, R124). -/
theorem expireOne_coasted (hm : y.coasted = true) :
    expireOne l w y.order = w.armedAt g p t (firstDue l p) := by
  have hwin : w.window y.order = some y := by simp [Work.window, hw]
  have hplan : ({ w with windows := [] } : Work).plan = [t] := h
  simp only [expireOne, hwin, expiryVerdict, hm, if_true, endWindow_sensor hw hs, sensorVerdict, reportOf, hy]
  rw [windowGone_of_plan hplan]
  exact rearm_of_plan (t := { t with armed := none }) (w := { w with windows := [], plan := _ })
    hg hl hc rfl rfl hp ha rfl none

/-- A window without the mark ends in a miss: below the limit a fail is counted, and the trial arms at the carrier
after the window's (R108, R117, R124). -/
theorem expireOne_missed (hm : y.coasted = false) (hlim : t.fails + 1 < t.limit) :
    expireOne l w y.order =
      w.armedAt g p { t with fails := t.fails + 1, streak := 0 } ((y.carrier + 1) % g.carriers) := by
  have hwin : w.window y.order = some y := by simp [Work.window, hw]
  have hplan : ({ w with windows := [] } : Work).plan = [t] := h
  have hnext : l.nextCarrier y.carrier = (y.carrier + 1) % g.carriers := by rw [Loop.nextCarrier, Loop.carriers, hg]
  simp only [expireOne, hwin, expiryVerdict, hm, Bool.false_eq_true, if_false, endWindow_sensor hw hs, sensorVerdict,
    reportOf, hy, hnext]
  rw [windowGone_of_plan hplan, count_fail_of_plan (t := { t with armed := none }) rfl l ha hlim]
  exact rearm_of_plan (t := { t with armed := none, fails := t.fails + 1, streak := 0 })
    (w := { w with windows := [], plan := _ }) hg hl hc rfl rfl hp ha rfl _

end

end Sys2Proof.Machine
end

section
/-! ## Home events -/

namespace Sys2Proof.Machine

theorem State.Quiet.of_work {s t : State} (h : s.Quiet) (ho : t.work.outbox = s.work.outbox)
    (hd : t.work.dist = s.work.dist) : t.Quiet :=
  ⟨ho.trans h.1, fun d h' => h.2 d (hd.symm.trans h')⟩

/-- Without trials a change of lock state that keeps or gains the position, and is no entry to COASTING, only posts LOCK
(R17, R18). -/
theorem lockChanged_kept (before : Loop) (c : LockCause) {s : State} (hp : s.work.plan = [])
    (hb : before.tracker.lock.placed = true → s.loop.tracker.lock.placed = true)
    (hc : s.loop.tracker.lock ≠ .coasting) (hs : s.loop.tracker.steady = before.tracker.steady) :
    lockChanged before c s =
      s.posting (bothPosts [(.lock, .lock s.loop.tracker.lock s.loop.tracker.revolution c)]) := by
  have hlost : ¬(before.tracker.lock.placed && !s.loop.tracker.lock.placed) = true := by
    cases h : before.tracker.lock.placed <;> simp [hb, h]
  have hwork (ps : List Post) : lockWork before s.loop { s.work with outbox := s.work.outbox ++ ps } =
      { s.work with outbox := s.work.outbox ++ ps } := by
    simp only [lockWork]
    rw [reevaluate_noPlan s.loop (by exact hp), if_neg hlost, if_neg hc]
  have hnotices : lockNotices before.tracker s.loop.tracker c =
      [(.lock, .lock s.loop.tracker.lock s.loop.tracker.revolution c)] := by
    simp [lockNotices, hs]
  rw [lockChanged_eq, hnotices]
  exact congrArg (fun w => { s with work := w }) (hwork _)

/-! ### The snap of an accepted home (R16) -/

section
variable {g : Geometry} {s : State}

theorem snapHome_late (h : (g.length : Int) ≤ s.loop.tracker.homeDist) :
    snapHome g s = s.setTracker { s.loop.tracker with pos := some 0 } := by
  simp only [snapHome, Int.not_lt.2 h, if_false]
  cases s.loop.tracker.pos <;> rfl

theorem snapHome_early {x : Nat} (hx : s.loop.tracker.pos = some x) (h : s.loop.tracker.homeDist < g.length) :
    snapHome g s = (s.setTracker { s.loop.tracker with pos := some 0 }).mapWork
      (present { s.loop with tracker := { s.loop.tracker with pos := some 0 } } x s.loop.tracker.homeDist
        ((g.length : Int) - s.loop.tracker.homeDist).toNat) := by
  simp only [snapHome, hx, h, if_true]
  rfl

theorem acceptedHome_locked {u : State} (hsnap : snapHome g s = u) (hl : u.loop.tracker.lock = .locked) :
    acceptedHome g s = u.setTracker (u.loop.tracker.acceptHome g) := by
  subst hsnap
  simp [acceptedHome, Tracker.acceptHome, hl]

theorem acceptedHome_coasting {u : State} (hsnap : snapHome g s = u) (hl : u.loop.tracker.lock = .coasting)
    (hp : u.work.plan = []) :
    acceptedHome g s =
      (u.setTracker { u.loop.tracker.acceptHome g with coast := 0, lock := .locked }).posting
        (bothPosts [(.lock, .lock .locked (u.loop.tracker.revolution + 1) .homeRegained)]) := by
  subst hsnap
  have hcoasting : ((snapHome g s).loop.tracker.acceptHome g).lock = .coasting := hl
  unfold acceptedHome
  dsimp only
  rw [if_pos hcoasting, lockChanged_kept] <;> simp [hp, Lock.placed, Tracker.acceptHome]

/-! ### The home event, by lock state (R12 to R14) -/

/-- Without a geometry a home is ignored. -/
theorem homeSeen_ignored (hl : s.loop.tracker.lock = .noGeometry) : homeSeen s = s := by
  unfold homeSeen
  dsimp only
  rw [hl]
  cases s.loop.tracker.geometry <;> rfl

/-- A first rejected home is counted (R14). -/
theorem rejectedHome_first (h : s.loop.tracker.rejected = 0) :
    rejectedHome s = s.setTracker { s.loop.tracker with rejected := 1 } := by
  simp [rejectedHome, h]

/-- A second rejected home loses lock (R14). -/
theorem rejectedHome_second (h : 1 ≤ s.loop.tracker.rejected) :
    rejectedHome s = loseLock .verifying .rejectedHomes s := by
  simp [rejectedHome, h]

variable (hg : s.loop.tracker.geometry = some g)
include hg

theorem Tracker.homeSeen_confirmed (hl : s.loop.tracker.lock = .verifying)
    (hn : homeWithin g s.loop.tracker.homeDist = true) :
    s.loop.tracker.homeSeen = { s.loop.tracker.acceptHome g with lock := .locked, pos := some 0, coast := 0 } := by
  simp [Tracker.homeSeen, hg, hl, hn]

theorem Tracker.homeSeen_accepted (hl : s.loop.tracker.lock = .locked ∨ s.loop.tracker.lock = .coasting)
    (hn : homeWithin g s.loop.tracker.homeDist = true) :
    s.loop.tracker.homeSeen = s.loop.tracker.acceptedHome g := by
  rcases hl with hl | hl <;> simp [Tracker.homeSeen, hg, hl, hn]

theorem Tracker.homeSeen_rejected (hl : s.loop.tracker.lock = .locked ∨ s.loop.tracker.lock = .coasting)
    (hn : homeWithin g s.loop.tracker.homeDist = false) :
    s.loop.tracker.homeSeen = s.loop.tracker.rejectedHome := by
  rcases hl with hl | hl <;> simp [Tracker.homeSeen, hg, hl, hn]

theorem homeSeen_seeking (hl : s.loop.tracker.lock = .seeking) (hp : s.work.plan = []) :
    homeSeen s = (s.setTracker { s.loop.tracker with lock := .verifying, homeDist := 0 }).posting
      (bothPosts [(.lock, .lock .verifying s.loop.tracker.revolution .firstHome)]) := by
  simp only [homeSeen, hg, hl]
  rw [lockChanged_kept] <;> simp [hp, hl, Lock.placed]

theorem homeSeen_far (hl : s.loop.tracker.lock = .verifying) (hf : homeWithin g s.loop.tracker.homeDist = false) :
    homeSeen s = s.setTracker { s.loop.tracker with homeDist := 0 } := by
  simp [homeSeen, hg, hl, hf]

theorem homeSeen_confirmed (hl : s.loop.tracker.lock = .verifying)
    (hn : homeWithin g s.loop.tracker.homeDist = true) (hp : s.work.plan = []) :
    homeSeen s =
      (s.setTracker { s.loop.tracker.acceptHome g with lock := .locked, pos := some 0, coast := 0 }).posting
        (bothPosts [(.lock, .lock .locked (s.loop.tracker.revolution + 1) .acquired)]) := by
  simp only [homeSeen, hg, hl, hn, if_true]
  rw [lockChanged_kept] <;> simp [hp, hl, Lock.placed, Tracker.acceptHome]

theorem homeSeen_accepted (hl : s.loop.tracker.lock = .locked ∨ s.loop.tracker.lock = .coasting)
    (hn : homeWithin g s.loop.tracker.homeDist = true) : homeSeen s = acceptedHome g s := by
  rcases hl with hl | hl <;> simp [homeSeen, hg, hl, hn]

theorem homeSeen_rejected (hl : s.loop.tracker.lock = .locked ∨ s.loop.tracker.lock = .coasting)
    (hn : homeWithin g s.loop.tracker.homeDist = false) : homeSeen s = rejectedHome s := by
  rcases hl with hl | hl <;> simp [homeSeen, hg, hl, hn]

end

end Sys2Proof.Machine

open Sys2Proof Sys2Proof.Machine

/-- Settles O23: the home event by lock state, and an accepted home by what its snap presents. -/
theorem homeEvents : Obligations.HomeEvents := by
  unfold Obligations.HomeEvents
  intro s hq tr now
  have moves {u : State} (h : homeSeen s = u) : exec .homeEvent s = .next u.settle :=
    congrArg (fun v => Host.Outcome.next (State.settle v)) h
  have stays {t : Tracker} (h : homeSeen s = now t s.work) : exec .homeEvent s = .next (now t s.work) :=
    (moves h).trans (congrArg _ (State.Quiet.settle hq))
  have loops {t : Tracker} (h : tr.homeSeen = t) :
      ∃ u, exec .homeEvent s = .next u ∧ u.loop = (now t s.work).loop :=
    ⟨_, moves rfl, (State.settle_loop _).trans (h ▸ homeSeen_loop s)⟩
  have posts {t : Tracker} {w : Work} (hw : (now t w).Quiet) {n : Notice}
      (h : homeSeen s = (now t w).posting (bothPosts [(.lock, n)])) :
      exec .homeEvent s = .next ((now t w).notifiedBoth [n]) :=
    (moves h).trans (congrArg _ (State.settle_posting_both hw .lock n))
  refine ⟨fun hl => stays (homeSeen_ignored hl), ?_⟩
  intro g hg near home locks lost
  have hnear (h : near) : homeWithin g s.loop.tracker.homeDist = true := decide_eq_true h
  have hfar (h : ¬near) : homeWithin g s.loop.tracker.homeDist = false := decide_eq_false h
  refine ⟨fun hl hp => posts (by exact hq) (homeSeen_seeking hg hl hp),
    fun hl hn => stays (homeSeen_far hg hl (hfar hn)),
    fun hl hn => ⟨loops (Tracker.homeSeen_confirmed hg hl (hnear hn)),
      fun hp => posts (by exact hq) (homeSeen_confirmed hg hl (hnear hn) hp)⟩, fun hl hn => ?_,
    fun hl hn hr => stays ((homeSeen_rejected hg hl (hfar hn)).trans (rejectedHome_first hr)),
    fun hl hn hr => ⟨loops ?_, fun hp hw => ⟨_, moves ?_, loseLock_posts hq hp hw .verifying _⟩⟩⟩
  · intro snaps
    have snapped {w : Work} (hsnap : snapHome g s = now { tr with pos := some 0 } w)
        (hw : (now home w).Quiet) (hplan : s.work.plan = [] → w.plan = []) : snaps w := by
      have hseen := homeSeen_accepted hg hl (hnear hn)
      refine ⟨fun hl => ?_, fun hl hp =>
        posts (by exact hw) (hseen.trans (acceptedHome_coasting hsnap hl (hplan hp)))⟩
      rw [moves (hseen.trans (acceptedHome_locked hsnap hl))]
      exact congrArg _ (State.Quiet.settle hw)
    refine ⟨loops ?_, fun hlate => snapped (snapHome_late hlate) hq id, ?_⟩
    · rw [Tracker.homeSeen_accepted hg hl (hnear hn)]
      rcases hl with hl | hl
      · exact (if_neg (by rw [hl]; simp)).trans (if_pos hl).symm
      · exact (if_pos hl).trans (if_neg (by rw [hl]; simp)).symm
    intro x hx hearly span
    let l : Loop := { s.loop with tracker := { tr with pos := some 0 } }
    have hlg : l.geometry = some g := hg
    have hlen : l.length = g.length := by rw [Loop.length, hlg]
    have early {w : Work} (hpresent : present l x tr.homeDist span s.work = w) (hw : (now home w).Quiet)
        (hplan : s.work.plan = [] → w.plan = []) : snaps w :=
      snapped ((snapHome_early hx hearly).trans (congrArg (now { tr with pos := some 0 }) hpresent)) hw hplan
    refine ⟨fun hw he => early (present_none _ (hlen ▸ hw) (hlen ▸ he)) hq id, ?_, ?_⟩
    · intro p t y hl hlaw hplan hwin hfires hp hkind htarget ha hy hsensor hpurpose hcarrier hlim hreach armedAt
      have hc : 0 < g.carriers := Nat.zero_lt_of_lt hcarrier
      have expired := present_window (l := l) hfires hwin tr.homeDist (hlen ▸ hreach)
      have hpoint : s.work.point t.target = some p := htarget ▸ hp
      have armed {u : Trial} {k : Nat} (hu : u.state = .active) (hid : u.id = t.id) :
          s.work.armedAt g p u k = armedAt u k := by
        simp only [Work.armedAt, armedAt, hu, hid]
        rfl
      have hunplanned {w : Work} : s.work.plan = [] → w.plan = [] := fun h => by simp [h] at hplan
      refine ⟨fun hm => early (expired.trans ?_) hq hunplanned,
        fun k hm hk => early (expired.trans ?_) hq hunplanned⟩
      · rw [expireOne_missed hlg hl hc hplan hwin hy hpurpose hpoint ha hm hlim]
        exact armed ha rfl
      · rw [expireOne_coasted hlg hl hc hplan hwin hy hpurpose hpoint ha hm, firstDue_eq hlg rfl hlaw.pos hk]
        exact armed ha rfl
    · intro e p c hwin hfires hreach horigin hc hp r at' pass skipped due
      have found := present_entry (l := l) hwin hfires tr.homeDist (hlen ▸ hreach)
      have hpass :
          passRevolution l.length l.tracker.revolution (tr.homeDist + forward l.length x e.firePoint) = pass := by
        rw [hlen]
        rfl
      rw [hpass] at found
      refine ⟨fun h => early (found.trans (foundDue_again hfires h)) hq id, fun hw hr hl => ⟨fun hs => ?_,
        fun hs hrun hn hd => ?_, fun hs hd hm => ?_⟩⟩
      · have hdue := foundDue_discharge_skipped (l := l) hfires hw hr hl horigin hc hp hs
        exact early (found.trans hdue) hq id
      · have hdue := foundDue_discharge_joins (l := l) hfires hw hr hl horigin hc hp hs hlg hrun hn hd
        exact early (found.trans hdue) (hq.of_work (Work.setRing_outbox ..) (Work.setRing_dist ..))
          fun h => (Work.setRing_plan ..).trans h
      · have hdue := foundDue_discharge_counts (l := l) hfires hw hr hl horigin hc hp hs hlg hd hm
        exact early (found.trans hdue) hq id
  · rw [Tracker.homeSeen_rejected hg hl (hfar hn)]
    exact if_pos (Nat.succ_le_succ hr)
  · exact (homeSeen_rejected hg hl (hfar hn)).trans (rejectedHome_second hr)
end

section
/-! ## The sample timer: the tracker -/

namespace Sys2Proof.Machine

section
variable (t : Tracker)

/-- The tracker with its sample closed, its speed and its motion state (R7, R9). -/
def Tracker.sampled (t : Tracker) : Tracker := t.closeSample.sampleMotion

/-- A reverse sample finds a lock to lose (R8). -/
def Tracker.Lost (t : Tracker) : Prop :=
  t.current < 0 ∧ (t.lock = .verifying ∨ t.lock = .locked ∨ t.lock = .coasting)

theorem Lock.losable_iff (x : Lock) : x.losable = true ↔ x = .verifying ∨ x = .locked ∨ x = .coasting := by
  cases x <;> simp [Lock.losable]

/-- What the sample and the motion state leave unchanged. -/
theorem Tracker.sampled_frame :
    t.sampled.geometry = t.geometry ∧ t.sampled.frac = t.frac ∧ t.sampled.lock = t.lock ∧ t.sampled.pos = t.pos ∧
    t.sampled.homeDist = t.homeDist ∧ t.sampled.revolution = t.revolution ∧ t.sampled.coast = t.coast ∧
    t.sampled.rejected = t.rejected ∧ t.sampled.correction = t.correction ∧ t.sampled.setpoint = t.setpoint ∧
    t.sampled.steady = t.steady ∧ t.sampled.run = t.run := by
  unfold Tracker.sampled Tracker.sampleMotion
  split <;> exact ⟨rfl, rfl, rfl, rfl, rfl, rfl, rfl, rfl, rfl, rfl, rfl, rfl⟩

/-- The sample, the speed and the motion state (R7, R9). -/
theorem Tracker.sampled_values :
    t.sampled.samples = t.current :: t.samples.take 7 ∧ t.sampled.current = 0 ∧
    t.sampled.reverse = decide (t.current < 0) ∧
    t.sampled.v = (if t.current < 0 then 0 else speedOf (t.current :: t.samples.take 7).sum) ∧
    (0 < t.sampled.v ∨ t.current < 0 → t.sampled.motion = .moving ∧ t.sampled.still = 0) ∧
    (t.sampled.v = 0 → ¬t.current < 0 → t.sampled.still = min (t.still + 1) 250 ∧
      t.sampled.motion = if 250 ≤ t.still + 1 then .stopped else t.motion) := by
  unfold Tracker.sampled Tracker.sampleMotion
  have hmove : (t.closeSample.v > 0 || t.closeSample.reverse) = true ↔ 0 < t.closeSample.v ∨ t.current < 0 := by
    simp [Tracker.closeSample]
  split
  · next h =>
    exact ⟨rfl, rfl, rfl, rfl, fun _ => ⟨rfl, rfl⟩, fun hv hb => absurd (hmove.1 h) (by simp [hb]; exact hv)⟩
  · next h => exact ⟨rfl, rfl, rfl, rfl, fun h' => absurd (hmove.2 h') h, fun _ _ => ⟨rfl, rfl⟩⟩

/-- The steady test (R10). -/
theorem Tracker.sampleSteady_values :
    (t.goodSample = true →
      t.sampleSteady.run = min (t.run + 1) 250 ∧ (t.sampleSteady.steady = true ↔ t.steady = true ∨ 250 ≤ t.run + 1)) ∧
    (t.goodSample = false → t.sampleSteady.run = 0 ∧ t.sampleSteady.steady = false) := by
  unfold Tracker.sampleSteady
  refine ⟨fun h => ?_, fun h => ?_⟩ <;> simp [h]

theorem Tracker.goodSample_iff :
    t.goodSample = true ↔ t.lock = .locked ∧ 0 < t.setpoint ∧
      ((t.v : Int) - t.setpoint).natAbs ≤ max (t.setpoint / 50) 10 := by
  simp [Tracker.goodSample, steadyBand, and_assoc]

variable {t}

/-- A sample that loses the lock: the flag and its run end with it. -/
theorem Tracker.sampleExpiry_lost (h : t.Lost) : t.sampleExpiry = t.sampled.loseLock .seeking := by
  have hrev : t.sampled.reverse = true := t.sampled_values.2.2.1.trans (decide_eq_true h.1)
  have hlock : t.sampled.lock.losable = true := (Lock.losable_iff _).2 (t.sampled_frame.2.2.1 ▸ h.2)
  change t.sampled.reverseLoss.sampleSteady = _
  rw [Tracker.reverseLoss, if_pos hrev, Tracker.loseIfHeld, if_pos hlock]
  rfl

/-- A sample that keeps the lock. -/
theorem Tracker.sampleExpiry_kept (h : ¬t.Lost) : t.sampleExpiry = t.sampled.sampleSteady := by
  have hloss : t.sampled.reverseLoss = t.sampled := by
    unfold Tracker.reverseLoss Tracker.loseIfHeld
    split
    · next hrev =>
      refine if_neg fun hlock => h ⟨?_, ?_⟩
      · simpa [t.sampled_values.2.2.1] using hrev
      · exact t.sampled_frame.2.2.1 ▸ (Lock.losable_iff _).1 hlock
    · rfl
  exact congrArg Tracker.sampleSteady hloss

variable (t)

/-- The sample, the speed and the motion state are those before the lock and the flag are seen to. -/
theorem Tracker.sampleExpiry_sample :
    t.sampleExpiry.samples = t.sampled.samples ∧ t.sampleExpiry.current = t.sampled.current ∧
    t.sampleExpiry.reverse = t.sampled.reverse ∧ t.sampleExpiry.v = t.sampled.v ∧
    t.sampleExpiry.motion = t.sampled.motion ∧ t.sampleExpiry.still = t.sampled.still := by
  by_cases h : t.Lost
  · rw [Tracker.sampleExpiry_lost h]
    exact ⟨rfl, rfl, rfl, rfl, rfl, rfl⟩
  · rw [Tracker.sampleExpiry_kept h]
    unfold Tracker.sampleSteady
    split <;> exact ⟨rfl, rfl, rfl, rfl, rfl, rfl⟩

theorem Tracker.sampleExpiry_frame :
    t.sampleExpiry.revolution = t.revolution ∧ t.sampleExpiry.frac = t.frac ∧
    t.sampleExpiry.geometry = t.geometry ∧ t.sampleExpiry.setpoint = t.setpoint ∧
    t.sampleExpiry.correction = t.correction := by
  obtain ⟨hgeometry, hfrac, -, -, -, hrevolution, -, -, hcorrection, hsetpoint, -, -⟩ := t.sampled_frame
  rw [← hgeometry, ← hfrac, ← hrevolution, ← hcorrection, ← hsetpoint]
  by_cases h : t.Lost
  · rw [Tracker.sampleExpiry_lost h]
    exact ⟨rfl, rfl, rfl, rfl, rfl⟩
  · rw [Tracker.sampleExpiry_kept h]
    unfold Tracker.sampleSteady
    split <;> exact ⟨rfl, rfl, rfl, rfl, rfl⟩

variable {t}

/-- A sample that keeps the lock keeps the position and the home counts. -/
theorem Tracker.sampleExpiry_place (h : ¬t.Lost) :
    t.sampleExpiry.lock = t.lock ∧ t.sampleExpiry.pos = t.pos ∧ t.sampleExpiry.homeDist = t.homeDist ∧
    t.sampleExpiry.coast = t.coast ∧ t.sampleExpiry.rejected = t.rejected := by
  obtain ⟨-, -, hlock, hpos, hhome, -, hcoast, hrejected, -, -, -, -⟩ := t.sampled_frame
  rw [← hlock, ← hpos, ← hhome, ← hcoast, ← hrejected, Tracker.sampleExpiry_kept h]
  unfold Tracker.sampleSteady
  split <;> exact ⟨rfl, rfl, rfl, rfl, rfl⟩

variable (t)

/-- The steady flag and its run of good samples (R10). -/
theorem Tracker.sampleExpiry_steady :
    let good : Prop := t.sampleExpiry.lock = .locked ∧ 0 < t.setpoint ∧
      ((t.sampleExpiry.v : Int) - t.setpoint).natAbs ≤ max (t.setpoint / 50) 10
    (good → t.sampleExpiry.run = min (t.run + 1) 250 ∧
      (t.sampleExpiry.steady = true ↔ t.steady = true ∨ 250 ≤ t.run + 1)) ∧
    (¬good → t.sampleExpiry.run = 0 ∧ t.sampleExpiry.steady = false) := by
  intro good
  by_cases h : t.Lost
  · have hloss := Tracker.sampleExpiry_lost h
    have hlock : t.sampleExpiry.lock = .seeking := hloss ▸ rfl
    exact ⟨fun hg => absurd (hlock.symm.trans hg.1) (by simp), fun _ => hloss ▸ ⟨rfl, rfl⟩⟩
  · obtain ⟨-, -, hlock, -, -, -, -, -, -, hsetpoint, hsteady, hrun⟩ := t.sampled_frame
    obtain ⟨-, -, -, hv, -, -⟩ := t.sampleExpiry_sample
    have hgood : t.sampled.goodSample = true ↔ good := by
      rw [Tracker.goodSample_iff, hlock, hsetpoint, ← hv, ← (Tracker.sampleExpiry_place h).1]
    obtain ⟨hon, hoff⟩ := t.sampled.sampleSteady_values
    rw [hsteady, hrun] at hon
    rw [Tracker.sampleExpiry_kept h]
    exact ⟨fun hg => hon (hgood.2 hg), fun hg => hoff (Bool.eq_false_iff.2 fun h' => hg (hgood.1 h'))⟩

end

end Sys2Proof.Machine
end

section
/-! ## The sample timer: the fire points -/

namespace Sys2Proof.Machine

/-! ### Crossings (R87) -/

section
variable {l : Loop} {w : Work} {e : Entry}

theorem crossing_absent (h : l.tracker.pos = none) (a b : Nat) : crossing l a b = .none := by
  simp [crossing, h]

section
variable {x : Nat} (h : l.tracker.pos = some x) (a b : Nat)
include h

theorem crossing_backward_iff :
    crossing l a b = .backward ↔ signedDiff l.length b a < 0 ∧ forward l.length b x < forward l.length b a := by
  simp only [crossing, h]
  by_cases hneg : signedDiff l.length b a < 0
  · by_cases hx : forward l.length b x < forward l.length b a <;> simp [hneg, hx]
  · by_cases hpos : signedDiff l.length b a > 0
    · by_cases hx : forward l.length a x < forward l.length a b <;> simp [hneg, hpos, hx]
    · simp [hneg, hpos]

theorem crossing_forward_iff :
    crossing l a b = .forward ↔ 0 < signedDiff l.length b a ∧ forward l.length a x < forward l.length a b := by
  simp only [crossing, h]
  by_cases hneg : signedDiff l.length b a < 0
  · by_cases hx : forward l.length b x < forward l.length b a <;> simp [hneg, hx, Int.not_lt.2 (Int.le_of_lt hneg)]
  · by_cases hpos : 0 < signedDiff l.length b a
    · by_cases hx : forward l.length a x < forward l.length a b <;> simp [hneg, hpos, hx]
    · simp [hneg, hpos]

end

/-! ### The entries at the recomputation (R87) -/

/-- The entry with its new fire point, which a SENT entry does not take. -/
def Entry.repointed (l : Loop) (w : Work) (e : Entry) : Entry :=
  if e.state = .sent then e else { e with firePoint := newFirePoint l w e }

theorem Entry.repointed_waiting (h : e.state = .waiting) :
    e.repointed l w = { e with firePoint := newFirePoint l w e } :=
  if_neg (by simp [h])

theorem recomputeEntry_still (h : takesBack l w e = false) : recomputeEntry l w e = e.repointed l w := by
  unfold recomputeEntry Entry.repointed
  cases hs : e.state with
  | sent => simp
  | waiting =>
    have hkeep : ¬(e.requested && decide (crossing l e.firePoint (newFirePoint l w e) = .forward)) = true := by
      simpa [takesBack, hs] using h
    dsimp only
    rw [if_neg hkeep]

/-- Where no fire point is carried over the position, the WAITING entries take their new fire points alone. -/
theorem recomputeFires_still (h : ∀ e ∈ w.fires, crossedBack l w e = false ∧ takesBack l w e = false) :
    recomputeFires l w = { w with fires := w.fires.map (Entry.repointed l w) } := by
  have hback : w.fires.filter (crossedBack l w) = [] := List.filter_eq_nil_iff.2 fun e he => by simp [h e he]
  have htake : w.fires.filter (takesBack l w) = [] := List.filter_eq_nil_iff.2 fun e he => by simp [h e he]
  have hmap : w.fires.map (recomputeEntry l w) = w.fires.map (Entry.repointed l w) :=
    List.map_congr_left fun e he => recomputeEntry_still (h e he).2
  simp [recomputeFires, hback, htake, hmap, listOrder, sortBy]

/-- A requested entry carried forward over the position takes its request back. -/
theorem recomputeFires_takes (hf : w.fires = [e]) (hw : e.state = .waiting) (hr : e.requested = true)
    (hc : crossing l e.firePoint (newFirePoint l w e) = .forward) :
    recomputeFires l w =
      Work.withdrawFire { w with fires := [{ e.repointed l w with requested := false, lastPassed := none }] }
        e.seq := by
  have hback : crossedBack l w e = false := by simp [crossedBack, hc]
  have htake : takesBack l w e = true := by simp [takesBack, hw, hr, hc]
  have hentry : recomputeEntry l w e = { e.repointed l w with requested := false, lastPassed := none } := by
    simp [recomputeEntry, Entry.repointed, hw, hr, hc]
  simp [recomputeFires, hback, htake, hf, hentry, listOrder, sortBy]

/-- An entry carried back over the position is found due. -/
theorem recomputeFires_back (hf : w.fires = [e]) (hw : e.state = .waiting)
    (hc : crossing l e.firePoint (newFirePoint l w e) = .backward) :
    recomputeFires l w = foundDue l l.passRevolution e.seq { w with fires := [e.repointed l w] } := by
  have hback : crossedBack l w e = true := by simp [crossedBack, hw, hc]
  have htake : takesBack l w e = false := by simp [takesBack, hc]
  have hseq : (e.repointed l w).seq = e.seq := by rw [Entry.repointed_waiting hw]
  simp [recomputeFires, hback, hf, htake, recomputeEntry_still htake, listOrder, sortBy, insertBy, hseq]

end

/-! ### The end of a discharge (R94) -/

theorem Work.withdrawFire_eq (w : Work) (seq : Nat) :
    w.withdrawFire seq = w.withdraw fun j => decide (j ≠ .fire seq) := by
  refine congrArg w.withdraw (funext fun j => ?_)
  cases j <;> simp [bne, Bool.beq_eq_decide_eq]

/-- A modification looks at the one element alone. -/
theorem modify_congr_at {α : Type} {xs : List α} {k : Nat} {f g : α → α} (h : ∀ x, xs[k]? = some x → f x = g x) :
    xs.modify k f = xs.modify k g := by
  refine List.ext_getElem? fun i => ?_
  rw [List.getElem?_modify, List.getElem?_modify]
  by_cases hi : k = i
  · subst hi
    cases hx : xs[k]? with
    | none => rfl
    | some x => simp [h x hx]
  · simp [hi]

/-- A carrier whose entry leaves keeps its load without a destination (R79). -/
theorem Work.clearDest_eq (w : Work) (k : Nat) :
    w.clearDest k = { w with carriers := w.carriers.modify k fun c => { c with load := c.load.unbound } } := by
  have hstay (h : ∀ c, w.carrier k = some c → c.load.unbound = c.load) :
      w = { w with carriers := w.carriers.modify k fun c => { c with load := c.load.unbound } } := by
    have hid : w.carriers.modify k (fun c => { c with load := c.load.unbound }) = w.carriers.modify k id :=
      modify_congr_at fun c hc => by rw [h c hc]; rfl
    rw [hid, List.modify_id]
  unfold Work.clearDest
  cases hk : w.carrier k with
  | none => exact hstay (by simp [hk])
  | some c =>
    cases hl : c.load with
    | loaded owner ref dest =>
      simp only [hl]
      refine congrArg (fun x => { w with carriers := x }) (modify_congr_at fun d hd => ?_)
      have hd : d = c := Option.some.inj (hd.symm.trans hk)
      rw [hd, hl]
      rfl
    | _ =>
      simp only [hl]
      exact hstay (by simp [hk, hl, LoadState.unbound])

/-- What a discharge leaves as it ends: its entry and its waiting request are gone, its carrier has no destination, and
its owner hears of it (R94). A chute whose drain does not wait for it is not told. -/
theorem endDischarge_eq (l : Loop) (outcome : DischargeOutcome) {e : Entry} {w : Work} {c : Nat} (hc : e.chute = some c)
    (hd : e.owner = .console ∨ w.ask c = none) :
    endDischarge l outcome e w =
      (w.without e id).post e.owner .fires
        (.dischargeDone e.carrier c outcome e.ref e.misses l.tracker.revolution) := by
  have hrem : removeEntry e w = w.without e id := by
    rw [removeEntry, Work.clearDest_eq, Work.withdrawFire_eq]
    simp [Work.without, Work.withdraw, bne, Bool.beq_eq_decide_eq]
  have hdrain (v : Work) (hv : v.asks = w.asks) : drainAsk e v = v := by
    unfold drainAsk
    rcases hd with hd | hd
    · rw [hd]
    · have hask : v.ask c = none := by rw [Work.ask, hv]; exact hd
      rw [hc]
      cases e.owner
      · simp [hask]
      · rfl
  rw [endDischarge, hdrain _ (by rw [hrem]; rfl), hrem, hc]
  rfl

/-- The third miss ends a discharge as RECIRCULATED (R90). -/
theorem missEntry_third (l : Loop) {e : Entry} {w : Work} (hm : e.misses = 2)
    (ho : e.origin = .lineDischarge ∨ e.origin = .consoleDischarge) :
    missEntry l e w = endDischarge l .recirculated { e with misses := 3, state := .waiting, requested := false } w := by
  rcases ho with ho | ho <;> simp [missEntry, hm, ho]

/-- What the end of the one entry leaves does not turn on how the list held it. -/
theorem Work.without_of_fires {w : Work} {e a b : Entry} (hf : w.fires = [e]) (ha : a.seq = e.seq) (hb : b.seq = e.seq)
    (hc : b.carrier = e.carrier) : Work.without { w with fires := [a] } b id = w.without e id := by
  simp [Work.without, hf, ha, hb, hc]

/-- A discharge found due whose fire fails at once, for the third time (R90, R94). -/
theorem foundDue_discharge_ended {l : Loop} {w : Work} {e : Entry} {pass : Int} {c : Nat} {p : Point} {g : Geometry}
    (h : w.fires = [e]) (hw : e.state = .waiting) (hr : e.requested = false) (hl : e.lastPassed ≠ some pass)
    (ho : e.origin = .lineDischarge ∨ e.origin = .consoleDischarge) (hc : e.chute = some c) (hp : w.point c = some p)
    (hs : ¬(l.tracker.lock ≠ .locked ∨ l.tracker.v = 0 ∨ l.fences.getLsbD p.config.zone = true))
    (hg : l.geometry = some g)
    (hd : (w.ring g.linkBranch).state ≠ .running ∨ (w.ring g.linkBranch).nodeState g.linkNode = .silent)
    (hm : e.misses = 2) (howner : e.owner = .console ∨ w.ask c = none) :
    foundDue l pass e.seq w = (w.without e id).post e.owner .fires
      (.dischargeDone e.carrier c .recirculated e.ref 3 l.tracker.revolution) := by
  rw [foundDue_discharge_missed h hw hr hl ho hc hp hs hg hd]
  refine (missEntry_third l (e := { e.passedIn pass with requested := true }) hm ho).trans
    ((endDischarge_eq l .recirculated
      (w := { w with fires := [{ e.passedIn pass with requested := true }] })
      (e := { e.passedIn pass with misses := 3, state := .waiting, requested := false }) hc howner).trans ?_)
  exact congrArg (fun x => Work.post x _ _ _) (Work.without_of_fires (a := { e.passedIn pass with requested := true })
    (b := { e.passedIn pass with misses := 3, state := .waiting, requested := false }) h rfl rfl rfl)

end Sys2Proof.Machine
end

section
/-! ## The sample timer: the event -/

namespace Sys2Proof.Machine

theorem State.Posted.perm {s t : State} {a b a' b' : List Notice} (h : s.Posted t a b) (ha : a.Perm a')
    (hb : b.Perm b') : s.Posted t a' b' := by
  obtain ⟨f, x, y, hx, hy, ht⟩ := h
  exact ⟨f, x, y, hx.trans ha, hy.trans hb, ht⟩

/-- The notice of a change of the steady flag (R10). -/
def steadyNews (was t : Tracker) : List (Block × Notice) :=
  if t.steady = was.steady then [] else [(.steady, .steady t.steady t.v t.setpoint)]

@[simp] theorem State.posting_nil (s : State) : s.posting [] = s := by
  have h : s.work.outbox ++ [] = s.work.outbox := List.append_nil _
  rw [State.posting, h]

theorem reverseLoss_kept {s : State} (h : ¬(s.loop.tracker.reverse = true ∧ s.loop.tracker.lock.losable = true)) :
    reverseLoss s = s := by
  unfold reverseLoss
  cases hr : s.loop.tracker.reverse with
  | false => rfl
  | true => cases hl : s.loop.tracker.lock <;> simp_all [Lock.losable]

theorem reverseLoss_lost {s : State} (hr : s.loop.tracker.reverse = true)
    (hl : s.loop.tracker.lock.losable = true) : reverseLoss s = loseLock .seeking .reverse s := by
  unfold reverseLoss
  rw [if_pos hr]
  rcases (Lock.losable_iff _).1 hl with h | h | h <;> rw [h]

section
variable {s : State} (hp : s.work.plan = [])
include hp

theorem State.mapWork_reevaluate (l : Loop) : s.mapWork (reevaluate l) = s := by
  rw [State.mapWork, reevaluate_noPlan l hp]

theorem steadyTest_eq :
    steadyTest s = (s.setTracker s.loop.tracker.sampleSteady).posting
      (bothPosts (steadyNews s.loop.tracker s.loop.tracker.sampleSteady)) := by
  unfold steadyTest steadyNews
  dsimp only
  rw [State.setTracker_tracker]
  by_cases h : s.loop.tracker.sampleSteady.steady = s.loop.tracker.steady
  · rw [if_pos h, if_pos h]
    exact (State.posting_nil _).symm
  · rw [if_neg h, if_neg h, State.postSteady_eq]
    exact State.mapWork_reevaluate (s := (s.setTracker s.loop.tracker.sampleSteady).posting _) hp _

/-- The fire points and the times remaining, after what the tracker's part of a sample has posted (log 9). -/
def State.sampleEnds (s : State) (ns : List (Block × Notice)) : State :=
  elapse ((s.posting (bothPosts ns)).mapWork fun w => jogsAgain s.loop (recomputeFires s.loop w))

theorem sampleExpiry_kept (h : ¬s.loop.tracker.Lost) :
    sampleExpiry s = (s.setTracker s.loop.tracker.sampleExpiry).sampleEnds
      (steadyNews s.loop.tracker s.loop.tracker.sampleExpiry) := by
  have hloss : ¬(s.loop.tracker.sampled.reverse = true ∧ s.loop.tracker.sampled.lock.losable = true) := by
    rw [s.loop.tracker.sampled_values.2.2.1, s.loop.tracker.sampled_frame.2.2.1, Lock.losable_iff, decide_eq_true_iff]
    exact h
  have hkept : reverseLoss (s.setTracker s.loop.tracker.sampled) = s.setTracker s.loop.tracker.sampled :=
    reverseLoss_kept hloss
  have hnews (t : Tracker) : steadyNews s.loop.tracker.sampled t = steadyNews s.loop.tracker t := by
    obtain ⟨-, -, -, -, -, -, -, -, -, -, hsteady, -⟩ := s.loop.tracker.sampled_frame
    rw [steadyNews, hsteady, steadyNews]
  have hsteady := steadyTest_eq (s := s.setTracker s.loop.tracker.sampled) hp
  rw [State.setTracker_tracker, ← Tracker.sampleExpiry_kept h, hnews, State.setTracker_setTracker] at hsteady
  unfold sampleExpiry
  dsimp only
  rw [show s.loop.tracker.closeSample.sampleMotion = s.loop.tracker.sampled from rfl, hkept, hsteady]
  rfl

theorem sampleExpiry_lost (hw : s.work.windows = []) (h : s.loop.tracker.Lost) :
    sampleExpiry s = (s.setTracker s.loop.tracker.sampleExpiry).sampleEnds
      ((.lock, .lock .seeking s.loop.tracker.revolution .reverse) ::
        steadyNews s.loop.tracker s.loop.tracker.sampleExpiry) := by
  have hrev : s.loop.tracker.sampled.reverse = true := s.loop.tracker.sampled_values.2.2.1.trans (decide_eq_true h.1)
  have hlock : s.loop.tracker.sampled.lock.losable = true :=
    (Lock.losable_iff _).2 (s.loop.tracker.sampled_frame.2.2.1 ▸ h.2)
  have hnotices : lockNotices s.loop.tracker.sampled s.loop.tracker.sampleExpiry .reverse =
      (.lock, .lock .seeking s.loop.tracker.revolution .reverse) ::
        steadyNews s.loop.tracker s.loop.tracker.sampleExpiry := by
    obtain ⟨-, -, -, -, -, hrevolution, -, -, -, -, hsteady, -⟩ := s.loop.tracker.sampled_frame
    rw [lockNotices, steadyNews, hsteady, Tracker.sampleExpiry_lost h]
    simp only [Tracker.loseLock, hrevolution]
    cases s.loop.tracker.steady <;> rfl
  have hloss : reverseLoss (s.setTracker s.loop.tracker.sampled) =
      (s.setTracker s.loop.tracker.sampleExpiry).posting (bothPosts
        (lockNotices s.loop.tracker.sampled s.loop.tracker.sampleExpiry .reverse)) := by
    rw [reverseLoss_lost hrev hlock, loseLock, lockChanged_idle _ _ (by exact hp) (by exact hw),
      Tracker.sampleExpiry_lost h]
    rfl
  have htest (ps : List Post) : steadyTest ((s.setTracker s.loop.tracker.sampleExpiry).posting ps) =
      (s.setTracker s.loop.tracker.sampleExpiry).posting ps := by
    rw [steadyTest_eq (by exact hp), State.posting_loop, State.setTracker_tracker, Tracker.sampleExpiry_lost h]
    exact State.posting_nil _
  unfold sampleExpiry
  dsimp only
  rw [show s.loop.tracker.closeSample.sampleMotion = s.loop.tracker.sampled from rfl, hloss, htest, hnotices]
  rfl

end

/-! ### The end of the event -/

/-- The state with the work `w`, as 4 ms have passed on it (log 6). -/
def State.sampledInto (s : State) (w : Work) : State :=
  { s with
    loop := { s.loop with clock := s.loop.clock + 4 }
    work := { w with asks := w.asks.map Ask.elapse } }

/-- The work with more posts in its outbox. -/
def Work.posting (w : Work) (ps : List Post) : Work := { w with outbox := w.outbox ++ ps }

theorem Work.post_eq_posting (w : Work) (k : Link) (b : Block) (n : Notice) : w.post k b n = w.posting [⟨k, b, n⟩] :=
  rfl

theorem Work.posting_posting (w : Work) (ps qs : List Post) : (w.posting ps).posting qs = w.posting (ps ++ qs) := by
  simp [Work.posting]

theorem sampleEnds_eq {s : State} {ns : List (Block × Notice)} {w : Work} {ps : List Post} (hp : w.plan = [])
    (h : recomputeFires s.loop (s.work.posting (bothPosts ns)) = w.posting ps) :
    s.sampleEnds ns = (s.sampledInto w).posting ps := by
  have hjogs : jogsAgain s.loop (w.posting ps) = w.posting ps := by
    simp [jogsAgain, show (w.posting ps).plan = [] from hp]
  have hends : s.sampleEnds ns = elapse { s with work := w.posting ps } := by
    rw [← hjogs, ← h]
    rfl
  have hplan : w.plan.map Trial.elapse = w.plan := by rw [hp]; rfl
  rw [hends]
  simp only [elapse, Work.posting, hplan]
  rfl

/-- The posts of a sample that keeps the lock come from one block. -/
theorem steadyNews_block (was t : Tracker) (k : Link) :
    ∀ p ∈ postsTo k (bothPosts (steadyNews was t)), p.block = .steady := by
  rw [postsTo_bothPosts]
  unfold steadyNews
  split <;> simp

theorem Work.posting_setRing (w : Work) (ps : List Post) (br : Branch) (r : Ring) :
    (w.posting ps).setRing br r = (w.setRing br r).posting ps := by
  cases br <;> rfl

theorem Work.posting_ring (w : Work) (ps : List Post) (br : Branch) : (w.posting ps).ring br = w.ring br := by
  cases br <;> rfl

theorem notices_append (k owner : Link) (ps : List Post) (b : Block) (n : Notice) :
    (postsTo k (ps ++ [⟨owner, b, n⟩])).map Post.notice =
      (postsTo k ps).map Post.notice ++ if owner = k then [n] else [] := by
  by_cases h : owner = k <;> simp [postsTo, h]

end Sys2Proof.Machine

open Sys2Proof Sys2Proof.Machine

/-- Settles O24: the tracker's part is `Tracker.sampleExpiry`; without trials the event then posts, and recomputes the
fire points. -/
theorem sampleExpires : Obligations.SampleExpires := by
  unfold Obligations.SampleExpires
  intro s tr adv back lost
  let u := tr.sampleExpiry
  have hloop : (sampleExpiry s).settle.loop = { s.loop with tracker := u, clock := s.loop.clock + 4 } :=
    (State.settle_loop _).trans (sampleExpiry_loop s)
  refine ⟨_, rfl, ?_⟩
  rw [hloop]
  intro tr'
  obtain ⟨hsamples, hcurrent, hreverse, hv, hmotion, hstill⟩ := tr.sampleExpiry_sample
  obtain ⟨hsamples', hcurrent', hreverse', hv', hmoving, hstopped⟩ := tr.sampled_values
  obtain ⟨hrevolution, hfrac, hgeometry, hsetpoint, hcorrection⟩ := tr.sampleExpiry_frame
  refine ⟨hsamples.trans hsamples', hcurrent.trans hcurrent', ?_, hv.trans hv', ?_, ?_, fun hl => ?_,
    Tracker.sampleExpiry_place, hrevolution, hfrac, hgeometry, hsetpoint, hcorrection, tr.sampleExpiry_steady.1,
    tr.sampleExpiry_steady.2, rfl, rfl, ?_⟩
  · exact (Bool.eq_iff_iff.1 (hreverse.trans hreverse')).trans decide_eq_true_iff
  · rw [show tr'.v = _ from hv, show tr'.motion = _ from hmotion, show tr'.still = _ from hstill]
    exact hmoving
  · rw [show tr'.v = _ from hv, show tr'.motion = _ from hmotion, show tr'.still = _ from hstill]
    exact hstopped
  · rw [show tr' = _ from Tracker.sampleExpiry_lost hl]
    exact ⟨rfl, rfl, rfl, rfl, rfl⟩
  intro hq hp passed told leaves
  let v := s.setTracker u
  have hpassed {w : Work} (hasks : w.asks = s.work.asks) : passed w = v.sampledInto w := by
    have helapse : w.asks.map Ask.elapse = s.work.asks.map fun k =>
        match k.state with
        | .asked r => { k with state := .asked (r - 4) }
        | .draining => k := by
      rw [hasks]
      refine List.map_congr_left fun k _ => ?_
      unfold Ask.elapse
      cases k.state <;> rfl
    simp only [State.sampledInto, helapse]
    rfl
  have hquiet {w : Work} (hout : w.outbox = s.work.outbox) (hdist : w.dist = s.work.dist) : (v.sampledInto w).Quiet :=
    hq.of_work hout hdist
  have ends {ns : List (Block × Notice)} {w : Work} {ps : List Post} (hs : sampleExpiry s = v.sampleEnds ns)
      (hr : recomputeFires v.loop (s.work.posting (bothPosts ns)) = w.posting ps) (hplan : w.plan = s.work.plan)
      (hasks : w.asks = s.work.asks) (hout : w.outbox = s.work.outbox) (hdist : w.dist = s.work.dist) :
      (passed w).Posted (sampleExpiry s).settle ((postsTo .line ps).map Post.notice)
        ((postsTo .console ps).map Post.notice) := by
    rw [hs, sampleEnds_eq (hplan.trans hp) hr, hpassed hasks]
    exact State.settle_posting (hquiet hout hdist) ps
  have hnews : (steadyNews tr u).map Prod.snd = told := by
    simp only [steadyNews, told, show u.setpoint = tr.setpoint from hsetpoint]
    split <;> rfl
  have leaving {w : Work} (hl : ¬lost)
      (hr : recomputeFires v.loop (s.work.posting (bothPosts (steadyNews tr u))) =
        w.posting (bothPosts (steadyNews tr u))) (hplan : w.plan = s.work.plan)
      (hasks : w.asks = s.work.asks) (hout : w.outbox = s.work.outbox) (hdist : w.dist = s.work.dist) : leaves w := by
    change (sampleExpiry s).settle = (passed w).notifiedBoth told
    rw [sampleExpiry_kept hp hl, sampleEnds_eq (hplan.trans hp) hr, hpassed hasks,
      State.settle_posting_one (hquiet hout hdist) (steadyNews_block tr u .line) (steadyNews_block tr u .console),
      notices_bothPosts, notices_bothPosts, hnews]
    rfl
  refine ⟨fun hl hf => leaving hl ?_ rfl rfl rfl rfl, ?_⟩
  · refine (recomputeFires_still (by simp [Work.posting, hf])).trans ?_
    simp [Work.posting, hf]
  intro g hg throw point takes gap back ahead
  have hlg : v.loop.geometry = some g := hgeometry.trans hg
  have hlen : v.loop.length = g.length := by rw [Loop.length, hlg]
  have hpoint (ps : List Post) (e : Entry) : newFirePoint v.loop (s.work.posting ps) e = point e := by
    have hthrow : (s.work.posting ps).throwOf e.chute = throw e := by
      simp only [throw]
      cases e.chute with
      | none => rfl
      | some c =>
        have hsame : (s.work.posting ps).point c = s.work.point c := rfl
        cases hpt : s.work.point c <;> simp [Work.throwOf, hsame, hpt]
    rw [newFirePoint, hlg]
    dsimp only
    rw [hthrow]
    rfl
  have hrepoint (ps : List Post) : Entry.repointed v.loop (s.work.posting ps) = takes := by
    funext e
    rw [Entry.repointed, hpoint]
  have hback {x : Nat} (ps : List Post) (e : Entry) (hx : v.loop.tracker.pos = some x) :
      crossing v.loop e.firePoint (newFirePoint v.loop (s.work.posting ps) e) = .backward ↔ back x e := by
    rw [crossing_backward_iff hx, hpoint, hlen]
    rfl
  have hahead {x : Nat} (ps : List Post) (e : Entry) (hx : v.loop.tracker.pos = some x) :
      crossing v.loop e.firePoint (newFirePoint v.loop (s.work.posting ps) e) = .forward ↔ ahead x e := by
    rw [crossing_forward_iff hx, hpoint, hlen]
    rfl
  have still {ps : List Post} (h : ∀ e ∈ s.work.fires, crossedBack v.loop (s.work.posting ps) e = false ∧
      takesBack v.loop (s.work.posting ps) e = false) :
      recomputeFires v.loop (s.work.posting ps) =
        ({ s.work with fires := s.work.fires.map takes } : Work).posting ps := by
    rw [recomputeFires_still (w := s.work.posting ps) h, hrepoint]
    rfl
  refine ⟨fun hl hw => ?_, fun hl h => leaving hl (still fun e he => ?_) rfl rfl rfl rfl,
    fun x e hl hx hf hw hr ha => leaving hl ?_ rfl rfl rfl rfl, fun x e c p hl hx hf hw hb ho hc hpt => ?_⟩
  · intro ns
    have hpos : v.loop.tracker.pos = none := (congrArg Tracker.pos (Tracker.sampleExpiry_lost hl)).trans rfl
    have hposted := ends (sampleExpiry_lost hp hw hl) (still fun e _ => by
      simp [crossedBack, takesBack, crossing_absent hpos]) rfl rfl rfl rfl
    rw [notices_bothPosts, notices_bothPosts, List.map_cons, hnews] at hposted
    exact hposted
  · cases hs : e.state with
    | sent => simp [crossedBack, takesBack, hs]
    | waiting =>
      cases hx : tr.pos with
      | none =>
        have hpos : v.loop.tracker.pos = none := (Tracker.sampleExpiry_place hl).2.1.trans hx
        simp [crossedBack, takesBack, crossing_absent hpos]
      | some x =>
        have hpos : v.loop.tracker.pos = some x := (Tracker.sampleExpiry_place hl).2.1.trans hx
        obtain ⟨hb, ha⟩ := h e he hs x hx
        refine ⟨Bool.eq_false_iff.2 fun hc => ?_, Bool.eq_false_iff.2 fun hc => ?_⟩
        · simp only [crossedBack, Bool.and_eq_true, decide_eq_true_eq] at hc
          exact hb ((hback _ e hpos).1 hc.2)
        · simp only [takesBack, Bool.and_eq_true, decide_eq_true_eq] at hc
          exact ha ⟨hc.1.2, (hahead _ e hpos).1 hc.2⟩
  · have hpos : v.loop.tracker.pos = some x := (Tracker.sampleExpiry_place hl).2.1.trans hx
    rw [recomputeFires_takes (w := s.work.posting _) hf hw hr ((hahead _ e hpos).2 ha), Work.withdrawFire_eq, hrepoint]
    rfl
  · intro pass skipped r
    obtain ⟨hlock, hplace, hhome, -, -⟩ := Tracker.sampleExpiry_place hl
    have hpos : v.loop.tracker.pos = some x := hplace.trans hx
    let ps := bothPosts (steadyNews tr u)
    have htakes : takes e = { e with firePoint := point e } := if_neg (by simp [hw])
    have hpass : v.loop.passRevolution = pass := by
      rw [Loop.passRevolution, hlen]
      simp only [passRevolution, v, State.setTracker_tracker, u, hrevolution, hhome]
      rfl
    let w := ({ s.work with fires := [takes e] } : Work).posting ps
    have hfound : recomputeFires v.loop (s.work.posting ps) = foundDue v.loop pass e.seq w := by
      rw [recomputeFires_back (w := s.work.posting ps) hf hw ((hback ps e hpos).2 hb), hrepoint, hpass]
      rfl
    have hseq : (takes e).seq = e.seq := by rw [htakes]
    have hstate : (takes e).state = .waiting := by rw [htakes]; exact hw
    have hrequested : (takes e).requested = e.requested := by rw [htakes]
    have hlast : (takes e).lastPassed = e.lastPassed := by rw [htakes]
    have hmisses : (takes e).misses = e.misses := by rw [htakes]
    have horigin : (takes e).origin = .lineDischarge ∨ (takes e).origin = .consoleDischarge := by rw [htakes]; exact ho
    have hownert : (takes e).owner = e.owner := by rw [htakes]
    have hchute : (takes e).chute = some c := by rw [htakes]; exact hc
    rw [← hseq] at hfound
    rw [← hrequested, ← hlast, ← hseq, ← hmisses]
    have hskips : skipped ↔ v.loop.tracker.lock ≠ .locked ∨ v.loop.tracker.v = 0 ∨
        v.loop.fences.getLsbD p.config.zone = true := by
      rw [show v.loop.tracker.lock = tr.lock from hlock]
      exact Iff.rfl
    have hringw : w.ring g.linkBranch = r :=
      (Work.posting_ring ..).trans (Work.ring_withFires ..)
    refine ⟨fun h => leaving hl (hfound.trans (foundDue_again (w := w) rfl (.inr h))) rfl rfl rfl rfl,
      fun hr hlp hs => leaving hl (hfound.trans (foundDue_discharge_skipped (w := w) rfl hstate hr hlp horigin
        hchute hpt (hskips.1 hs))) rfl rfl rfl rfl,
      fun hr hlp hs hrun hn hd => ?_, fun hr hlp hs hd => ?_⟩
    · have hjoins := foundDue_discharge_joins (w := w) rfl hstate hr hlp horigin hchute hpt (mt hskips.2 hs) hlg
        (hringw ▸ hrun) (hringw ▸ hn) (hringw ▸ hd)
      rw [hringw] at hjoins
      refine leaving hl (hfound.trans (hjoins.trans (Work.posting_setRing
        { s.work with fires := [{ (takes e).passedIn pass with requested := true }] } ps _ _))) ?_ ?_ ?_ ?_
      · exact Work.setRing_plan ..
      · exact Work.setRing_asks ..
      · exact Work.setRing_outbox ..
      · exact Work.setRing_dist ..
    · intro missed
      replace hd := hringw ▸ hd
      refine ⟨fun hm => leaving hl (hfound.trans (foundDue_discharge_counts (w := w) rfl hstate hr hlp horigin
        hchute hpt (mt hskips.2 hs) hlg hd hm)) rfl rfl rfl rfl, fun hm howner => ?_⟩
      intro done
      have hend := foundDue_discharge_ended (w := w) rfl hstate hr hlp horigin hchute hpt (mt hskips.2 hs) hlg hd hm
        (hownert.symm ▸ howner)
      have hleft : recomputeFires v.loop (s.work.posting ps) =
          (s.work.without e id).posting (ps ++ [⟨e.owner, .fires, done⟩]) := by
        have hcarrier : (takes e).carrier = e.carrier := by rw [htakes]
        have href : (takes e).ref = e.ref := by rw [htakes]
        have hrev : v.loop.tracker.revolution = tr.revolution := hrevolution
        have hwithout := congrArg (Work.posting · ps) (Work.without_of_fires (a := takes e) hf hseq hseq hcarrier)
        refine (hfound.trans hend).trans ((congrArg (fun x => Work.post x _ _ _) hwithout).trans ?_)
        rw [Work.post_eq_posting, Work.posting_posting, hownert, hcarrier, href, hrev]
      have hposted := ends (sampleExpiry_kept hp hl) hleft rfl rfl rfl rfl
      rw [notices_append, notices_append, notices_bothPosts, notices_bothPosts, hnews] at hposted
      cases howner : e.owner <;> simp only [howner] at hposted ⊢
      · exact hposted.perm (List.perm_append_singleton ..) (by simp)
      · exact hposted.perm (by simp) (List.perm_append_singleton ..)
end

section
/-! ## Drive rows

How the rows of a distribution read and change, what commanding a row does (R133), and the end of a distribution
(R137). -/

namespace Sys2Proof.Machine

/-! ### Reading and changing a row -/

section
variable {w : Work} {d : Distribution} {tag : Nat}

/-- The rows once the state of those with a tag is `z`. -/
def rowsWith (rows : List Row) (tag : Nat) (z : RowState) : List Row :=
  rows.map fun r => if r.tag = tag then { r with state := z } else r

theorem Work.setRow_of_dist (h : w.dist = some d) (z : RowState) :
    w.setRow tag z = { w with dist := some { d with rows := rowsWith d.rows tag z } } := by
  rw [Work.setRow, h]
  rfl

theorem rowsWith_rowsWith (rows : List Row) (y z : RowState) :
    rowsWith (rowsWith rows tag y) tag z = rowsWith rows tag z := by
  rw [rowsWith, rowsWith, rowsWith, List.map_map]
  refine List.map_congr_left fun r _ => ?_
  by_cases hr : r.tag = tag <;> simp [hr]

theorem Work.ring_withDist (w : Work) (o : Option Distribution) (br : Branch) :
    Work.ring { w with dist := o } br = w.ring br := by
  cases br <;> rfl

theorem Work.setRow_setRow (w : Work) (tag : Nat) (y z : RowState) :
    (w.setRow tag y).setRow tag z = w.setRow tag z := by
  cases h : w.dist with
  | none => simp [Work.setRow, h]
  | some d =>
    rw [Work.setRow_of_dist h, Work.setRow_of_dist h, Work.setRow_of_dist rfl, rowsWith_rowsWith]

theorem Work.row_of_dist (h : w.dist = some d) : w.row tag = d.rows.find? fun r => r.tag == tag := by
  rw [Work.row, h]
  rfl

theorem find?_rowsWith {rows : List Row} {r : Row} (h : rows.find? (fun r => r.tag == tag) = some r) (z : RowState) :
    (rowsWith rows tag z).find? (fun r => r.tag == tag) = some ⟨tag, z⟩ := by
  have hcomp : ((fun r : Row => r.tag == tag) ∘ fun r => if r.tag = tag then { r with state := z } else r) =
      fun r => r.tag == tag := by
    funext r
    by_cases hr : r.tag = tag <;> simp [hr]
  have htag : r.tag = tag := by simpa using List.find?_some h
  rw [rowsWith, List.find?_map, hcomp, h]
  simp [htag]

/-- A row with a state that is not settled keeps its distribution going (R137). -/
theorem over_of_sent {r : Row} (hm : r ∈ d.rows) {v : Nat} {m : Bool} (hr : r.state = .sent v m) : d.over = false := by
  refine Bool.eq_false_iff.2 fun ho => ?_
  have := List.all_eq_true.1 ho r hm
  simp [hr, RowState.isWithheld, RowState.satisfied] at this

end

/-! ### Commanding a row (R133) -/

/-- The work once a SET_SPEED of the drive waits at the end of the DRIVE requester's queue. -/
def Work.orders (w : Work) (tag v : Nat) (a : Route) : Work :=
  w.setRing a.branch { w.ring a.branch with
    driveq := (w.ring a.branch).driveq ++ [⟨.setSpeed tag v, a.node, a.channel, 0, false⟩] }

@[simp] theorem Work.orders_dist (w : Work) (tag v : Nat) (a : Route) : (w.orders tag v a).dist = w.dist :=
  Work.setRing_dist ..

@[simp] theorem Work.orders_outbox (w : Work) (tag v : Nat) (a : Route) : (w.orders tag v a).outbox = w.outbox :=
  Work.setRing_outbox ..

theorem Work.orders_posting (w : Work) (ps : List Post) (tag v : Nat) (a : Route) :
    (w.posting ps).orders tag v a = (w.orders tag v a).posting ps := by
  rw [Work.orders, Work.posting_ring, Work.posting_setRing, Work.orders]

section
variable {w : Work} (l : Loop) {d : Distribution} {tag : Nat}

/-- A row that is not PENDING is not commanded. -/
theorem commandRow_idle (h : ∀ r, w.row tag = some r → r.state ≠ .pending) : commandRow l w tag = w := by
  unfold commandRow
  cases hd : w.dist with
  | none => rfl
  | some d =>
    cases hr : w.row tag with
    | none => rfl
    | some r =>
      cases hp : w.point tag with
      | none => rfl
      | some p => exact if_neg (h r hr)

theorem commandRows_idle {tags : List Nat} (h : ∀ tag ∈ tags, ∀ r, w.row tag = some r → r.state ≠ .pending) :
    commandRows l tags w = w := by
  unfold commandRows
  induction tags with
  | nil => rfl
  | cons t ts ih =>
    rw [List.foldl_cons, commandRow_idle l (h t List.mem_cons_self)]
    exact ih fun u hu => h u (List.mem_cons_of_mem _ hu)

variable {p : Point} (hd : w.dist = some d) (hr : w.row tag = some ⟨tag, .pending⟩) (hp : w.point tag = some p)
include hd hr hp

theorem commandRow_pending :
    commandRow l w tag =
      if l.fenced p.config.zone then w.setRow tag .withheld
      else match p.route with
      | none => w.setRow tag (.failed d.value)
      | some a =>
        match put l a.branch (newReq (.setSpeed tag d.value) a.node a.channel)
            (w.setRow tag (.sent d.value false)) with
        | (w, none) => w
        | (w, some _) => w.setRow tag (.failed d.value) := by
  unfold commandRow
  rw [hd, hr, hp]
  exact if_pos rfl

theorem commandRow_fenced (hf : l.fenced p.config.zone = true) : commandRow l w tag = w.setRow tag .withheld := by
  rw [commandRow_pending l hd hr hp, if_pos hf]

variable (hf : l.fenced p.config.zone = false)
include hf

/-- A drive without a route, or whose node cannot be asked, fails (R134, R157). -/
theorem commandRow_failed (h : ∀ a, p.route = some a →
      (w.ring a.branch).state ≠ .running ∨ (w.ring a.branch).nodeState a.node = .silent) :
    commandRow l w tag = w.setRow tag (.failed d.value) := by
  rw [commandRow_pending l hd hr hp, if_neg (by simp [hf])]
  cases ha : p.route with
  | none => rfl
  | some a =>
    obtain ⟨x, -, hput⟩ := put_failed (w := w.setRow tag (.sent d.value false)) l
      (q := newReq (.setSpeed tag d.value) a.node a.channel) (br := a.branch) (by simpa [newReq] using h a ha)
    simp only [hput]
    exact Work.setRow_setRow ..

/-- A SET_SPEED on a busy downlink waits in the queue of the DRIVE requester. -/
theorem commandRow_joins {a : Route} (ha : p.route = some a) (hrun : (w.ring a.branch).state = .running)
    (hn : (w.ring a.branch).nodeState a.node ≠ .silent) (hb : (w.ring a.branch).downlink ≠ none) :
    commandRow l w tag = (w.setRow tag (.sent d.value false)).orders tag d.value a := by
  have hput := put_busy (w := w.setRow tag (.sent d.value false)) l
    (q := newReq (.setSpeed tag d.value) a.node a.channel) (br := a.branch)
    (by simpa using hrun) (by simpa [newReq] using hn) (by simpa using hb)
  rw [commandRow_pending l hd hr hp, if_neg (by simp [hf]), ha]
  simp only [hput]
  rfl

end

/-! ### The end of a distribution (R137) -/

/-- The distribution is over: SPEED_SET joins what the event posts, and the distribution is gone. -/
theorem State.settle_over {s : State} {d : Distribution} (hd : s.work.dist = some d) (ho : d.over = true) :
    s.settle = (({ s with work := { s.work with dist := none } } : State).posting
      [⟨.line, .drives, .speedSet d.value d.cause d.acked d.failed⟩]).settle := by
  have hend : s.work.endDistribution =
      Work.post { s.work with dist := none } .line .drives (.speedSet d.value d.cause d.acked d.failed) := by
    simp only [Work.endDistribution, hd, ho, if_true]
  rw [State.settle_of_not_over (State.posting _ _) (by simp [State.posting]), State.settle, State.mapWork, hend]
  rfl

/-- At an event that posts nothing else, SPEED_SET is what the line hears. -/
theorem State.settle_ended {s : State} (hout : s.work.outbox = []) {d : Distribution} (hd : s.work.dist = some d)
    (ho : d.over = true) :
    s.settle = ({ s with work := { s.work with dist := none } } : State).notified .line
      [.speedSet d.value d.cause d.acked d.failed] := by
  have hq : ({ s with work := { s.work with dist := none } } : State).Quiet := ⟨hout, by simp⟩
  rw [State.settle_over hd ho, State.settle_posting_one (b := .drives) (c := .drives) hq] <;> simp [postsTo]

end Sys2Proof.Machine
end

section
/-! ## SET_LOOP_SPEED (R132, R135) -/

namespace Sys2Proof.Machine

/-! ### Waiting SET_SPEED requests -/

/-- The requests that wait at the two branches. -/
def Work.waiting (w : Work) : List Req := w.ringA.waiting ++ w.ringB.waiting

theorem Ring.waits_iff (r : Ring) (p : Job → Bool) : r.waits p = true ↔ ∃ q ∈ r.waiting, p q.job = true := by
  simp [Ring.waits, Ring.waiting, or_and_right, exists_or, or_assoc]

/-- The job is a SET_SPEED of the drive. -/
def Job.ordersSpeed (tag : Nat) : Job → Bool
  | .setSpeed t _ => t == tag
  | _ => false

theorem Job.ordersSpeed_iff (tag : Nat) (j : Job) : j.ordersSpeed tag = true ↔ ∃ u, j = .setSpeed tag u := by
  cases j <;> simp [Job.ordersSpeed]

theorem Work.speedWaits_eq (w : Work) (tag : Nat) : w.speedWaits tag = w.waits (Job.ordersSpeed tag) := by
  refine congrArg w.waits (funext fun j => ?_)
  cases j <;> rfl

theorem Work.speedWaits_iff (w : Work) (tag : Nat) :
    w.speedWaits tag = true ↔ ∃ q ∈ w.waiting, ∃ u, q.job = .setSpeed tag u := by
  rw [Work.speedWaits_eq, Work.waits, Bool.or_eq_true, Ring.waits_iff, Ring.waits_iff]
  simp only [Work.waiting, List.mem_append, ← Job.ordersSpeed_iff, or_and_right, exists_or]

/-- Where `keep` holds of all that waits, nothing is withdrawn. -/
theorem Ring.withdraw_keep {r : Ring} {keep : Job → Bool} (h : ∀ q ∈ r.waiting, keep q.job = true) :
    r.withdraw keep = r := by
  have hall {qs : List Req} (hq : ∀ q ∈ qs, q ∈ r.waiting) : qs.filter (fun q => keep q.job) = qs :=
    List.filter_eq_self.2 fun q hm => h q (hq q hm)
  rw [Ring.withdraw, hall (qs := r.fireq) (by simp +contextual [Ring.waiting]),
    hall (qs := r.driveq) (by simp +contextual [Ring.waiting]),
    hall (qs := r.relayq) (by simp +contextual [Ring.waiting])]

theorem Ring.waiting_withdraw (r : Ring) (keep : Job → Bool) :
    (r.withdraw keep).waiting = r.waiting.filter fun q => keep q.job := by
  simp [Ring.withdraw, Ring.waiting]

theorem Work.withdrawSpeed_eq (w : Work) (tag : Nat) : w.withdrawSpeed tag = w.withdraw (keepsSpeeds tag) := by
  refine congrArg w.withdraw (funext fun j => ?_)
  cases j <;> simp [keepsSpeeds, bne, Bool.beq_eq_decide_eq]

theorem Work.withdraw_keep {w : Work} {keep : Job → Bool} (h : ∀ q ∈ w.waiting, keep q.job = true) :
    w.withdraw keep = w := by
  rw [Work.withdraw, Ring.withdraw_keep fun q hq => h q (List.mem_append_left _ hq),
    Ring.withdraw_keep fun q hq => h q (List.mem_append_right _ hq)]

/-- The drives with a tag of `tags` have no request that waits: none is withdrawn. -/
theorem withdrawSpeeds_idle {w : Work} {tags : List Nat}
    (h : ∀ q ∈ w.waiting, ∀ n u, q.job = .setSpeed n u → n ∉ tags) : withdrawSpeeds tags w = w := by
  unfold withdrawSpeeds
  induction tags with
  | nil => rfl
  | cons t ts ih =>
    have hkeep : w.withdrawSpeed t = w := by
      rw [Work.withdrawSpeed_eq]
      refine Work.withdraw_keep fun q hq => ?_
      cases hj : q.job <;> simp only [keepsSpeeds]
      case setSpeed n u => simpa using fun hn : n = t => h q hq n u hj (hn ▸ List.mem_cons_self)
    rw [List.foldl_cons, hkeep]
    exact ih fun q hq n u hj hn => h q hq n u hj (List.mem_cons_of_mem _ hn)

/-- Only the drive `tag` has requests that wait: they alone are withdrawn. -/
theorem withdrawSpeeds_one {w : Work} {tag : Nat} {tags : List Nat} (ht : tag ∉ tags)
    (h : ∀ q ∈ w.waiting, ∀ n u, q.job = .setSpeed n u → n = tag) :
    withdrawSpeeds (tag :: tags) w = w.withdraw (keepsSpeeds tag) := by
  have hrest : withdrawSpeeds tags (w.withdraw (keepsSpeeds tag)) = w.withdraw (keepsSpeeds tag) := by
    refine withdrawSpeeds_idle fun q hq n u hj hn => ht ?_
    have hmem : q ∈ w.waiting := by
      simp only [Work.waiting, Work.withdraw, Ring.waiting_withdraw, List.mem_append, List.mem_filter] at hq ⊢
      exact hq.imp And.left And.left
    exact h q hmem n u hj ▸ hn
  rw [← hrest, ← Work.withdrawSpeed_eq]
  rfl

/-! ### The rows as a value supersedes -/

section
variable {tag : Nat} {rest : List Row} (hne : ∀ y ∈ rest, y.tag ≠ tag)
include hne

theorem rowsWith_head (y z : RowState) : rowsWith (⟨tag, y⟩ :: rest) tag z = ⟨tag, z⟩ :: rest := by
  have hmap : rowsWith rest tag z = rest := by
    refine (List.map_congr_left fun r hr => ?_).trans (List.map_id rest)
    simp [hne r hr]
  rw [rowsWith, List.map_cons, ← rowsWith, hmap]
  simp

variable (hst : ∀ y ∈ rest, y.state = .withheld ∨ ∃ u m, y.state = .sent u m)
include hst

/-- The rows behind the first have nothing to be commanded. -/
theorem rest_not_pending {w : Work} {v : Nat} {z : RowState} {c : SpeedCause}
    (hd : w.dist = some ⟨v, c, ⟨tag, z⟩ :: rest⟩) :
    ∀ t ∈ rest.map Row.tag, ∀ r, w.row t = some r → r.state ≠ .pending := by
  intro t ht r hr
  obtain ⟨y, hy, rfl⟩ := List.mem_map.1 ht
  rw [Work.row_of_dist hd, List.find?_cons_of_neg (by simpa using (hne y hy).symm)] at hr
  rcases hst r (List.mem_of_find?_eq_some hr) with h | ⟨u, m, h⟩ <;> simp [h]

/-- The rows as a new value supersedes, where only the first drive has requests that wait. -/
theorem supersede_rows {w : Work} {x : RowState}
    (hq : ∀ q ∈ w.waiting, ∀ n u, q.job = .setSpeed n u → n = tag) :
    ((⟨tag, x⟩ :: rest : List Row).map fun r => { r with state := r.state.supersede (w.speedWaits r.tag) }) =
      ⟨tag, x.supersede (w.speedWaits tag)⟩ :: rest := by
  refine congrArg (List.cons _) ((List.map_congr_left fun r hr => ?_).trans (List.map_id rest))
  have hw : w.speedWaits r.tag = false := Bool.eq_false_iff.2 fun h => by
    obtain ⟨q, hm, u, hj⟩ := (w.speedWaits_iff _).1 h
    exact hne r hr (hq q hm _ u hj)
  rw [hw]
  rcases hst r hr with h | ⟨u, m, h⟩ <;> simp only [h, RowState.supersede] <;> rw [← h] <;> rfl

/-- A value supersedes: the first drive's waiting request is withdrawn, and its row alone can be commanded. -/
theorem supersede_eq (l : Loop) {w w' : Work} {d : Distribution} {x z : RowState} (v : Nat)
    (hrows : d.rows = ⟨tag, x⟩ :: rest) (hq : ∀ q ∈ w.waiting, ∀ n u, q.job = .setSpeed n u → n = tag)
    (hcmd : commandRow l (Work.withdraw
      { w with dist := some ⟨v, .request, ⟨tag, x.supersede (w.speedWaits tag)⟩ :: rest⟩ } (keepsSpeeds tag)) tag = w')
    (hd : w'.dist = some ⟨v, .request, ⟨tag, z⟩ :: rest⟩) : supersede l v d w = w' := by
  have htags : tag ∉ rest.map Row.tag := fun h => by
    obtain ⟨y, hy, ht⟩ := List.mem_map.1 h
    exact hne y hy ht
  simp only [supersede, hrows, supersede_rows hne hst hq]
  rw [List.map_cons, withdrawSpeeds_one htags (by exact hq)]
  refine (congrArg (fun u => (rest.map Row.tag).foldl (commandRow l) u) hcmd).trans ?_
  exact commandRows_idle l (rest_not_pending hne hst hd)

end

/-! ### The distribution of a value (R132, R135) -/

/-- The work as value `v` supersedes: the first drive's requests that wait are withdrawn, and its row, where the
distribution goes on, is `o`. -/
def Work.superseded (w : Work) (v tag : Nat) (rest : List Row) (o : Option RowState) : Work :=
  { w with
    dist := o.map fun y => ⟨v, .request, ⟨tag, y⟩ :: rest⟩
    ringA := w.ringA.withdraw (keepsSpeeds tag)
    ringB := w.ringB.withdraw (keepsSpeeds tag) }

theorem Work.superseded_ring (w : Work) (v tag : Nat) (rest : List Row) (o : Option RowState) (b : Branch) :
    (w.superseded v tag rest o).ring b = (w.ring b).withdraw (keepsSpeeds tag) := by
  cases b <;> rfl

theorem Work.superseded_row (w : Work) (v tag : Nat) (rest : List Row) (y : RowState) :
    (w.superseded v tag rest (some y)).row tag = some ⟨tag, y⟩ :=
  (Work.row_of_dist rfl).trans (List.find?_cons_of_pos (by simp))

theorem distribute_same (l : Loop) {w : Work} {d : Distribution} {v : Nat} (hd : w.dist = some d) (hv : d.value = v) :
    distribute l v w = w := by
  rw [distribute, hd]
  exact if_pos hv

/-- A distribution begins with the rows of the drives in unfenced zones. -/
theorem distribute_begins (l : Loop) {w : Work} (v : Nat) {rows : List Row} (hd : w.dist = none)
    (hrows : newRows l w = rows) :
    distribute l v w = commandRows l (rows.map Row.tag) { w with dist := some ⟨v, .request, rows⟩ } := by
  rw [distribute, hd, hrows]

/-- Over one drive, the distribution begins with its SET_SPEED. -/
theorem distribute_one (l : Loop) {w : Work} (v : Nat) {p : Point} {a : Route} (hd : w.dist = none)
    (hrows : newRows l w = [⟨p.tag, .pending⟩]) (hp : w.point p.tag = some p) (hf : l.fenced p.config.zone = false)
    (ha : p.route = some a) (hrun : (w.ring a.branch).state = .running)
    (hn : (w.ring a.branch).nodeState a.node ≠ .silent) (hb : (w.ring a.branch).downlink ≠ none) :
    distribute l v w =
      Work.orders { w with dist := some ⟨v, .request, [⟨p.tag, .sent v false⟩]⟩ } p.tag v a := by
  let begun : Work := { w with dist := some ⟨v, .request, [⟨p.tag, .pending⟩]⟩ }
  have hring : begun.ring a.branch = w.ring a.branch := Work.ring_withDist ..
  have hcmd := commandRow_joins (w := begun) (tag := p.tag) l rfl ((Work.row_of_dist rfl).trans (by simp)) hp hf ha
    (hring ▸ hrun) (hring ▸ hn) (hring ▸ hb)
  rw [Work.setRow_of_dist rfl, rowsWith_head (by simp)] at hcmd
  exact (distribute_begins l v hd hrows).trans hcmd

section
variable {l : Loop} {w : Work} {d : Distribution} {x : RowState} {rest : List Row} {p : Point} {v : Nat}
  (hd : w.dist = some d) (hv : d.value ≠ v) (hrows : d.rows = ⟨p.tag, x⟩ :: rest)
  (hne : ∀ y ∈ rest, y.tag ≠ p.tag) (hst : ∀ y ∈ rest, y.state = .withheld ∨ ∃ u m, y.state = .sent u m)
  (hp : w.point p.tag = some p) (hq : ∀ q ∈ w.waiting, ∀ n u, q.job = .setSpeed n u → n = p.tag)

include hne in
theorem Work.superseded_setRow (w : Work) (v : Nat) (y z : RowState) :
    (w.superseded v p.tag rest (some y)).setRow p.tag z = w.superseded v p.tag rest (some z) := by
  rw [Work.setRow_of_dist rfl, rowsWith_head hne]
  rfl

include hd hv hrows hne hst hq

theorem distribute_supersedes {y z : RowState} {w' : Work} (hx : x.supersede (w.speedWaits p.tag) = y)
    (hcmd : commandRow l (w.superseded v p.tag rest (some y)) p.tag = w')
    (hd' : w'.dist = some ⟨v, .request, ⟨p.tag, z⟩ :: rest⟩) : distribute l v w = w' := by
  rw [distribute, hd]
  exact (if_neg hv).trans (supersede_eq hne hst l v hrows hq (hx ▸ hcmd) hd')

/-- A command on the field stays. -/
theorem distribute_sent {u : Nat} {m : Bool} (hx : x = .sent u m) (hw : w.speedWaits p.tag = false) :
    distribute l v w = { w with dist := some ⟨v, .request, d.rows⟩ } := by
  have hkeep : ∀ q ∈ w.waiting, keepsSpeeds p.tag q.job = true := fun q hm => by
    cases hj : q.job <;> simp only [keepsSpeeds]
    case setSpeed n u =>
      have hn : n ≠ p.tag := fun hn => Bool.eq_false_iff.1 hw ((w.speedWaits_iff _).2 ⟨q, hm, u, hn ▸ hj⟩)
      simpa using hn
  have hleft : w.superseded v p.tag rest (some x) = { w with dist := some ⟨v, .request, d.rows⟩ } := by
    rw [hrows]
    exact Work.withdraw_keep (w := { w with dist := some ⟨v, .request, ⟨p.tag, x⟩ :: rest⟩ }) hkeep
  rw [← hleft]
  refine distribute_supersedes hd hv hrows hne hst hq (y := x) (by rw [hx, hw]; rfl) (commandRow_idle l fun r hr => ?_)
    rfl
  obtain rfl := Option.some.inj ((w.superseded_row ..).symm.trans hr)
  simp [hx]

variable (hx : x.supersede (w.speedWaits p.tag) = .pending)
include hp hx

theorem distribute_fenced (hf : l.fenced p.config.zone = true) :
    distribute l v w = w.superseded v p.tag rest (some .withheld) := by
  refine distribute_supersedes hd hv hrows hne hst hq hx ?_ rfl
  rw [commandRow_fenced l rfl (w.superseded_row ..) hp hf, Work.superseded_setRow hne]

variable (hf : l.fenced p.config.zone = false)
include hf

theorem distribute_failed (h : ∀ a, p.route = some a →
      (w.ring a.branch).state ≠ .running ∨ (w.ring a.branch).nodeState a.node = .silent) :
    distribute l v w = w.superseded v p.tag rest (some (.failed v)) := by
  refine distribute_supersedes hd hv hrows hne hst hq hx ?_ rfl
  rw [commandRow_failed l rfl (w.superseded_row ..) hp hf (fun a ha => ?_), Work.superseded_setRow hne]
  rw [w.superseded_ring]
  exact h a ha

theorem distribute_joins {a : Route} (ha : p.route = some a) (hrun : (w.ring a.branch).state = .running)
    (hn : (w.ring a.branch).nodeState a.node ≠ .silent) (hb : (w.ring a.branch).downlink ≠ none) :
    distribute l v w = (w.superseded v p.tag rest (some (.sent v false))).orders p.tag v a := by
  have hring := w.superseded_ring v p.tag rest (some .pending) a.branch
  refine distribute_supersedes hd hv hrows hne hst hq hx ?_ (Work.orders_dist ..)
  rw [commandRow_joins l rfl (w.superseded_row ..) hp hf ha (by rw [hring]; exact hrun) (by rw [hring]; exact hn)
    (by rw [hring]; exact hb), Work.superseded_setRow hne]

end

/-- A distribution whose rows but the first are WITHHELD: its end turns on the first (R137). -/
theorem head_decides {rest : List Row} (h : ∀ y ∈ rest, y.state = .withheld) (v tag : Nat) (c : SpeedCause)
    (z : RowState) :
    Distribution.over ⟨v, c, ⟨tag, z⟩ :: rest⟩ = (z.isWithheld || z.satisfied v) ∧
    Distribution.acked ⟨v, c, ⟨tag, z⟩ :: rest⟩ = (if z.isAcked then 1 else 0) ∧
    Distribution.failed ⟨v, c, ⟨tag, z⟩ :: rest⟩ = (if z.isFailed then 1 else 0) := by
  have hall : rest.all (fun r => r.state.isWithheld || r.state.satisfied v) = true :=
    List.all_eq_true.2 fun y hy => by simp [h y hy, RowState.isWithheld]
  have hacked : rest.filter (fun r => r.state.isAcked) = [] :=
    List.filter_eq_nil_iff.2 fun y hy => by simp [h y hy, RowState.isAcked]
  have hfailed : rest.filter (fun r => r.state.isFailed) = [] :=
    List.filter_eq_nil_iff.2 fun y hy => by simp [h y hy, RowState.isFailed]
  refine ⟨?_, ?_, ?_⟩
  · simp [Distribution.over, hall]
  · simp only [Distribution.acked, List.filter_cons, hacked]
    cases z.isAcked <;> rfl
  · simp only [Distribution.failed, List.filter_cons, hfailed]
    cases z.isFailed <;> rfl

end Sys2Proof.Machine
end

section
/-! ## The end of a SET_SPEED (R134, R152, R153) -/

namespace Sys2Proof.Machine

/-! ### A node is heard (R147) -/

/-- What a frame of a node posts before it is handled. -/
def heardNews (br : Branch) (node : Nat) (x : Node) : List (Block × Notice) :=
  (heardNotices br node x).map fun n => (.ring, n)

theorem Work.postBoth_eq_posting (w : Work) (b : Block) (n : Notice) :
    w.postBoth b n = w.posting (bothPosts [(b, n)]) := by
  simp [Work.postBoth, Work.post, Work.posting, bothPosts]

theorem Work.posting_nil (w : Work) : w.posting [] = w := by
  rw [Work.posting, List.append_nil]

theorem nodeHeard_eq {w : Work} {br : Branch} {node : Nat} {x : Node} (h : (w.ring br).node node = some x) :
    nodeHeard br node w =
      (w.setRing br ((w.ring br).setNode node x.heard)).posting (bothPosts (heardNews br node x)) := by
  unfold nodeHeard
  rw [h]
  dsimp only
  by_cases hs : x.state = .silent
  · rw [if_pos hs, nodeNotice, Work.postBoth_eq_posting]
    simp [Node.heard, heardNews, heardNotices, hs]
  · rw [if_neg hs]
    simp [Node.heard, heardNews, heardNotices, hs, bothPosts, Work.posting_nil]

/-- What a change of a node's record leaves. -/
theorem Ring.setNode_frame (r : Ring) (node : Nat) (x : Node) :
    (r.setNode node x).table = r.table ∧ (r.setNode node x).driveq = r.driveq ∧
    (r.setNode node x).downlink = r.downlink ∧
    ∀ tag, (r.setNode node x).dropTxn tag = (r.dropTxn tag).setNode node x := by
  unfold Ring.setNode
  split <;> exact ⟨rfl, rfl, rfl, fun _ => rfl⟩

theorem Ring.dropTxn_eq (r : Ring) (tag : Nat) :
    r.dropTxn tag = { r with table := r.table.filter fun z => decide (z.tag ≠ tag) } := by
  simp [Ring.dropTxn, bne, Bool.beq_eq_decide_eq]

/-- From a frame of a node that leaves the work `w` and posts to the line `ns` for its effect: what `FrameGives`
says. -/
theorem frameGives_of_posting {s : State} {c : Instr} {br : Branch} {node : Nat} {x : Node} {w : Work}
    {ns : List Notice} (hq : ({ s with work := w } : State).Quiet)
    (h : exec c s = .next (({ s with work := w } : State).posting
      (bothPosts (heardNews br node x) ++ ns.map fun n => ⟨.line, .drives, n⟩)).settle) :
    s.FrameGives c br node x w ns [] := by
  have hmap (k : Link) : (postsTo k (ns.map fun n => (⟨.line, .drives, n⟩ : Post))) =
      if k = .line then ns.map fun n => ⟨.line, .drives, n⟩ else [] := by
    cases k <;> simp [postsTo]
  refine ⟨fun hs => ?_, fun hs => ⟨_, h, ?_⟩⟩
  · have hnone : bothPosts (heardNews br node x) = [] := by simp [heardNews, heardNotices, hs, bothPosts]
    rw [h, hnone, List.nil_append, State.settle_posting_one (b := .drives) (c := .drives) hq] <;> rw [hmap]
    · simp [hmap, Function.comp_def]
    · simp
    · simp
  · have hnews : (heardNews br node x).map Prod.snd = heardNotices br node x := by
      simp [heardNews, Function.comp_def]
    have hposted := State.settle_posting hq
      (bothPosts (heardNews br node x) ++ ns.map fun n => (⟨.line, .drives, n⟩ : Post))
    have happend (k : Link) (ps qs : List Post) : postsTo k (ps ++ qs) = postsTo k ps ++ postsTo k qs :=
      List.filter_append ..
    rw [happend, happend, List.map_append, List.map_append, notices_bothPosts, notices_bothPosts, hnews, hmap,
      hmap] at hposted
    simpa [Function.comp_def] using hposted

/-- A frame that leaves a distribution to go on, or none. -/
theorem frameGives_open {s : State} {c : Instr} {br : Branch} {node : Nat} {x : Node} {w : Work}
    (h : exec c s = .next ({ s with work := w.posting (bothPosts (heardNews br node x)) } : State).settle)
    (hout : w.outbox = []) (ho : ∀ d, w.dist = some d → d.over = false) : s.FrameGives c br node x w [] [] := by
  refine frameGives_of_posting ⟨hout, ho⟩ ?_
  rw [h, List.map_nil, List.append_nil]
  rfl

/-- A frame that settles the last open row of a distribution. -/
theorem frameGives_over {s : State} {c : Instr} {br : Branch} {node : Nat} {x : Node} {w : Work} {d : Distribution}
    (h : exec c s = .next ({ s with work := w.posting (bothPosts (heardNews br node x)) } : State).settle)
    (hout : w.outbox = []) (hd : w.dist = some d) (ho : d.over = true) :
    s.FrameGives c br node x { w with dist := none } [.speedSet d.value d.cause d.acked d.failed] [] := by
  refine frameGives_of_posting ⟨hout, by simp⟩ ?_
  rw [h, State.settle_over (by exact hd) ho]
  simp [State.posting, Work.posting]

theorem exec_replyFrame {s : State} {br : Branch} {f : ReplyFields} (hs : (s.work.ring br).state ≠ .down)
    (hf : f.passes = true) :
    exec (.replyFrame br f) s = .next (s.mapWork (takeReply s.loop br f)).settle := by
  have harrives : (if hears s br then (replyArrives br f s).settle else s) =
      (s.mapWork (takeReply s.loop br f)).settle := by
    rw [if_pos (show hears s br = true from decide_eq_true hs), replyArrives, if_pos hf]
  exact congrArg Host.Outcome.next harrives

/-! ### The transaction ends -/

section
variable {w : Work} {br : Branch} {f : ReplyFields} {x : Node} {y : Txn} {n u : Nat}
  (hx : (w.ring br).node f.node = some x)
  (hy : (w.ring br).table.find? (fun z => z.tag == f.tag) = some y)

theorem find?_and {α : Type} {p q : α → Bool} {xs : List α} {a : α} (h : xs.find? p = some a) (hq : q a = true) :
    xs.find? (fun x => p x && q x) = some a := by
  induction xs with
  | nil => simp at h
  | cons x xs ih =>
    by_cases hp : p x = true
    · rw [List.find?_cons_of_pos hp] at h
      obtain rfl := Option.some.inj h
      exact List.find?_cons_of_pos (by simp [hp, hq])
    · rw [List.find?_cons_of_neg hp] at h
      rw [List.find?_cons_of_neg (by simp [hp])]
      exact ih h

/-- The branch once the transaction has ended and its node was heard. -/
def Ring.heardEnd (r : Ring) (tag node : Nat) (x : Node) : Ring := (r.dropTxn tag).setNode node x.heard

variable (hnode : y.node = f.node) (hjob : y.job = .setSpeed n u) (l : Loop)
include hx hy hnode hjob

omit hjob in
theorem takeReply_matched :
    let r := (w.ring br).setNode f.node x.heard
    let v := (w.setRing br r).posting (bothPosts (heardNews br f.node x))
    takeReply l br f w =
      if f.status = 2 && decide (y.attempts < 4) then
        arbitration l br (returned l y.job (v.setRing br ((r.dropTxn y.tag).join y.request)))
      else resolve l y.job (replyResolution f) (v.setRing br (r.dropTxn y.tag)) := by
  intro r v
  have hring : v.ring br = r := (Work.posting_ring ..).trans (Work.ring_setRing ..)
  have hmatch : r.matching f = some y := by
    rw [Ring.matching, (Ring.setNode_frame ..).1]
    exact find?_and hy (by simp [hnode])
  unfold takeReply
  rw [nodeHeard_eq hx]
  dsimp only
  rw [show ((w.setRing br r).posting (bothPosts (heardNews br f.node x))).ring br = r from hring, hmatch]

omit hx hnode hjob in
theorem txn_tag : y.tag = f.tag := by
  simpa using List.find?_some hy

/-- A REPLY that ends its transaction resolves its row (R152). -/
theorem takeReply_final (hf : f.status ≠ 2 ∨ 4 ≤ y.attempts) :
    takeReply l br f w =
      resolveSpeed l n (replyResolution f).isDone
        ((w.setRing br ((w.ring br).heardEnd f.tag f.node x)).posting (bothPosts (heardNews br f.node x))) := by
  have hfinal : ¬(f.status = 2 && decide (y.attempts < 4)) = true := by
    simp only [Bool.and_eq_true, decide_eq_true_eq]
    omega
  have hdrop : ((w.ring br).setNode f.node x.heard).dropTxn f.tag = (w.ring br).heardEnd f.tag f.node x :=
    (Ring.setNode_frame ..).2.2.2 _
  rw [takeReply_matched hx hy hnode l, if_neg hfinal, hjob, txn_tag hy, hdrop, Work.posting_setRing,
    Work.setRing_setRing]
  rfl

/-- A BUSY before the last attempt returns the request to the end of its queue (R152). -/
theorem takeReply_returned (hs : f.status = 2) (ha : y.attempts < 4) (hb : (w.ring br).downlink ≠ none)
    (hz : zoneFenced l w n = false) :
    takeReply l br f w =
      (w.setRing br { (w.ring br).heardEnd f.tag f.node x with
        driveq := (w.ring br).driveq ++ [⟨y.job, y.node, y.channel, y.attempts, true⟩] }).posting
        (bothPosts (heardNews br f.node x)) := by
  have hback : (f.status = 2 && decide (y.attempts < 4)) = true := by simp [hs, ha]
  obtain ⟨-, hdriveq, hdownlink, hdrop⟩ := Ring.setNode_frame (w.ring br) f.node x.heard
  let back : Ring := { (w.ring br).heardEnd f.tag f.node x with
    driveq := (w.ring br).driveq ++ [⟨y.job, y.node, y.channel, y.attempts, true⟩] }
  have hjoin : (((w.ring br).setNode f.node x.heard).dropTxn f.tag).join y.request = back := by
    have hdrive : y.request.job.requester = .drive := by rw [Txn.request, hjob]; rfl
    rw [Ring.join, hdrive]
    simp only [back, Ring.heardEnd]
    rw [← hdrop, ← hdriveq]
    rfl
  rw [takeReply_matched hx hy hnode l, if_pos hback, txn_tag hy, hjoin, Work.posting_setRing, Work.setRing_setRing]
  have hreturned (v : Work) (hv : v.points = w.points) : returned l y.job v = v := by
    rw [hjob]
    refine if_neg ?_
    rw [zoneFenced, Work.point, hv, ← Work.point, ← zoneFenced, hz]
    simp
  rw [hreturned, arbitration_busy]
  · have hkept : back.downlink = (w.ring br).downlink := by
      simp only [back, Ring.heardEnd]
      rw [← hdrop]
      exact hdownlink
    rw [Work.posting_ring, Work.ring_setRing, hkept]
    exact hb
  · exact Work.setRing_points ..

end

/-! ### The row is resolved (R134) -/

theorem replyResolution_isDone (f : ReplyFields) : (replyResolution f).isDone = decide (f.status = 1) := by
  unfold replyResolution
  split <;> simp_all [Resolution.isDone]

section
variable {w : Work} {d : Distribution} {tag v : Nat} {m : Bool} (l : Loop)

theorem resolveSpeed_none (h : w.dist = none) (acked : Bool) : resolveSpeed l tag acked w = w := by
  rw [resolveSpeed, h]

variable (hd : w.dist = some d) (hr : d.rows.find? (fun z => z.tag == tag) = some ⟨tag, .sent v m⟩)
include hd hr

theorem resolveSpeed_current (hv : v = d.value) (hm : m = false) (acked : Bool) :
    resolveSpeed l tag acked w = w.setRow tag (if acked then .acked v else .failed v) := by
  rw [resolveSpeed, hd, Work.row_of_dist hd, hr]
  exact if_pos (by simp [hv, hm])

theorem resolveSpeed_stale (h : v ≠ d.value ∨ m = true) (acked : Bool) :
    resolveSpeed l tag acked w = commandRow l (w.setRow tag .pending) tag := by
  rw [resolveSpeed, hd, Work.row_of_dist hd, hr]
  refine if_neg ?_
  rcases h with h | h <;> simp [h]

/-- The row as it is to be commanded. -/
theorem setRow_pending :
    (w.setRow tag .pending).dist = some { d with rows := rowsWith d.rows tag .pending } ∧
    (w.setRow tag .pending).row tag = some ⟨tag, .pending⟩ := by
  rw [Work.setRow_of_dist hd]
  exact ⟨rfl, (Work.row_of_dist rfl).trans (find?_rowsWith hr _)⟩

variable (h : v ≠ d.value ∨ m = true) {p : Point} (hp : w.point tag = some p) (acked : Bool)
include h hp

theorem resolveSpeed_fenced (hf : l.fenced p.config.zone = true) :
    resolveSpeed l tag acked w = w.setRow tag .withheld := by
  obtain ⟨hd', hr'⟩ := setRow_pending hd hr
  rw [resolveSpeed_stale l hd hr h, commandRow_fenced l hd' hr' hp hf, Work.setRow_setRow]

variable (hf : l.fenced p.config.zone = false)
include hf

theorem resolveSpeed_failed (hroute : p.route = none) :
    resolveSpeed l tag acked w = w.setRow tag (.failed d.value) := by
  obtain ⟨hd', hr'⟩ := setRow_pending hd hr
  rw [resolveSpeed_stale l hd hr h, commandRow_failed l hd' hr' hp hf (by simp [hroute]),
    Work.setRow_setRow]

theorem resolveSpeed_joins {a : Route} (ha : p.route = some a) (hrun : (w.ring a.branch).state = .running)
    (hn : (w.ring a.branch).nodeState a.node ≠ .silent) (hb : (w.ring a.branch).downlink ≠ none) :
    resolveSpeed l tag acked w = (w.setRow tag (.sent d.value false)).orders tag d.value a := by
  obtain ⟨hd', hr'⟩ := setRow_pending hd hr
  rw [resolveSpeed_stale l hd hr h, commandRow_joins l hd' hr' hp hf ha
    (by simpa using hrun) (by simpa using hn) (by simpa using hb), Work.setRow_setRow]

end

/-- The deadline of a SET_SPEED on the distribution's value: the row fails, and the node's count rises (R134, R153). -/
theorem expireTxn_speed (l : Loop) {w : Work} {br : Branch} {x : Node} {y : Txn} {tag n u v : Nat} {d : Distribution}
    (hx : (w.ring br).node y.node = some x) (hy : (w.ring br).table.find? (fun z => z.tag == tag) = some y)
    (hjob : y.job = .setSpeed n u) (ht : x.timeouts < 2) (hd : w.dist = some d)
    (hr : d.rows.find? (fun z => z.tag == n) = some ⟨n, .sent v false⟩) (hv : v = d.value) :
    expireTxn l br tag w =
      (w.setRow n (.failed v)).setRing br
        (((w.ring br).dropTxn tag).setNode y.node { x with timeouts := x.timeouts + 1 }) := by
  have hresolve : resolve l y.job .timeout (w.setRing br ((w.ring br).dropTxn tag)) =
      (w.setRing br ((w.ring br).dropTxn tag)).setRow n (.failed v) := by
    rw [hjob]
    exact resolveSpeed_current l ((Work.setRing_dist ..).trans hd) hr hv rfl false
  have hring : ((w.setRing br ((w.ring br).dropTxn tag)).setRow n (.failed v)).ring br = (w.ring br).dropTxn tag := by
    rw [Work.setRow_ring, Work.ring_setRing]
  have hnode : ((w.ring br).dropTxn tag).node y.node = some x := hx
  unfold expireTxn
  rw [hy]
  dsimp only
  rw [hresolve, countTimeout, hring, hnode]
  refine (if_pos (by omega)).trans ?_
  cases br <;> rfl

/-! ### The end of a distribution, by its rows (R137) -/

theorem over_iff (d : Distribution) :
    d.over = true ↔
      ∀ r ∈ d.rows, r.state = .withheld ∨ r.state = .acked d.value ∨ r.state = .failed d.value := by
  rw [Distribution.over, List.all_eq_true]
  refine forall₂_congr fun r _ => ?_
  cases r.state <;> simp [RowState.isWithheld, RowState.satisfied]

/-- Once it is over, the rows ACKED and FAILED are so on its value. -/
theorem counts_of_over {d : Distribution} (h : d.over = true) :
    d.acked = (d.rows.filter fun r => decide (r.state = .acked d.value)).length ∧
    d.failed = (d.rows.filter fun r => decide (r.state = .failed d.value)).length := by
  have hrow := (over_iff d).1 h
  refine ⟨congrArg List.length (List.filter_congr fun r hr => ?_),
    congrArg List.length (List.filter_congr fun r hr => ?_)⟩ <;>
  · rcases hrow r hr with h | h | h <;> simp [h, RowState.isAcked, RowState.isFailed]

end Sys2Proof.Machine
end

section
open Sys2Proof Sys2Proof.Machine

/-- Settles O50: SET_LOOP_SPEED commands the rows of its distribution, of which one is to be commanded here; the end
of a SET_SPEED resolves its row, and the distribution ends with its last open row. -/
theorem loopSpeedIsSet : Obligations.LoopSpeedIsSet := by
  unfold Obligations.LoopSpeedIsSet
  refine ⟨fun s rtag speed ht hr hg => ?_, ?_, ?_⟩
  · have hnone : setLoopSpeed speed s = refuse s .noGeometry := by simp [setLoopSpeed, Loop.geometry, hg]
    exact congrArg _ (serve_answers ht hr _ _ hnone)
  · intro s rtag speed g ht hr hg v fenced drives now answer orders heeds
    let l : Loop := { s.loop with tracker := { s.loop.tracker with setpoint := v } }
    have does {w : Work} {n : Nat} (hw : distribute l v s.work = w) (hn : covered s.loop s.work = n) :
        exec (.setLoopSpeed rtag speed) s = .next (answer w n).settle := by
      have hset : setLoopSpeed speed s = ⟨now w, .accepted, [.u16 v, .u16 n]⟩ := by
        rw [← hw, ← hn]
        unfold setLoopSpeed
        rw [show s.loop.geometry = some g from hg]
        rfl
      refine congrArg Host.Outcome.next ((serve_takes ht hr _ _).trans ?_)
      rw [hset]
    have stays {w : Work} {n : Nat} (hw : distribute l v s.work = w) (hn : covered s.loop s.work = n)
        (hout : w.outbox = s.work.outbox) (ho : ∀ d, w.dist = some d → d.over = false) :
        exec (.setLoopSpeed rtag speed) s = .next (answer w n) := by
      have hq : (answer w n).Quiet := ⟨hout.trans ht.1.1, ho⟩
      rw [does hw hn, hq.settle]
    have ends {w : Work} {n : Nat} {d : Distribution} (hw : distribute l v s.work = w)
        (hn : covered s.loop s.work = n) (hout : w.outbox = s.work.outbox) (hd : w.dist = some d) (ho : d.over = true) :
        exec (.setLoopSpeed rtag speed) s = .next ((answer { w with dist := none } n).notified .line
          [.speedSet d.value d.cause d.acked d.failed]) := by
      rw [does hw hn, State.settle_ended (s := answer w n) (hout.trans ht.1.1) hd ho]
      rfl
    have hnew {ps : List Point} (h : drives = ps) : newRows l s.work = ps.map fun p => ⟨p.tag, .pending⟩ :=
      congrArg (List.map _) h
    have hcovered {rows : List Row} (hd : s.work.dist = none) (h : newRows l s.work = rows) :
        covered s.loop s.work = rows.length := by
      rw [covered, hd]
      exact congrArg List.length h
    refine ⟨fun d hd hv => stays (distribute_same l hd hv) (by rw [covered, hd]) rfl ht.1.2, fun hd hdrives => ?_,
      fun p a hd hdrives hp ha hheeds hb => ?_, ?_, ?_⟩
    · have hdist : distribute l v s.work = { s.work with dist := some ⟨v, .request, []⟩ } :=
        distribute_begins l v hd (hnew hdrives)
      rw [ends hdist (hcovered hd (hnew hdrives)) rfl rfl rfl]
      dsimp only
      rw [← hd]
      rfl
    · obtain ⟨hrun, hn⟩ := hheeds
      have hmem : p ∈ drives := hdrives ▸ List.mem_singleton_self p
      have hf : fenced p = false := by simpa using (Bool.and_eq_true_iff.1 (List.mem_filter.1 hmem).2).2
      refine stays (distribute_one l v hd (hnew hdrives) hp hf ha hrun hn hb) (hcovered hd (hnew hdrives))
        (Work.orders_outbox ..) fun d' hd' => ?_
      obtain rfl := Option.some.inj ((Work.orders_dist ..).symm.trans hd')
      exact over_of_sent List.mem_cons_self rfl
    · refine ⟨_, covered s.loop s.work, does rfl rfl, State.settle_loop _, ?_⟩
      exact answers_settle _ .line
    · intro d p x rest hd hv hrows hne hst hp hq waits left again
      have hwaits : s.work.speedWaits p.tag = true ↔ waits := Work.speedWaits_iff ..
      have hn : covered s.loop s.work = rest.length + 1 := by rw [covered, hd]; exact congrArg List.length hrows
      have hpending (h : again) : x.supersede (s.work.speedWaits p.tag) = .pending := by
        rcases h with ⟨u, h⟩ | ⟨u, h⟩ | ⟨u, m, h, hw⟩
        · rw [h]; rfl
        · rw [h]; rfl
        · rw [h, hwaits.2 hw]; rfl
      refine ⟨fun u m hx hw => ?_, fun a h hf ha hheeds hb => ?_, ?_⟩
      · have hdist := distribute_sent (l := l) hd hv hrows hne hst hq hx (Bool.eq_false_iff.2 (mt hwaits.1 hw))
        refine stays hdist hn rfl fun d' hd' => ?_
        obtain rfl := Option.some.inj hd'
        exact over_of_sent (hrows ▸ List.mem_cons_self) hx
      · have hdist := distribute_joins (l := l) hd hv hrows hne hst hp hq (hpending h) hf ha hheeds.1 hheeds.2 hb
        refine stays hdist hn (Work.orders_outbox ..) fun d' hd' => ?_
        obtain rfl := Option.some.inj ((Work.orders_dist ..).symm.trans hd')
        exact over_of_sent List.mem_cons_self rfl
      · intro becomes
        have becoming {z : RowState} {k : Nat} (hz : distribute l v s.work = left (some z))
            (hover : (z.isWithheld || z.satisfied v) = true) (hacked : z.isAcked = false)
            (hfailed : (if z.isFailed then 1 else 0) = k) : becomes z k := by
          refine ⟨fun ⟨y, hy, hw⟩ => stays hz hn rfl fun d' hd' => ?_, fun hw => ?_⟩
          · obtain rfl := Option.some.inj hd'
            obtain ⟨u, m, hs⟩ := (hst y hy).resolve_left hw
            exact over_of_sent (List.mem_cons_of_mem _ hy) hs
          · obtain ⟨ho, ha, hf⟩ := head_decides hw v p.tag .request z
            rw [ends hz hn rfl rfl (ho.trans hover), ha, hf, hacked, hfailed]
            rfl
        refine ⟨fun h hf hroute => becoming ?_ (by simp [RowState.satisfied]) rfl rfl,
          fun h hf => becoming ?_ rfl rfl rfl⟩
        · exact distribute_failed hd hv hrows hne hst hp hq (hpending h) hf fun a ha =>
            (not_and_or.1 (hroute a ha)).imp id not_not.1
        · exact distribute_fenced hd hv hrows hne hst hp hq (hpending h) hf
  · intro s br tag node status value loadGone x y n u r hq hnode1 hnode2 hstatus1 hstatus2 hdown hx hy hnode hjob reply
      ended heard late final gives expires
    let f : ReplyFields := ⟨tag, node, status, value, loadGone⟩
    let ps : List Post := bothPosts (heardNews br node x)
    have hended : r.dropTxn tag = ended := Ring.dropTxn_eq ..
    have hheard : r.heardEnd tag node x = heard := by rw [Ring.heardEnd, hended]
    have hexec {w : Work} (ht : takeReply s.loop br f s.work = w.posting ps) :
        exec reply s = .next ({ s with work := w.posting ps } : State).settle := by
      have hpasses : f.passes = true := by
        simp [ReplyFields.passes, within, f, hnode1, hnode2, hstatus1, hstatus2]
      exact ht ▸ exec_replyFrame hdown hpasses
    have hresolved (hfinal : final) : takeReply s.loop br f s.work =
        resolveSpeed s.loop n (replyResolution f).isDone ((s.work.setRing br heard).posting ps) := by
      rw [← hheard]
      exact takeReply_final (f := f) hx hy hnode hjob s.loop hfinal
    have hout (w : Work) (q : Ring) (h : w.outbox = s.work.outbox) : (w.setRing br q).outbox = [] :=
      (Work.setRing_outbox ..).trans (h.trans hq.1)
    have hdist (w : Work) (q : Ring) (qs : List Post) : ((w.setRing br q).posting qs).dist = w.dist :=
      Work.setRing_dist ..
    have kept {q : Ring} (ht : takeReply s.loop br f s.work = (s.work.setRing br q).posting ps) :
        gives (s.work.setRing br q) [] :=
      frameGives_open (hexec ht) (hout _ q rfl) fun d' hd' => hq.2 d' ((Work.setRing_dist ..).symm.trans hd')
    refine ⟨fun hd hfinal => kept ?_, ?_⟩
    · rw [hresolved hfinal]
      exact resolveSpeed_none s.loop ((hdist ..).trans hd) _
    intro d p v m hd hp hrow hpoint fenced put becomes
    let rowed (z : RowState) : Work := { s.work with dist := some { d with rows := put z } }
    have hset (q : Ring) (qs : List Post) (z : RowState) :
        ((s.work.setRing br q).posting qs).setRow n z = ((rowed z).setRing br q).posting qs := by
      rw [Work.setRow_of_dist ((hdist ..).trans hd)]
      cases br <;> rfl
    have hover (z : RowState) : Distribution.over { d with rows := put z } = true ↔
        ∀ w ∈ put z, w.state = .withheld ∨ w.state = .acked d.value ∨ w.state = .failed d.value := over_iff _
    have hopen {q : Ring} {z : RowState} (hs : ¬ Distribution.over { d with rows := put z } = true) :
        ∀ d', ((rowed z).setRing br q).dist = some d' → d'.over = false := fun d' hd' => by
      obtain rfl := Option.some.inj ((hdist (rowed z) q []).symm.trans hd')
      exact Bool.eq_false_iff.2 hs
    have hgone (q : Ring) (z : RowState) :
        ({ (rowed z).setRing br q with dist := none } : Work) = Work.setRing { s.work with dist := none } br q := by
      cases br <;> rfl
    have becoming {z : RowState} (ht : takeReply s.loop br f s.work = ((rowed z).setRing br heard).posting ps) :
        becomes gives heard z := by
      refine ⟨fun hs => frameGives_open (hexec ht) (hout _ _ rfl) (hopen (mt (hover z).1 hs)), fun hs => ?_⟩
      have ho := (hover z).2 hs
      have hgives := frameGives_over (hexec ht) (hout _ _ rfl) (hdist (rowed z) heard []) ho
      rwa [hgone, (counts_of_over ho).1, (counts_of_over ho).2] at hgives
    have dying {z : RowState} (ht : expireTxn s.loop br tag s.work = (rowed z).setRing br late) :
        becomes expires late z := by
      have hexpires : exec (.replyDeadlineExpiry br tag) s =
          .next ({ s with work := (rowed z).setRing br late } : State).settle := ht ▸ rfl
      refine ⟨fun hs => hexpires.trans (congrArg _ ?_), fun hs => hexpires.trans (congrArg _ ?_)⟩
      · have hquiet : ({ s with work := (rowed z).setRing br late } : State).Quiet :=
          ⟨hout _ _ rfl, hopen (mt (hover z).1 hs)⟩
        exact hquiet.settle.trans (State.notified_nil _ _).symm
      · have ho := (hover z).2 hs
        rw [State.settle_ended (hout (rowed z) late rfl) (hdist (rowed z) late []) ho, (counts_of_over ho).1,
          (counts_of_over ho).2]
        dsimp only
        rw [hgone]
    have hdone : (replyResolution f).isDone = decide (status = 1) := replyResolution_isDone f
    have hpt : ((s.work.setRing br heard).posting ps).point n = some p := by
      rw [Work.point, show ((s.work.setRing br heard).posting ps).points = s.work.points from Work.setRing_points ..]
      exact hpoint
    have hd' : ((s.work.setRing br heard).posting ps).dist = some d := (hdist ..).trans hd
    refine ⟨fun hv hm => ⟨fun hs => becoming ?_, fun hs hfinal => becoming ?_, fun ht => dying ?_⟩,
      fun hstale hfinal => ⟨fun hf => becoming ?_, fun hf hroute => becoming ?_, ?_⟩,
      fun hs ha hb hf => kept ?_⟩
    · rw [hresolved (.inl (by omega)), resolveSpeed_current s.loop hd' hrow hv hm, hset, hdone, decide_eq_true hs]
      rfl
    · rw [hresolved hfinal, resolveSpeed_current s.loop hd' hrow hv hm, hset, hdone, decide_eq_false hs]
      rfl
    · subst hm
      rw [expireTxn_speed s.loop (hnode ▸ hx) hy hjob ht hd hrow hv, hnode, Work.setRow_of_dist hd]
      simp only [late, ← hended]
      rfl
    · rw [hresolved hfinal, resolveSpeed_fenced s.loop hd' hrow hstale hpt _ hf, hset]
    · rw [hresolved hfinal, resolveSpeed_failed s.loop hd' hrow hstale hpt _ hf hroute, hset]
    · intro a hf ha w q hrun hn hb joined
      have hring : ((s.work.setRing br heard).posting ps).ring a.branch = q := by
        rw [← Work.setRow_ring _ n (.sent d.value false), hset, Work.posting_ring]
      have hjoins := resolveSpeed_joins s.loop hd' hrow hstale hpt (replyResolution f).isDone hf ha (hring ▸ hrun)
        (hring ▸ hn) (hring ▸ hb)
      rw [hset, Work.orders_posting] at hjoins
      refine frameGives_open (hexec ((hresolved hfinal).trans hjoins)) ?_ fun d' hd' => ?_
      · exact (Work.orders_outbox ..).trans (hout _ _ rfl)
      · have hsent : w.dist = some d' := (Work.orders_dist ..).symm.trans hd'
        obtain rfl := Option.some.inj ((hdist (rowed _) heard []).symm.trans hsent)
        exact over_of_sent (List.mem_of_find?_eq_some (find?_rowsWith hrow _)) rfl
    · have hzone : zoneFenced s.loop s.work n = false := by
        rw [zoneFenced, hpoint]
        exact hf
      have hback := takeReply_returned (f := f) hx hy hnode hjob s.loop hs ha hb hzone
      rw [show Ring.heardEnd (s.work.ring br) f.tag f.node x = heard from hheard] at hback
      exact hback
end

section
/-! ## Position arithmetic (Chapter 2) -/

namespace Sys2Proof.Machine

/-! ### The signed loop difference (R21, R22) -/

/-- The forward distance between two positions on the loop (R21). -/
theorem forward_of_lt {L a b : Nat} (ha : a < L) (hb : b < L) :
    forward L b a = if b ≤ a then a - b else a + L - b := by
  unfold forward modL
  split
  · rw [Int.emod_eq_of_lt] <;> omega
  · rw [← Int.add_emod_right, Int.emod_eq_of_lt] <;> omega

/-- The signed loop difference takes the shorter way round, and the forward one at half a loop (R22). -/
theorem signedDiff_of_lt {L a b : Nat} (ha : a < L) (hb : b < L) :
    signedDiff L a b =
      if b ≤ a then (if a - b ≤ L / 2 then (a : Int) - b else a - b - L)
      else (if a + L - b ≤ L / 2 then (a : Int) - b + L else a - b) := by
  unfold signedDiff
  rw [forward_of_lt ha hb]
  dsimp only
  split_ifs <;> omega

/-! ### Attribution (R29) -/

/-- A position less its half pitch lies in exactly one pitch. -/
theorem pitch_unique {P k j : Nat} {d e : Int} (hd : -(P / 2 : Nat) ≤ d) (hd' : d ≤ (P : Int) - 1 - (P / 2 : Nat))
    (he : -(P / 2 : Nat) ≤ e) (he' : e ≤ (P : Int) - 1 - (P / 2 : Nat)) (h : (j : Int) * P + e = k * P + d) :
    j = k ∧ e = d := by
  have hP : (0 : Int) < P := by omega
  have quotient {n : Nat} {z : Int} (hz : -(P / 2 : Nat) ≤ z) (hz' : z ≤ (P : Int) - 1 - (P / 2 : Nat)) :
      ((n : Int) * P + z + (P / 2 : Nat)) / P = n := by
    rw [add_assoc, add_comm, Int.add_mul_ediv_right _ _ hP.ne', Int.ediv_eq_zero_of_lt] <;> omega
  have hjk : (j : Int) = k := by rw [← quotient (n := j) he he', h, quotient hd hd']
  refine ⟨by exact_mod_cast hjk, ?_⟩
  rw [hjk] at h
  omega

/-- Two sums that differ by whole loops, both within the loop of the half pitch before it, are equal. -/
theorem within_loop_unique {g : Geometry} (hN : g.carriers * g.pitch = g.length) {k j : Nat} {d e : Int}
    (hk : k < g.carriers) (hj : j < g.carriers) (hd : -(g.pitch / 2 : Nat) ≤ d)
    (hd' : d ≤ (g.pitch : Int) - 1 - (g.pitch / 2 : Nat)) (he : -(g.pitch / 2 : Nat) ≤ e)
    (he' : e ≤ (g.pitch : Int) - 1 - (g.pitch / 2 : Nat))
    (h : ((j : Int) * g.pitch + e - (k * g.pitch + d)) % g.length = 0) :
    (j : Int) * g.pitch + e = k * g.pitch + d := by
  have top {n : Nat} (hn : n < g.carriers) : (n : Int) * g.pitch + g.pitch ≤ g.length := by
    have := Nat.mul_le_mul_right g.pitch (Nat.succ_le_of_lt hn)
    rw [hN, Nat.succ_mul] at this
    exact_mod_cast this
  have bottom (n : Nat) : (0 : Int) ≤ (n : Int) * g.pitch := by positivity
  have := top hk
  have := top hj
  have := bottom k
  have := bottom j
  obtain ⟨m, hm⟩ := Int.dvd_of_emod_eq_zero h
  generalize (j : Int) * g.pitch = y at *
  generalize (k : Int) * g.pitch = x at *
  have hlt : |(g.length : Int) * m| < g.length := by rw [← hm, abs_lt]; omega
  have hm0 : m = 0 := by
    by_contra hne
    have h1 : 1 ≤ |m| := Int.one_le_abs hne
    rw [abs_mul, Nat.abs_cast] at hlt
    nlinarith [Int.natCast_nonneg g.length]
  rw [hm0] at hm
  omega

/-- The deviation of an attribution lies within half a pitch of a carrier's place (R29). -/
theorem attribution_dev {P r : Nat} (hP : 0 < P) :
    -(P / 2 : Nat) ≤ (r : Int) - ((r + P / 2) / P : Nat) * P ∧
      (r : Int) - ((r + P / 2) / P : Nat) * P ≤ (P : Int) - 1 - (P / 2 : Nat) := by
  have hmod := Nat.mod_lt (r + P / 2) hP
  have hdiv := Nat.div_add_mod (r + P / 2) P
  rw [mul_comm] at hdiv
  have hcast : (((r + P / 2) / P : Nat) : Int) * P = (((r + P / 2) / P * P : Nat) : Int) := by push_cast; rfl
  rw [hcast]
  generalize (r + P / 2) / P * P = z at *
  omega

/-- The place of the attributed carrier and the deviation give back the corrected position (R29). -/
theorem attribution_place {g : Geometry} (hN : g.carriers * g.pitch = g.length) (hpos : 0 < g.length) (z : Int)
    (m : Nat) :
    ((m % g.carriers : Nat) * (g.pitch : Int) + ((modL g.length z : Int) - m * g.pitch) - z) % g.length = 0 := by
  have hr : (modL g.length z : Int) = z - g.length * (z / g.length) := by
    rw [modL, Int.toNat_of_nonneg (Int.emod_nonneg _ (by omega)), Int.emod_def]
  have hm : (m : Int) = g.carriers * (m / g.carriers : Nat) + (m % g.carriers : Nat) := by
    exact_mod_cast (Nat.div_add_mod m g.carriers).symm
  have hL : (g.length : Int) = g.carriers * g.pitch := by exact_mod_cast hN.symm
  refine Int.emod_eq_zero_of_dvd ⟨-(z / g.length) - (m / g.carriers : Nat), ?_⟩
  rw [hr]
  generalize z / (g.length : Int) = q
  rw [hL]
  generalize (m % g.carriers : Nat) = b at *
  generalize (m / g.carriers : Nat) = a at *
  rw [hm]
  ring

/-! ### The statistics of hits (R34, R35) -/

theorem Stats.foldl_count (ds : List Int) (s : Stats) :
    (ds.foldl Stats.add s).count = s.count + ds.length ∧ (ds.foldl Stats.add s).sum = s.sum + ds.sum := by
  induction ds generalizing s with
  | nil => simp
  | cons d ds ih =>
    obtain ⟨hcount, hsum⟩ := ih (s.add d)
    rw [List.foldl_cons, hcount, hsum, List.length_cons, List.sum_cons]
    exact ⟨Nat.succ_add_eq_add_succ .., Int.add_assoc ..⟩

/-- Once a hit is there, each further one keeps the smaller and the larger. -/
theorem Stats.foldl_bounds (ds : List Int) {s : Stats} {a b : Int} (ha : s.least = some a) (hb : s.most = some b) :
    (ds.foldl Stats.add s).least = some (ds.foldl min a) ∧ (ds.foldl Stats.add s).most = some (ds.foldl max b) := by
  induction ds generalizing s a b with
  | nil => exact ⟨ha, hb⟩
  | cons d ds ih =>
    refine ih ?_ ?_
    · simp only [Stats.add, ha]
      split <;> congr 1 <;> omega
    · simp only [Stats.add, hb]
      split <;> congr 1 <;> omega

/-- The smallest and the largest deviation of a run of hits (R34). -/
theorem Stats.foldl_least_most (ds : List Int) :
    (ds.foldl Stats.add Stats.empty).least = ds.min? ∧ (ds.foldl Stats.add Stats.empty).most = ds.max? := by
  cases ds with
  | nil => exact ⟨rfl, rfl⟩
  | cons d ds =>
    rw [List.min?_cons', List.max?_cons']
    exact Stats.foldl_bounds ds (s := Stats.empty.add d) rfl rfl

theorem min?_le_max? {ds : List Int} {a b : Int} (ha : ds.min? = some a) (hb : ds.max? = some b) : a ≤ b :=
  (List.max?_eq_some_iff.1 hb).2 a (List.min?_eq_some_iff.1 ha).1

/-! ### Counting for a trial (R117) -/

section
variable (l : Loop) {w : Work} {t : Trial} (h : w.trial t.id = some t)
include h

theorem count_hit (ha : t.state = .active) {d : Int} (hn : t.streak + 1 < t.need) :
    count l t.id (.hit d) w = w.setTrial { t with streak := t.streak + 1, stats := t.stats.add d } := by
  simp [count, h, Trial.isActive, ha, countHit, Nat.not_le.2 hn]

theorem count_fail (ha : t.state = .active) (hn : t.fails + 1 < t.limit) :
    count l t.id .fail w = w.setTrial { t with fails := t.fails + 1, streak := 0 } := by
  simp [count, h, Trial.isActive, ha, countFail, Nat.not_le.2 hn]

/-- A result for a trial that is not ACTIVE is not counted. -/
theorem count_inactive (ha : t.state ≠ .active) (x : Evidence) : count l t.id x w = w := by
  simp [count, h, Trial.isActive, ha]

end

end Sys2Proof.Machine

open Sys2Proof Sys2Proof.Machine

/-- Settles O25: each clause is linear arithmetic on the four forms of the difference. -/
theorem signedLoopDifference : Obligations.SignedLoopDifference := by
  unfold Obligations.SignedLoopDifference
  intro L a b ha hb
  rw [signedDiff_of_lt ha hb, signedDiff_of_lt hb ha]
  refine ⟨?_, ?_, ?_, ?_, ?_⟩
  · split_ifs
    · exact ⟨0, by omega⟩
    · exact ⟨-1, by omega⟩
    · exact ⟨1, by omega⟩
    · exact ⟨0, by omega⟩
  all_goals split_ifs <;> omega

/-- Settles O26: the corrected position, half a pitch on, lies in one pitch of the loop. -/
theorem attributionIsUnique : Obligations.AttributionIsUnique := by
  unfold Obligations.AttributionIsUnique
  intro g loc xc bias hlaw _
  obtain ⟨⟨hlen, -⟩, ⟨hcarriers, -⟩, ⟨hpitch, -⟩, -, -, -, -, -, -, -, -, -, hN⟩ := hlaw
  let r := modL g.length ((xc : Int) - loc - bias)
  let m := (r + g.pitch / 2) / g.pitch
  obtain ⟨hlow, hhigh⟩ := attribution_dev (P := g.pitch) (r := r) (by omega)
  have hk : m % g.carriers < g.carriers := Nat.mod_lt _ (by omega)
  have hplace := attribution_place hN (by omega) ((xc : Int) - loc - bias) m
  have regroup (y : Int) : (loc : Int) + bias + y - xc = y - ((xc : Int) - loc - bias) := by omega
  refine ⟨m % g.carriers, (r : Int) - m * g.pitch, rfl, hk, hlow, hhigh, ?_, fun j e hj he he' h => ?_⟩
  · rwa [add_assoc, regroup]
  · rw [add_assoc, regroup] at h
    refine pitch_unique hlow hhigh he he' (within_loop_unique hN hk hj hlow hhigh he he' ?_)
    rw [← sub_sub_sub_cancel_right _ _ ((xc : Int) - loc - bias), Int.sub_emod, h, hplace]
    rfl

/-- Settles O28: the statistics are folds over the deviations, and below its limits a count changes the trial alone. -/
theorem hitsAreCounted : Obligations.HitsAreCounted := by
  unfold Obligations.HitsAreCounted
  refine ⟨fun ds => ?_, fun l w t h ha => ⟨fun d hn => count_hit l h ha hn, count_fail l h ha⟩,
    fun l w t x h ha => count_inactive l h ha x⟩
  intro st
  obtain ⟨hcount, hsum⟩ := Stats.foldl_count ds Stats.empty
  obtain ⟨hleast, hmost⟩ := Stats.foldl_least_most ds
  replace hcount : st.count = ds.length := hcount.trans (Nat.zero_add _)
  replace hsum : st.sum = ds.sum := hsum.trans (Int.zero_add _)
  refine ⟨hcount, hsum, hleast, hmost, ?_, ?_, fun a b ha hb => ?_⟩
  · simp [Stats.mean, hcount, hsum]
  · rintro rfl
    rfl
  · have hle := min?_le_max? ha hb
    simp only [Stats.spread, st, hleast, hmost, ha, hb]
    omega
end

section
/-! ## DISCHARGE (R85) -/

namespace Sys2Proof.Machine

/-- The carrier is LOADED for the master (R85 step 5). -/
theorem Work.loadedFor_iff (w : Work) (n : Nat) (m : Link) :
    w.loadedFor n m = true ↔ ∃ c ref dest, w.carriers[n]? = some c ∧ c.load = .loaded m ref dest := by
  unfold Work.loadedFor Work.carrier
  cases w.carriers[n]? with
  | none => simp
  | some c => cases hl : c.load <;> simp [Carrier.loadedFor, hl]

theorem Work.entryOf_isSome (w : Work) (n : Nat) : (w.entryOf n).isSome = true ↔ ∃ e ∈ w.fires, e.carrier = n := by
  simp [Work.entryOf]

theorem chuteOpen_iff (m : Link) (p : Point) :
    chuteOpen m p = true ↔ p.custody = m ∧ (m = .line → p.service = .inService) := by
  cases m <;> simp [chuteOpen]

/-- A full list takes no entry (R84). -/
theorem addEntry_full (l : Loop) (k : Nat) (chute : Option Nat) (origin : Origin) (owner : Link) (trial : Option Nat)
    {w : Work} (h : 256 ≤ w.fires.length) : addEntry l k chute origin owner trial w = none := by
  unfold addEntry
  cases l.geometry <;> simp [Nat.not_lt.2 h]

theorem Work.setLoad_of_carrier {w : Work} {k : Nat} {c : Carrier} (hc : w.carriers[k]? = some c) (x : LoadState) :
    w.setLoad k x = { w with carriers := w.carriers.set k { c with load := x } } := by
  simp [Work.setLoad, List.modify_eq_set_getElem?, hc]

theorem Work.setDest_of_loaded {w : Work} {k : Nat} {c : Carrier} {owner : Link} {ref : BitVec 32} {dest : Option Nat}
    (hc : w.carriers[k]? = some c) (hl : c.load = .loaded owner ref dest) (chute : Nat) :
    w.setDest k chute = { w with carriers := w.carriers.set k { c with load := .loaded owner ref (some chute) } } := by
  simp only [Work.setDest, Work.carrier, hc, hl]
  exact Work.setLoad_of_carrier hc _

/-- With room, an entry for a LOADED carrier without one joins at the end, and its chute is the carrier's destination
(R85). -/
theorem addEntry_joins {l : Loop} {g : Geometry} (hg : l.geometry = some g) {w : Work} (hroom : w.fires.length < 256)
    {k : Nat} (hk : ∀ e ∈ w.fires, e.carrier ≠ k) {c : Carrier} {owner : Link} {ref : BitVec 32} {dest : Option Nat}
    (hc : w.carriers[k]? = some c) (hl : c.load = .loaded owner ref dest) (chute : Nat) (origin : Origin) (m : Link)
    (trial : Option Nat) :
    addEntry l k (some chute) origin m trial w = some { w with
      fires := w.fires ++ [newEntry l w g k (some chute) origin m trial], fireCount := w.fireCount + 1
      carriers := w.carriers.set k { c with load := .loaded owner ref (some chute) } } := by
  have hnone : w.entryOf k = none := List.find?_eq_none.2 fun e he => by simpa using hk e he
  simp only [addEntry, hg, hnone, Option.isNone_none, Bool.and_true, decide_eq_true hroom, if_true]
  exact congrArg some (Work.setDest_of_loaded
    (w := { w with fires := w.fires ++ [newEntry l w g k (some chute) origin m trial], fireCount := w.fireCount + 1 })
    hc hl chute)

/-- The entry of a discharge, for a carrier LOADED with its ref and a chute of the register (R31, R32, R84, R94). -/
theorem newEntry_discharge (l : Loop) {w : Work} (g : Geometry) {n chute : Nat} {p : Point} {c : Carrier} {k : Link}
    {ref : BitVec 32} {dest : Option Nat} (hp : w.point chute = some p) (hc : w.carriers[n]? = some c)
    (hl : c.load = .loaded k ref dest) (origin : Origin) :
    let nominal := (p.config.loc + n * g.pitch) % g.length
    let lead := (l.tracker.v * (p.config.throw.getD 0 + g.latency) + 500) / 1000
    newEntry l w g n (some chute) origin k none =
      { seq := w.fireCount, carrier := n, chute := some chute, origin := origin, owner := k, trial := none
        nominal := nominal, firePoint := (((nominal : Int) - lead) % g.length).toNat, misses := 0, state := .waiting
        requested := false, lastPassed := none, ref := ref, orphan := false } := by
  have hnominal : nominalPos g p.config.loc n = (p.config.loc + n * g.pitch) % g.length := by
    rw [nominalPos, ← modL_natCast]
    push_cast
    rfl
  simp only [newEntry, Work.placeOf, Work.throwOf, hp, Work.refOf, Work.carrier, hc, hl, hnominal]
  rfl

end Sys2Proof.Machine

open Sys2Proof Sys2Proof.Machine

/-- Settles O42: the checks of R85 are tests in one order, and past them `addEntry` joins the entry. -/
theorem dischargeJoins : Obligations.DischargeJoins := by
  unfold Obligations.DischargeJoins
  refine ⟨?_, ?_⟩
  · intro m s rtag n chute ht hr answers
    have refused {x : Status} (h : discharge m n chute s = refuse s x) : answers x :=
      congrArg Host.Outcome.next (serve_answers ht hr (.discharge n chute) (discharge m n chute) h)
    refine ⟨fun hg => refused ?_, fun g hg => ?_⟩
    · have hgeo : s.loop.geometry = none := hg
      simp [discharge, hgeo]
    have hgeo : s.loop.geometry = some g := hg
    refine ⟨fun hn => refused ?_, fun hn hp => refused ?_, ?_⟩
    · simp [discharge, hgeo, carrierOk, Nat.not_lt.2 hn]
    · simp [discharge, hgeo, carrierOk, hn, hp]
    · intro p hn hp mine listed taken
      have hmine : s.work.loadedFor n m = true ↔ mine := s.work.loadedFor_iff n m
      have hlisted : (s.work.entryOf n).isSome = true ↔ listed := s.work.entryOf_isSome n
      have htaken : chuteOpen m p = true ↔ taken := chuteOpen_iff m p
      refine ⟨fun hk => refused ?_, fun hk hm => refused ?_, fun hk hm hl => refused ?_,
        fun hk hm hl ht => refused ?_, fun hk hm hl ht hfull => refused ?_⟩ <;>
        simp only [discharge, hgeo, carrierOk, hn, hp]
      · simp [hk]
      · simp [hk, mt hmine.1 hm]
      · simp [hk, hmine.2 hm, hlisted.2 hl]
      · simp [hk, hmine.2 hm, mt hlisted.1 hl, mt htaken.1 ht]
      · simp [hk, hmine.2 hm, mt hlisted.1 hl, htaken.2 ht, addEntry_full _ _ _ _ _ _ hfull]
  · intro k s rtag n chute g p c ref dest ht hr hg hn hp hk hc hl hfree hline hconsole hroom nominal lead point e
    have hgeo : s.loop.geometry = some g := hg
    have htaken : chuteOpen k p = true := by
      cases k with
      | line => exact (chuteOpen_iff .line p).2 ⟨(hline rfl).1, fun _ => (hline rfl).2⟩
      | console => exact (chuteOpen_iff .console p).2 ⟨hconsole rfl, nofun⟩
    have hmine : s.work.loadedFor n k = true := (s.work.loadedFor_iff n k).2 ⟨c, ref, dest, hc, hl⟩
    have hnone : s.work.entryOf n = none := List.find?_eq_none.2 fun e he => by simpa using hfree e he
    have he : newEntry s.loop s.work g n (some chute) (originFor k) k none = e :=
      (newEntry_discharge s.loop g hp hc hl _).trans (by cases k <;> rfl)
    have hjoins := addEntry_joins hgeo hroom hfree hc hl chute (originFor k) k none
    have hreply : discharge k n chute s = ok { s with work := { s.work with
          fires := s.work.fires ++ [e], fireCount := s.work.fireCount + 1
          carriers := s.work.carriers.set n { c with load := .loaded k ref (some chute) } } }
        [.u32 nominal, .u32 point] := by
      simp [discharge, hgeo, carrierOk, hn, hp, hk, hmine, hnone, htaken, hjoins, he, e]
    refine congrArg Host.Outcome.next ((serve_takes ht hr (.discharge n chute) (discharge k n chute)).trans ?_)
    rw [hreply]
    refine State.Quiet.settle ?_
    exact ht.1.of_work (by simp [ok]) (by simp [ok])
end

section
/-! ## An accepted EVENT (R96, R97, R155) -/

namespace Sys2Proof.Machine

/-! ### The node and the acknowledgement (R147, R155) -/

section
variable {r : Ring} {n : Nat} {y : Node}

/-- A node with a record can be given another. -/
theorem Ring.node_setNode (h : r.node n = some y) (x : Node) : (r.setNode n x).node n = some x := by
  unfold Ring.node Ring.setNode at *
  by_cases hn : n = 0
  · simp [hn] at h
  · rw [if_neg hn] at h ⊢
    obtain ⟨hlt, -⟩ := List.getElem?_eq_some_iff.1 h
    rw [if_neg hn]
    simp [hlt]

theorem Ring.setNode_setNode (r : Ring) (n : Nat) (x y : Node) : (r.setNode n x).setNode n y = r.setNode n y := by
  unfold Ring.setNode
  by_cases hn : n = 0 <;> simp [hn]

/-- What a change of a node's record leaves of the branch's state and its acknowledgements. -/
theorem Ring.setNode_acks (r : Ring) (n : Nat) (x : Node) :
    (r.setNode n x).state = r.state ∧ (r.setNode n x).acks = r.acks := by
  unfold Ring.setNode
  split <;> exact ⟨rfl, rfl⟩

end

/-- The branch as it has accepted an EVENT: the node's expected bit turned, its acknowledgement queued (R147, R155). -/
def Ring.accepts (r : Ring) (f : EventFields) (y : Node) : Ring :=
  { r.setNode f.node { y with expected := !y.expected, timeouts := 0 } with acks := r.acks ++ [⟨f.node, f.seq⟩] }

section
variable {w : Work} {br : Branch} {f : EventFields} {y : Node} (hrun : (w.ring br).state = .running)
  (hdown : (w.ring br).downlink ≠ none) (hacks : (w.ring br).acks.length < 32)
  (hnode : (w.ring br).node f.node = some y) (hon : y.state = .online) (hseq : f.seq = y.expected)
include hrun hdown hacks hnode hon hseq

/-- On a busy downlink an ONLINE node's EVENT with its expected bit is accepted, and its acknowledgement waits (R155). -/
theorem sequenceEvent_accepts (l : Loop) :
    sequenceEvent l br f (nodeHeard br f.node w) = (w.setRing br ((w.ring br).accepts f y), true) := by
  have hheard : nodeHeard br f.node w = w.setRing br ((w.ring br).setNode f.node { y with timeouts := 0 }) := by
    simp [nodeHeard, hnode, hon]
  obtain ⟨hstate, hqueue⟩ := (w.ring br).setNode_acks f.node { y with timeouts := 0 }
  obtain ⟨-, hqueue'⟩ := (w.ring br).setNode_acks f.node { y with expected := !y.expected, timeouts := 0 }
  obtain ⟨-, -, hbusy, -⟩ := (w.ring br).setNode_frame f.node { y with expected := !y.expected, timeouts := 0 }
  have habsent : y.state ≠ .absent := by simp [hon]
  simp only [hheard, sequenceEvent, Work.ring_setRing, hstate, hrun, ne_eq, not_true, if_false, hqueue,
    Nat.not_le.2 hacks, Ring.node_setNode hnode, habsent, hseq, if_true, Ring.setNode_setNode,
    Work.setRing_setRing, queueAck, hqueue']
  rw [arbitration_busy l (by simpa [hbusy] using hdown), Ring.accepts, hseq]

end

/-! ### The intake (R96, R97) -/

/-- An event of a point without a channel in ACCEPT is offered to none (R100). -/
theorem offerCapture_none {tag : Nat} (x : CaptureRecord) {s : State}
    (h : ∀ ch : Channel, some ch ∈ s.channels → ch.mode = .accept → ch.tag ≠ tag) : offerCapture tag x s = s := by
  have hnone : s.channels.findIdx? (boundTo tag) = none := by
    refine List.findIdx?_eq_none_iff.2 fun o ho => ?_
    cases o with
    | none => rfl
    | some ch => simpa [boundTo] using h ch ho
  simp [offerCapture, hnone]

theorem eventPoint_setRing (br other : Branch) (f : EventFields) (w : Work) (r : Ring) :
    eventPoint br f (w.setRing other r) = eventPoint br f w := by
  simp [eventPoint]

/-- An accepted EVENT whose point has no channel in ACCEPT: its node is heard and acknowledged, and it is dispatched. -/
theorem exec_eventFrame {s : State} {br : Branch} {f : EventFields} {y : Node} {p : Point}
    (hf : f.passes = true) (hrun : (s.work.ring br).state = .running) (hdown : (s.work.ring br).downlink ≠ none)
    (hacks : (s.work.ring br).acks.length < 32) (hnode : (s.work.ring br).node f.node = some y)
    (hon : y.state = .online) (hseq : f.seq = y.expected) (hp : eventPoint br f s.work = some p)
    (hch : ∀ ch : Channel, some ch ∈ s.channels → ch.mode = .accept → ch.tag ≠ p.tag) :
    exec (.eventFrame br f) s = .next ({ s with
      work := dispatch s.loop p (measure s.loop p f.age) f
        (s.work.setRing br ((s.work.ring br).accepts f y)) } : State).settle := by
  have hhears : hears s br = true := decide_eq_true (by simp [hrun])
  have htaken : takeEvent br f s = { s with
      work := dispatch s.loop p (measure s.loop p f.age) f
        (s.work.setRing br ((s.work.ring br).accepts f y)) } := by
    simp only [takeEvent, sequenceEvent_accepts hrun hdown hacks hnode hon hseq, if_true, intake, eventPoint_setRing, hp]
    exact offerCapture_none _ (by exact hch)
  show Host.Outcome.next (if hears s br then (eventArrives br f s).settle else s) = _
  rw [if_pos hhears, eventArrives, if_pos hf, htaken]

/-! ### The measure of an event (R25, R26, R29, R97) -/

theorem isStale_iff (o : Option Geometry) (age : Nat) :
    isStale o age = true ↔ ∃ g, o = some g ∧ g.maxAge < min age 4095 := by
  cases o <;> simp [isStale, heldAge]

theorem measure_stale (l : Loop) (p : Point) (age : Nat) : (measure l p age).stale = isStale l.geometry age := by
  unfold measure
  dsimp only
  split
  · split <;> rfl
  · rfl

/-- Without lock an event is measured neither against the loop nor against the carriers. -/
theorem measure_unlocked {l : Loop} (h : l.tracker.lock ≠ .locked) (p : Point) (age : Nat) :
    (measure l p age).attributed = none := by
  have hlock : l.isLocked = false := decide_eq_false h
  unfold measure
  rw [hlock]
  dsimp only
  split
  · simp
  · rfl

/-- In LOCKED an event that is not stale has its corrected position and its attribution. -/
theorem measure_locked {l : Loop} {g : Geometry} {x : Nat} (hg : l.geometry = some g) (hl : l.tracker.lock = .locked)
    (hx : l.tracker.pos = some x) (p : Point) {age : Nat} (hs : isStale (some g) age = false) :
    let xc := (((x : Int) - ((l.tracker.v * min age 4095 + 10000) / 20000 : Nat)) % g.length).toNat
    measure l p age = ⟨min age 4095, false, some xc, some (attribution g p.config.loc p.config.bias xc)⟩ := by
  have hlock : l.isLocked = true := decide_eq_true hl
  simp only [measure, hg, hx, hs, hlock]
  rfl

end Sys2Proof.Machine
end

section
/-! ## The placing of loads (R30, R80, R81, R99) -/

namespace Sys2Proof.Machine

/-! ### What one poster posts at an event -/

/-- The end of an event at which one notice goes to one link. -/
theorem State.settle_post {s : State} (h : s.Quiet) (k : Link) (b : Block) (n : Notice) :
    ({ s with work := s.work.post k b n } : State).settle = s.notified k [n] := by
  refine (State.settle_posting_one (ps := [⟨k, b, n⟩]) (b := b) (c := b) h ?_ ?_).trans ?_ <;>
    cases k <;> simp [postsTo]

/-! ### The event of an INDUCT (R99) -/

section
variable {l : Loop} {p : Point} {m : Measure} {e : Edge} (ref : BitVec 32) (w : Work)

theorem inductEvent_ignored (h : m.stale = true ∨ p.config.edge ≠ some e) : inductEvent l p m e ref w = w := by
  rcases h with h | h <;> simp [inductEvent, h]

variable (hs : m.stale = false) (he : p.config.edge = some e)
include hs he

theorem inductEvent_unlocked (hm : m.attributed = none) :
    inductEvent l p m e ref w = w.post p.custody .carriers (.loadUnplaced p.tag ref .notLocked none) := by
  unfold inductEvent
  rw [hm]
  cases l.geometry <;> simp [hs, he]

/-- Within the tolerance of the nearest carrier the load is handed to it; beyond it LOAD_UNPLACED goes out (R30). -/
theorem inductEvent_attributed {g : Geometry} (hg : l.geometry = some g) {k : Nat} {d : Int}
    (hm : m.attributed = some (k, d)) :
    inductEvent l p m e ref w =
      if d.natAbs ≤ min p.config.tol ((g.pitch - 1) / 2) then placeLoad l p k d ref w
      else w.post p.custody .carriers (.loadUnplaced p.tag ref .offCarrier (some (k, d))) := by
  simp [inductEvent, hs, he, hg, hm, effTol]

end

/-! ### The load on its carrier (R80, R81) -/

/-- Without trials a claim pass finds none that claims (R125). -/
theorem claimPass_noPlan (l : Loop) {w : Work} (h : w.plan = []) : claimPass l w = w :=
  List.foldl_fixed' (fun k => by simp [claimOne, h]) _

section
variable (l : Loop) {p : Point} {k : Nat} (d : Int) (ref : BitVec 32) {w : Work} {c : Carrier}
  (hc : w.carriers[k]? = some c)
include hc

theorem placeLoad_empty (hl : c.load = .empty) (hplan : p.custody = .console → w.plan = []) :
    placeLoad l p k d ref w =
      Work.post { w with carriers := w.carriers.set k { c with load := .loaded p.custody ref none } } p.custody
        .carriers (.load k ref p.tag d l.tracker.revolution) := by
  simp only [placeLoad, Work.carrier, hc, hl, Work.setLoad_of_carrier hc]
  cases hk : p.custody with
  | line => rfl
  | console => exact claimPass_noPlan l (hplan hk)

theorem placeLoad_loaded {owner : Link} {old : BitVec 32} {dest : Option Nat} (hl : c.load = .loaded owner old dest) :
    placeLoad l p k d ref w =
      doubleLoadEntry l k (Work.posting { w with carriers := w.carriers.set k { c with load := .fault .doubleLoad } }
        (bothPosts [(.carriers, .carrierFault k .doubleLoad (some (owner, old)) ref p.tag)])) := by
  simp only [placeLoad, Work.carrier, hc, hl, Work.setLoad_of_carrier hc, Work.postBoth_eq_posting]

theorem placeLoad_fault {why : CarrierFault} (hl : c.load = .fault why) :
    placeLoad l p k d ref w =
      w.posting (bothPosts [(.carriers, .carrierFault k why none ref p.tag)]) := by
  simp only [placeLoad, Work.carrier, hc, hl, Work.postBoth_eq_posting]

end

/-- A double load leaves the fire list, where its carrier has no entry that is WAITING (R81). -/
theorem doubleLoadEntry_sent (l : Loop) {k : Nat} {w : Work} (h : ∀ e ∈ w.fires, e.carrier = k → e.state = .sent) :
    doubleLoadEntry l k w = w := by
  unfold doubleLoadEntry
  cases he : w.entryOf k with
  | none => rfl
  | some e =>
    have hcarrier : e.carrier = k := by simpa using List.find?_some he
    have hsent := h e (List.mem_of_find?_eq_some he) hcarrier
    simp [hsent]

/-- A double load cancels the discharge that waits for its carrier (R81). -/
theorem doubleLoadEntry_waiting (l : Loop) {k : Nat} {w : Work} {e : Entry} (he : w.entryOf k = some e)
    (hw : e.state = .waiting) (ho : e.origin = .lineDischarge ∨ e.origin = .consoleDischarge) :
    doubleLoadEntry l k w = endDischarge l .cancelled e w := by
  unfold doubleLoadEntry
  rcases ho with ho | ho <;> simp [he, hw, ho]

/-- A carrier without a destination keeps its load as its entry leaves. -/
theorem Work.without_unbound {w : Work} {e : Entry} {c : Carrier} (hc : w.carriers[e.carrier]? = some c)
    (hl : c.load.unbound = c.load) :
    w.without e id = Work.withdraw { w with fires := w.fires.filter fun z => decide (z.seq ≠ e.seq) }
      fun j => decide (j ≠ .fire e.seq) := by
  have hid : (w.carriers.modify e.carrier fun c => { c with load := (id c.load).unbound }) = w.carriers := by
    rw [modify_congr_at (g := id) fun d hd => ?_, List.modify_id]
    rw [Option.some.inj (hd.symm.trans hc), id, hl]
    rfl
  rw [Work.without, hid]
  rfl

theorem Work.setRing_withCarriers (w : Work) (br : Branch) (r : Ring) (cs : List Carrier) :
    ({ w.setRing br r with carriers := cs } : Work) = Work.setRing { w with carriers := cs } br r := by
  cases br <;> rfl

end Sys2Proof.Machine

open Sys2Proof Sys2Proof.Machine

/-- Settles O45: an accepted event of an INDUCT is measured, and its load placed on the carrier it is attributed to. -/
theorem loadsArePlaced : Obligations.LoadsArePlaced := by
  unfold Obligations.LoadsArePlaced
  intro br s f p y r tr hq hf hrun hdown hacks hnode hon hseq hp hkind hch age stale edge heard taken
  have hedge : edge ↔ p.config.edge = some (EventFields.edgeOf f) := Iff.rfl
  have hstale : (measure s.loop p f.age).stale = true ↔ stale := by
    rw [measure_stale]
    exact isStale_iff tr.geometry f.age
  have hexec : exec (.eventFrame br f) s = .next ({ s with
      work := inductEvent s.loop p (measure s.loop p f.age) (EventFields.edgeOf f) f.ref (s.work.setRing br heard) } :
        State).settle := by
    rw [exec_eventFrame hf hrun hdown hacks hnode hon hseq hp hch, dispatch, hkind]
    rfl
  have quiet {w : Work} (ho : w.outbox = s.work.outbox) (hd : w.dist = s.work.dist) : (taken w).Quiet :=
    hq.of_work ((Work.setRing_outbox ..).trans ho) ((Work.setRing_dist ..).trans hd)
  have quiet₀ : (taken s.work).Quiet := quiet rfl rfl
  refine ⟨fun h => ?_, fun hs he hl => ?_, ?_⟩
  · rw [hexec, inductEvent_ignored _ _ (h.imp hstale.2 (mt hedge.2))]
    exact congrArg _ quiet₀.settle
  · rw [hexec, inductEvent_unlocked _ _ (Bool.eq_false_iff.2 (mt hstale.1 hs)) (hedge.1 he) (measure_unlocked hl p f.age)]
    exact congrArg _ (State.settle_post quiet₀ ..)
  intro g x n d c hs he hg hl hx hat tol
  have hfresh : (measure s.loop p f.age).stale = false := Bool.eq_false_iff.2 (mt hstale.1 hs)
  have hmeasure : (measure s.loop p f.age).attributed = some (n, d) := by
    have hgeo : s.loop.geometry = some g := hg
    rw [measure_locked hgeo hl hx p (by rwa [measure_stale, hgeo] at hfresh)]
    exact congrArg some hat
  have hplaced := inductEvent_attributed f.ref (s.work.setRing br heard) hfresh (hedge.1 he) hg hmeasure
  rw [hplaced] at hexec
  refine ⟨fun hfar => ?_, ?_⟩
  · rw [hexec, if_neg (Nat.not_le.2 hfar)]
    exact congrArg _ (State.settle_post quiet₀ ..)
  intro hnear hc now
  rw [if_pos hnear] at hexec
  have hc' : (s.work.setRing br heard).carriers[n]? = some c := by rwa [Work.setRing_carriers]
  have hnow (load : LoadState) : ({ s.work.setRing br heard with
      carriers := (s.work.setRing br heard).carriers.set n { c with load := load } } : Work) =
      (now load).setRing br heard := by
    rw [Work.setRing_carriers, Work.setRing_withCarriers]
  refine ⟨fun hl hplan => ?_, fun owner old dest hl => ?_, fun why hl => ?_⟩
  · rw [hexec, placeLoad_empty _ _ _ hc' hl (by simpa using hplan), hnow]
    exact congrArg _ (State.settle_post (quiet (w := now (.loaded p.custody f.ref none)) rfl rfl) ..)
  · intro fault
    rw [placeLoad_loaded _ _ _ hc' hl, hnow] at hexec
    refine ⟨fun hsent => ?_, ?_⟩
    · rw [hexec, doubleLoadEntry_sent]
      · exact congrArg _ (State.settle_posting_both (quiet (w := now (.fault .doubleLoad)) rfl rfl) ..)
      · simpa [Work.posting] using hsent
    · intro e chute hentry hw hchute ho howner others left done
      have hcarrier : e.carrier = n := by simpa using List.find?_some hentry
      have hleft : ((now (.fault .doubleLoad)).setRing br heard).without e id = left.withdraw others := by
        have hlt := (List.getElem?_eq_some_iff.1 hc).1
        rw [Work.without_unbound (c := { c with load := .fault .doubleLoad }) (by simp [now, hcarrier, hlt]) rfl,
          Work.setRing_fires]
      have hends := endDischarge_eq s.loop .cancelled (e := e) (c := chute)
        (w := ((now (.fault .doubleLoad)).setRing br heard).posting (bothPosts [(.carriers, fault)])) hchute
        (by simpa [Work.posting, Work.ask, now] using howner)
      have hpost : Work.post (Work.without (((now (.fault .doubleLoad)).setRing br heard).posting
          (bothPosts [(.carriers, fault)])) e id) e.owner .fires done =
          (left.withdraw others).posting (bothPosts [(.carriers, fault)] ++ [⟨e.owner, .fires, done⟩]) := by
        rw [← hleft, ← Work.posting_posting]
        rfl
      rw [doubleLoadEntry_waiting _ (e := e) (by simpa [Work.posting, Work.entryOf, now] using hentry) hw ho,
        hends, hcarrier] at hexec
      refine ⟨_, hexec.trans (congrArg (fun w => Host.Outcome.next (State.settle { s with work := w })) hpost), ?_⟩
      have hposted := State.settle_posting (s := { s with work := left.withdraw others })
        (hq.of_work (by simp [left, now]) (by simp [left, now]))
        (bothPosts [(.carriers, fault)] ++ [⟨e.owner, .fires, done⟩])
      have hboth (k : Link) : (postsTo k (bothPosts [(.carriers, fault)] ++ [⟨e.owner, .fires, done⟩])).map Post.notice =
          if e.owner = k then [fault, done] else [fault] := by
        rw [notices_append, notices_bothPosts]
        by_cases hk : e.owner = k <;> simp [hk]
      rwa [hboth, hboth] at hposted
  · rw [hexec, placeLoad_fault _ _ _ hc' hl]
    exact congrArg _ (State.settle_posting_both quiet₀ ..)
end

section
/-! ## A forward move, and what it presents (R5, R6, R15) -/

namespace Sys2Proof.Machine

/-- The tracker after a forward count at position `x`, short of the check of the home distance (R5, R6). -/
def Tracker.advanced (t : Tracker) (g : Geometry) (encA encB : Bool) (x : Nat) : Tracker :=
  let up := (t.frac + g.scale) / 65536
  { t with
    encA := encA, encB := encB, frac := (t.frac + g.scale) % 65536, current := t.current + up
    homeDist := t.homeDist + up, pos := some ((x + up) % g.length) }

theorem pos_of_reaches {L x up target : Nat} (h : reaches L x up target = true) : 0 < up := by
  simp only [reaches, decide_eq_true_eq] at h
  omega

/-- A forward move that stays short of L + H presents its span, and does nothing else. -/
theorem exec_encoderEvent_forward {s : State} {encA encB : Bool} {g : Geometry} {x : Nat}
    (hg : s.loop.tracker.geometry = some g) (hx : s.loop.tracker.pos = some x)
    (hl : s.loop.tracker.lock = .locked ∨ s.loop.tracker.lock = .coasting)
    (hlevel : levelOf encA encB = (levelOf s.loop.tracker.encA s.loop.tracker.encB + 1) % 4)
    (hup : 0 < (s.loop.tracker.frac + g.scale) / 65536)
    (hhome : s.loop.tracker.homeDist + ((s.loop.tracker.frac + g.scale) / 65536 : Nat) ≤ (g.length : Int) + g.homeTol) :
    let l : Loop := { s.loop with tracker := s.loop.tracker.advanced g encA encB x }
    exec (.encoderEvent encA encB) s = .next ({ s with
      loop := l
      work := present l x s.loop.tracker.homeDist ((s.loop.tracker.frac + g.scale) / 65536) s.work } : State).settle := by
  intro l
  have hstep : Tracker.step { s.loop.tracker with
      encA := encA, encB := encB, frac := (s.loop.tracker.frac + g.scale) % 65536 } g
        (((s.loop.tracker.frac + g.scale) / 65536 : Nat) : Int) = s.loop.tracker.advanced g encA encB x := by
    rw [Tracker.step_placed (t := { s.loop.tracker with
      encA := encA, encB := encB, frac := (s.loop.tracker.frac + g.scale) % 65536 }) hl hx, ← Nat.cast_add,
      modL_natCast]
    rfl
  have hmove : encoderChange encA encB s = { s with
      loop := l
      work := present l x s.loop.tracker.homeDist ((s.loop.tracker.frac + g.scale) / 65536) s.work } := by
    rw [encoderChange_forward hg hlevel, moveBy_forward g (Int.natCast_pos.2 hup) (x := x) (by exact hx)]
    simp only [State.setTracker_tracker]
    rw [hstep]
    exact checkHome_short hhome
  exact congrArg (fun u => Host.Outcome.next (State.settle u)) hmove

end Sys2Proof.Machine
end

section
/-! ## The grant of a fire (R90, R148 to R151) -/

namespace Sys2Proof.Machine

/-! ### The tests of a grant -/

/-- The lowest free tag (R150). -/
theorem Ring.freeTag_eq {r : Ring} {tag : Nat} (ht : tag < 16) (hfree : ∀ y ∈ r.table, y.tag ≠ tag)
    (htaken : ∀ m < tag, ∃ y ∈ r.table, y.tag = m) : r.freeTag = some tag := by
  refine List.find?_range_eq_some.2 ⟨by simpa using hfree, List.mem_range.2 ht, fun m hm => ?_⟩
  simpa using htaken m hm

/-- A fire may go to the carrier link node while fewer than 8 transactions are outstanding there (R151). -/
theorem grantable_fire {l : Loop} {g : Geometry} (hg : l.geometry = some g) {r : Ring} {q : Req} {seq tag : Nat}
    (hfree : r.freeTag = some tag) (hj : q.job = .fire seq) (hn : q.node = g.linkNode) (ho : r.outstanding q.node < 8) :
    grantable l g.linkBranch r q = true := by
  have hlink : isLinkNode l g.linkBranch q.node = true := by simp [isLinkNode, hg, hn]
  simp [grantable, hfree, belowLimit, hlink, ho, hj, Job.isFire]

theorem withinSlack_iff {l : Loop} {g : Geometry} {x : Nat} (hg : l.geometry = some g) (hx : l.tracker.pos = some x)
    (e : Entry) : withinSlack l e = true ↔ (((x : Int) - e.firePoint) % g.length).toNat ≤ g.slack := by
  have hfrom : l.orderFrom = x := by simp [Loop.orderFrom, hx]
  simp [withinSlack, hg, hfrom, forward, modL]

/-- The tests of R90 for a chute item: those of a discharge, the steady flag, and a slot for its window (R103). -/
theorem skips_item {l : Loop} {w : Work} {e : Entry} (ho : e.origin = .chuteItem) {c u : Nat} {p n : Point}
    (hc : e.chute = some c) (hp : w.point c = some p) (hu : p.config.entry = some u) (hn : w.point u = some n)
    (hl : l.tracker.lock = .locked) (hv : 0 < l.tracker.v) (hs : l.tracker.steady = true)
    (hfp : l.fences.getLsbD p.config.zone = false) (hfn : l.fences.getLsbD n.config.zone = false)
    (hroom : w.windows.length < 512) (hpair : ∀ y ∈ w.windows, ¬(y.sensor = u ∧ y.carrier = e.carrier)) :
    skips l w e = false := by
  have hslot : slotFree l w c e.carrier = true := by
    simpa [slotFree, Work.entrySensor, hp, hu, hroom, zoneFenced, hn, Loop.fenced, hfn, Work.pairTaken] using hpair
  simp [skips, Loop.isLocked, hl, hv.ne', hc, zoneFenced, hp, Loop.fenced, hfp, ho, hs, hslot]

/-- The tests of R90 for a belt jog: its carrier must be EMPTY. -/
theorem skips_jog {l : Loop} {w : Work} {e : Entry} (ho : e.origin = .beltJog) (hc : e.chute = none) {car : Carrier}
    (hcar : w.carriers[e.carrier]? = some car) (hl : l.tracker.lock = .locked) (hv : 0 < l.tracker.v) :
    skips l w e = !decide (car.load = .empty) := by
  simp [skips, Loop.isLocked, hl, hv.ne', hc, ho, Work.isEmptyCarrier, Work.carrier, hcar]

/-! ### What a grant makes of its entry (R90) -/

section
variable {l : Loop} {w : Work} {e : Entry} (he : w.entryAt e.seq = some e) (hw : e.state = .waiting)
  (hr : e.requested = true)
include he hw hr

theorem grantFire_skipped (hs : skips l w e = true) :
    grantFire l e.seq w = (w.setEntry { e with requested := false }, none) := by
  simp [grantFire, he, hw, hr, hs]

variable (hs : skips l w e = false)
include hs

theorem grantFire_missed (hslack : withinSlack l e = false) : grantFire l e.seq w = (missEntry l e w, none) := by
  simp [grantFire, he, hw, hr, hs, hslack]

theorem grantFire_sent (hslack : withinSlack l e = true) :
    grantFire l e.seq w =
      (fireSent l e (w.setEntry { e with state := .sent, requested := false }), some (fireAction w e)) := by
  simp [grantFire, he, hw, hr, hs, hslack]

end

/-- A discharge leaves no mark but its entry's (R90 step 5). -/
theorem fireSent_discharge (l : Loop) {e : Entry} (ho : e.origin = .lineDischarge ∨ e.origin = .consoleDischarge)
    (w : Work) : fireSent l e w = w := by
  unfold fireSent
  cases e.trial.bind w.trial with
  | none => rfl
  | some t => rcases ho with ho | ho <;> simp [ho]

theorem formWindow_eq (g : Geometry) (p : Point) (k : Nat) (purpose : Purpose) (trial : Nat) (item : Option Nat)
    (order : Nat) : formWindow g p k purpose trial item order = windowFor g p k purpose trial item order := by
  simp only [formWindow, windowFor, closeOf, ← Nat.cast_add, modL_natCast]
  rfl

/-- The item of a chute trial becomes FIRED, and its entry window is armed (R103, R126). -/
theorem fireSent_item {l : Loop} {g : Geometry} (hg : l.geometry = some g) {w : Work} {e : Entry} {t : Trial} {i : Item}
    {c u : Nat} {p n : Point} (ho : e.origin = .chuteItem) (ht : e.trial = some t.id) (hplan : w.trial t.id = some t)
    (hi : t.item e.carrier = some i) (hc : e.chute = some c) (hp : w.point c = some p) (hu : p.config.entry = some u)
    (hn : w.point u = some n) :
    fireSent l e w = { w.setTrial (t.setItem { i with stage := .fired }) with
      windows := w.windows ++ [windowFor g n e.carrier .chuteEntry t.id (some i.index) w.armCount]
      armCount := w.armCount + 1 } := by
  have hpoint (v : Trial) (c : Nat) : (w.setTrial v).point c = w.point c := rfl
  simp only [fireSent, ht, Option.bind_some, hplan, ho, hi, hc, armEntry, hg, Work.entrySensor, hpoint, hp, hu, hn,
    joinWindow, formWindow_eq]
  rfl

/-- A belt trial counts the jog (R142, log 24). -/
theorem fireSent_jog (l : Loop) {w : Work} {e : Entry} {t : Trial} (ho : e.origin = .beltJog) (ht : e.trial = some t.id)
    (hplan : w.trial t.id = some t) :
    fireSent l e w = w.setTrial { t with belt := { t.belt with sent := t.belt.sent + 1 } } := by
  simp [fireSent, ht, hplan, ho]

/-! ### The arbitration at the end of a frame (R148) -/

/-- With nothing that waits no grant is made. -/
theorem arbitrate_idle (l : Loop) {br : Branch} {w : Work} (ha : (w.ring br).acks = []) (hw : (w.ring br).waiting = [])
    (fuel : Nat) : arbitrate l br fuel w = w := by
  obtain ⟨hf, hd, hr⟩ : (w.ring br).fireq = [] ∧ (w.ring br).driveq = [] ∧ (w.ring br).relayq = [] := by
    simpa [Ring.waiting] using hw
  cases fuel with
  | zero => rfl
  | succ fuel =>
    simp [arbitrate, chooseGrant, ha, chooseReq, Ring.queue, hf, hd, hr, firstGrantable]

/-- A grantable request in front of the FIRE queue is chosen before all but acknowledgements (R148). -/
theorem chooseGrant_fire {p : Req → Bool} {r : Ring} {q : Req} {rest : List Req} (ha : r.acks = [])
    (hf : r.fireq = q :: rest) (hp : p q = true) : chooseGrant p r = some (.req .fire 0) := by
  simp [chooseGrant, ha, chooseReq, Ring.queue, hf, firstGrantable, hp]

/-- On a free downlink the FIRE request in front, grantable and without a mark, is offered the grant (R148, R149). -/
theorem arbitrate_offers {l : Loop} {br : Branch} {w v : Work} {q : Req} {rest : List Req} {used : Bool}
    (hrun : (w.ring br).state = .running) (hdown : (w.ring br).downlink = none) (hacks : (w.ring br).acks = [])
    (hfireq : (w.ring br).fireq = q :: rest) (hyield : q.yield = false) (hgrant : grantable l br (w.ring br) q = true)
    (hoffer : offer l br q (w.setRing br { w.ring br with fireq := rest }) = (v, used)) (fuel : Nat) :
    arbitrate l br (fuel + 1) w = if used then v else arbitrate l br fuel v := by
  have happly (p : Req → Bool) : applyYield p (w.ring br) (.req .fire 0) = (w.ring br, .req .fire 0) := by
    simp [applyYield, Ring.queue, hfireq, hyield]
  have hqueue : (w.ring br).queue .fire = q :: rest := hfireq
  have hset : (w.ring br).setQueue .fire rest = { w.ring br with fireq := rest } := rfl
  have hfree : ¬(decide ((w.ring br).state ≠ .running) || (w.ring br).downlink.isSome) = true := by simp [hrun, hdown]
  simp only [arbitrate, if_neg hfree, chooseGrant_fire hacks hfireq hgrant, happly, hqueue, List.getElem?_cons_zero,
    List.eraseIdx_cons_zero, hset, hoffer]
  cases used <;> rfl

section
variable {l : Loop} {br : Branch} {w : Work} {q : Req} {rest : List Req} {f0 : DownFrame}
  (hrun : (w.ring br).state = .running) (hdown : (w.ring br).downlink = some f0) (hacks : (w.ring br).acks = [])
  (hfireq : (w.ring br).fireq = q :: rest) (hyield : q.yield = false)
  (hgrant : grantable l br { w.ring br with downlink := none } q = true)
include hrun hdown hacks hfireq hyield hgrant

/-- At the end of a frame the FIRE request in front is offered the grant. -/
theorem frameEnd_offers {v : Work} {used : Bool}
    (hoffer : offer l br q (w.setRing br { w.ring br with downlink := none, fireq := rest }) = (v, used)) :
    ∃ fuel, frameEnd l br w = if used then v else arbitrate l br fuel v := by
  have hend : frameEnd l br w = arbitration l br (w.setRing br { w.ring br with downlink := none }) := by
    simp [frameEnd, hdown]
  rw [hend, arbitration]
  refine ⟨_, arbitrate_offers (q := q) (rest := rest) ?_ ?_ ?_ ?_ hyield ?_ ?_ _⟩ <;> rw [Work.ring_setRing]
  · exact hrun
  · exact hacks
  · exact hfireq
  · exact hgrant
  · rw [Work.setRing_setRing]
    exact hoffer

/-- A declined grant that leaves nothing waiting ends the arbitration (R149). -/
theorem frameEnd_declined {v : Work}
    (hoffer : offer l br q (w.setRing br { w.ring br with downlink := none, fireq := rest }) = (v, false))
    (hva : (v.ring br).acks = []) (hvw : (v.ring br).waiting = []) : frameEnd l br w = v := by
  obtain ⟨fuel, h⟩ := frameEnd_offers hrun hdown hacks hfireq hyield hgrant hoffer
  rw [h]
  exact arbitrate_idle l hva hvw fuel

end

/-! ### The grant of an entry's request -/

/-- The core as a frame has ended and the FIRE request in front has left its queue, with `rest` behind it. -/
def Work.takenUp (w : Work) (br : Branch) (rest : List Req) : Work :=
  w.setRing br { w.ring br with downlink := none, fireq := rest }

@[simp] theorem Work.takenUp_ring (w : Work) (br : Branch) (rest : List Req) :
    (w.takenUp br rest).ring br = { w.ring br with downlink := none, fireq := rest } :=
  Work.ring_setRing ..

theorem Work.takenUp_entryAt (w : Work) (br : Branch) (rest : List Req) (seq : Nat) :
    (w.takenUp br rest).entryAt seq = w.entryAt seq := by
  cases br <;> rfl

theorem skips_takenUp (l : Loop) (w : Work) (br : Branch) (rest : List Req) (e : Entry) :
    skips l (w.takenUp br rest) e = skips l w e := by
  cases br <;> rfl

theorem fireAction_takenUp (w : Work) (br : Branch) (rest : List Req) (e : Entry) :
    fireAction (w.takenUp br rest) e = fireAction w e := by
  cases br <;> rfl

theorem Work.setEntry_setRing (w : Work) (br : Branch) (r : Ring) (e : Entry) :
    (w.setRing br r).setEntry e = (w.setEntry e).setRing br r := by
  cases br <;> rfl

theorem Work.setEntry_setTrial (w : Work) (t : Trial) (e : Entry) :
    (w.setEntry e).setTrial t = (w.setTrial t).setEntry e := rfl

theorem Work.setTrial_setRing (w : Work) (br : Branch) (r : Ring) (t : Trial) :
    (w.setRing br r).setTrial t = (w.setTrial t).setRing br r := by
  cases br <;> rfl

theorem armEntry_setRing (l : Loop) (chute k trial index : Nat) (w : Work) (br : Branch) (r : Ring) :
    armEntry l chute k trial index (w.setRing br r) = (armEntry l chute k trial index w).setRing br r := by
  unfold armEntry
  rw [show (w.setRing br r).entrySensor chute = w.entrySensor chute by cases br <;> rfl]
  split
  · next g u hg hu =>
    rw [show (w.setRing br r).point u = w.point u by cases br <;> rfl]
    split
    · cases br <;> rfl
    · rfl
  · rfl

theorem armEntry_setEntry (l : Loop) (chute k trial index : Nat) (w : Work) (e : Entry) :
    armEntry l chute k trial index (w.setEntry e) = (armEntry l chute k trial index w).setEntry e := by
  unfold armEntry
  rw [show (w.setEntry e).entrySensor chute = w.entrySensor chute from rfl]
  split
  · next g u hg hu =>
    rw [show (w.setEntry e).point u = w.point u from rfl]
    split <;> rfl
  · rfl

/-- The send of a fire leaves the branches to the arbiter. -/
theorem fireSent_setRing (l : Loop) (e : Entry) (w : Work) (br : Branch) (r : Ring) :
    fireSent l e (w.setRing br r) = (fireSent l e w).setRing br r := by
  have htrial : (w.setRing br r).trial = w.trial := by cases br <;> rfl
  unfold fireSent
  rw [htrial]
  split
  · rfl
  · split
    · split
      · rw [Work.setTrial_setRing, armEntry_setRing]
      · rfl
    · exact Work.setTrial_setRing ..
    · rfl

/-- The send of a fire leaves the fire list. -/
theorem fireSent_setEntry (l : Loop) (e : Entry) (w : Work) (e' : Entry) :
    fireSent l e (w.setEntry e') = (fireSent l e w).setEntry e' := by
  unfold fireSent
  rw [show (w.setEntry e').trial = w.trial from rfl]
  split
  · rfl
  · split
    · split
      · rw [Work.setEntry_setTrial, armEntry_setEntry]
      · rfl
    · exact Work.setEntry_setTrial ..
    · rfl

section
variable {l : Loop} {br : Branch} {w : Work} {q : Req} {rest : List Req} {f0 : DownFrame} {e : Entry}
  (hrun : (w.ring br).state = .running) (hdown : (w.ring br).downlink = some f0) (hacks : (w.ring br).acks = [])
  (hfireq : (w.ring br).fireq = q :: rest) (hyield : q.yield = false) (hjob : q.job = .fire e.seq)
  (hgrant : grantable l br { w.ring br with downlink := none } q = true)
include hrun hdown hacks hfireq hyield hjob hgrant

theorem frameEnd_fire_declined {v : Work} (h : grantFire l e.seq (w.takenUp br rest) = (v, none))
    (hva : (v.ring br).acks = []) (hvw : (v.ring br).waiting = []) : frameEnd l br w = v := by
  refine frameEnd_declined hrun hdown hacks hfireq hyield hgrant ?_ hva hvw
  simp only [offer, hjob]
  rw [show w.setRing br _ = w.takenUp br rest from rfl, h]

variable (he : w.entryAt e.seq = some e) (hw : e.state = .waiting) (hr : e.requested = true)
  (hs : skips l w e = false)
include he hw hr hs

/-- Within the slack the command leaves under the lowest free tag, and the transaction is outstanding (R90, R150). -/
theorem frameEnd_fire_sent (hslack : withinSlack l e = true) {tag : Nat} (hfree : (w.ring br).freeTag = some tag) :
    let frame : DownFrame := .command tag q.node q.channel (fireAction w e)
    frameEnd l br w =
      ((fireSent l e w).setEntry { e with state := .sent, requested := false }).setRing br
        { w.ring br with
          fireq := rest, downlink := some frame, wire := frame.bytes
          table := (w.ring br).table ++
            [⟨tag, .fire e.seq, q.node, q.channel, .command, q.attempts + 1, l.clock + 10⟩] } := by
  intro frame
  have hsent := grantFire_sent (l := l) (w := w.takenUp br rest) ((Work.takenUp_entryAt ..).trans he) hw hr
    ((skips_takenUp ..).trans hs) hslack
  rw [fireAction_takenUp, Work.takenUp, Work.setEntry_setRing, fireSent_setRing, fireSent_setEntry] at hsent
  obtain ⟨fuel, h⟩ := frameEnd_offers (l := l) hrun hdown hacks hfireq hyield hgrant (used := true)
    (by simp only [offer, hjob]; rw [hsent])
  have htag : Ring.freeTag { w.ring br with downlink := none, fireq := rest } = some tag := hfree
  rw [h, if_pos rfl, sendFrame, Work.ring_setRing, htag]
  simp only [Ring.begin, Ring.transmit, hjob, Work.setRing_setRing]
  rfl

end

end Sys2Proof.Machine
end

section
/-! ## The fire of an entry: found due, and granted -/

namespace Sys2Proof.Machine

/-- The end of an entry, where the ring is as the arbiter has it. -/
theorem Work.without_setRing (w : Work) (br : Branch) (r : Ring) (e : Entry) :
    (w.setRing br r).without e id =
      Work.withdraw { w.setRing br r with
        fires := w.fires.filter fun z => decide (z.seq ≠ e.seq)
        carriers := w.carriers.modify e.carrier fun y => { y with load := y.load.unbound } }
        fun j => decide (j ≠ .fire e.seq) := by
  cases br <;> rfl

section
variable {l : Loop} {br : Branch} {w : Work} {q : Req} {f0 : DownFrame} {e : Entry}
  (hrun : (w.ring br).state = .running) (hdown : (w.ring br).downlink = some f0) (hacks : (w.ring br).acks = [])
  (hfireq : (w.ring br).fireq = [q]) (hyield : q.yield = false) (hjob : q.job = .fire e.seq)
  (hgrant : grantable l br { w.ring br with downlink := none } q = true)
  (hdrive : (w.ring br).driveq = []) (hrelay : (w.ring br).relayq = [])
include hrun hdown hacks hfireq hyield hjob hgrant hdrive hrelay

/-- A grant that only changes its entry ends the arbitration, where its request was the only one. -/
theorem frameEnd_fire_keeps {e' : Entry}
    (h : grantFire l e.seq (w.takenUp br []) = ((w.takenUp br []).setEntry e', none)) :
    frameEnd l br w = (w.setEntry e').setRing br { w.ring br with fireq := [], downlink := none } := by
  rw [Work.takenUp, Work.setEntry_setRing] at h
  refine frameEnd_fire_declined hrun hdown hacks hfireq hyield hjob hgrant h ?_ ?_ <;> rw [Work.ring_setRing]
  · exact hacks
  · simp [Ring.waiting, hdrive, hrelay]

variable (he : w.entryAt e.seq = some e) (hw : e.state = .waiting) (hr : e.requested = true)
include he hw hr

/-- The tests of R90 withdraw the request. -/
theorem frameEnd_fire_skipped (hs : skips l w e = true) :
    frameEnd l br w = (w.setEntry { e with requested := false }).setRing br
      { w.ring br with fireq := [], downlink := none } :=
  frameEnd_fire_keeps hrun hdown hacks hfireq hyield hjob hgrant hdrive hrelay
    (grantFire_skipped ((Work.takenUp_entryAt ..).trans he) hw hr ((skips_takenUp ..).trans hs))

variable (hs : skips l w e = false) (hslack : withinSlack l e = false)
include hs hslack

/-- Beyond the slack the entry counts a miss (R90). -/
theorem frameEnd_fire_misses (hm : e.misses < 2) :
    frameEnd l br w = (w.setEntry { e with misses := e.misses + 1, requested := false }).setRing br
      { w.ring br with fireq := [], downlink := none } := by
  refine frameEnd_fire_keeps hrun hdown hacks hfireq hyield hjob hgrant hdrive hrelay
    ((grantFire_missed ((Work.takenUp_entryAt ..).trans he) hw hr ((skips_takenUp ..).trans hs) hslack).trans ?_)
  have hm : e.misses + 1 < 3 := by omega
  simp only [missEntry, hm, if_true, hw]

/-- The third miss ends a discharge (R90, R94). -/
theorem frameEnd_fire_ends (ho : e.origin = .lineDischarge ∨ e.origin = .consoleDischarge) {c : Nat}
    (hc : e.chute = some c) (hm : e.misses = 2) (howner : e.owner = .console ∨ w.ask c = none) :
    frameEnd l br w = ((w.takenUp br []).without e id).post e.owner .fires
      (.dischargeDone e.carrier c .recirculated e.ref 3 l.tracker.revolution) := by
  have howner : e.owner = .console ∨ (w.takenUp br []).ask c = none := by
    rwa [Work.ask, Work.takenUp, Work.setRing_asks]
  have hended : missEntry l e (w.takenUp br []) = ((w.takenUp br []).without e id).post e.owner .fires
      (.dischargeDone e.carrier c .recirculated e.ref 3 l.tracker.revolution) :=
    (missEntry_third l hm ho).trans
      (endDischarge_eq l .recirculated (e := { e with misses := 3, state := .waiting, requested := false }) hc howner)
  have hring : (((w.takenUp br []).without e id).post e.owner .fires
      (.dischargeDone e.carrier c .recirculated e.ref 3 l.tracker.revolution)).ring br =
        ((w.takenUp br []).ring br).withdraw fun j => decide (j ≠ .fire e.seq) := by
    cases br <;> rfl
  refine frameEnd_fire_declined hrun hdown hacks hfireq hyield hjob hgrant
    ((grantFire_missed ((Work.takenUp_entryAt ..).trans he) hw hr ((skips_takenUp ..).trans hs) hslack).trans
      (congrArg (·, none) hended)) ?_ ?_ <;> rw [hring, Work.takenUp_ring]
  · exact hacks
  · simp [Ring.waiting, Ring.withdraw, hdrive, hrelay]

end

end Sys2Proof.Machine

open Sys2Proof Sys2Proof.Machine

/-- Settles O46: a move that reaches the fire point finds the entry due, and the end of a frame offers the grant to the
request in front of the FIRE queue. -/
theorem fireIsGranted : Obligations.FireIsGranted := by
  unfold Obligations.FireIsGranted
  refine ⟨?_, ?_⟩
  · intro s a b g e p c x tr up moved hq hg _ hx _ hl hlevel hhome hwin hfires hreach horigin hc hp r at' pass skipped now
    let l : Loop := { s.loop with tracker := moved }
    have hlg : l.geometry = some g := hg
    have hlen : l.length = g.length := by rw [Loop.length, hlg]
    have hexec : exec (.encoderEvent a b) s =
        .next ({ s with loop := l, work := present l x tr.homeDist up s.work } : State).settle :=
      exec_encoderEvent_forward hg hx hl hlevel (pos_of_reaches hreach) hhome
    have found := present_entry (l := l) hwin hfires tr.homeDist (hlen ▸ hreach)
    have hpass :
        passRevolution l.length l.tracker.revolution (tr.homeDist + forward l.length x e.firePoint) = pass := by
      rw [hlen]
      rfl
    rw [hpass] at found
    have done {w : Work} (hdue : foundDue l pass e.seq s.work = w) (ho : w.outbox = s.work.outbox)
        (hd : w.dist = s.work.dist) : exec (.encoderEvent a b) s = now w := by
      rw [hexec, found, hdue]
      exact congrArg _ (State.Quiet.settle (hq.of_work ho hd))
    refine ⟨fun h => done (foundDue_again hfires h) rfl rfl, fun hw hr hlast => ⟨fun hs => ?_,
      fun hs hrun hn hd => ?_, fun hs hd hm => ?_⟩⟩
    · exact done (foundDue_discharge_skipped (l := l) hfires hw hr hlast horigin hc hp hs) rfl rfl
    · exact done (foundDue_discharge_joins (l := l) hfires hw hr hlast horigin hc hp hs hlg hrun hn hd)
        (Work.setRing_outbox ..) (Work.setRing_dist ..)
    · exact done (foundDue_discharge_counts (l := l) hfires hw hr hlast horigin hc hp hs hlg hd hm) rfl rfl
  · intro s g q rest e tag x f0 r tr hq hg hx hrun hdown hacks hfireq hjob hnode hyield hout htag hfree htaken he hw hr
      past sent idle
    have hfreeTag : r.freeTag = some tag := Ring.freeTag_eq htag hfree htaken
    have hgrant : grantable s.loop g.linkBranch { r with downlink := none } q = true :=
      grantable_fire (r := { r with downlink := none }) hg hfreeTag hjob hnode hout
    have hwithin : withinSlack s.loop e = true ↔ past ≤ g.slack := withinSlack_iff hg hx e
    have done {w : Work} (h : frameEnd s.loop g.linkBranch s.work = w) (ho : w.outbox = s.work.outbox)
        (hd : w.dist = s.work.dist) : exec (.downlinkFrameEnd g.linkBranch) s = .next { s with work := w } :=
      (congrArg (fun v : Work => Host.Outcome.next (State.settle { s with work := v })) h).trans
        (congrArg _ (State.Quiet.settle (hq.of_work ho hd)))
    have leaves (hs : skips s.loop s.work e = false) (hslack : past ≤ g.slack) :=
      frameEnd_fire_sent hrun hdown hacks hfireq hyield hjob hgrant he hw hr hs (hwithin.2 hslack) hfreeTag
    refine ⟨?_, ?_, ?_⟩
    · intro c p side ho hc hp hside skipped
      have hskips : skips s.loop s.work e = true ↔ skipped := skips_discharge ho hc hp
      have haction : fireAction s.work e = .discharge e.carrier side := by
        simp [fireAction, hc, Work.sideOf, hp, hside]
      refine ⟨fun hs hslack => ?_, ?_⟩
      · have h := leaves (Bool.eq_false_iff.2 (mt hskips.1 hs)) hslack
        rw [fireSent_discharge _ ho, haction] at h
        exact done h (Work.setRing_outbox ..) (Work.setRing_dist ..)
      · rintro rfl hdrive hrelay
        refine ⟨fun hs => ?_, fun hs hslack hm => ?_, fun hs hslack hm howner => ?_⟩
        · exact done (frameEnd_fire_skipped hrun hdown hacks hfireq hyield hjob hgrant hdrive hrelay he hw hr
            (hskips.2 hs)) (Work.setRing_outbox ..) (Work.setRing_dist ..)
        · exact done (frameEnd_fire_misses hrun hdown hacks hfireq hyield hjob hgrant hdrive hrelay he hw hr
            (Bool.eq_false_iff.2 (mt hskips.1 hs)) (Bool.eq_false_iff.2 (mt hwithin.1 (Nat.not_le.2 hslack))) hm)
            (Work.setRing_outbox ..) (Work.setRing_dist ..)
        · intro others left
          have h := frameEnd_fire_ends hrun hdown hacks hfireq hyield hjob hgrant hdrive hrelay he hw hr
            (Bool.eq_false_iff.2 (mt hskips.1 hs)) (Bool.eq_false_iff.2 (mt hwithin.1 (Nat.not_le.2 hslack)))
            ho hc hm howner
          rw [Work.takenUp, Work.without_setRing] at h
          have quiet : State.Quiet { s with work := left.withdraw others } :=
            hq.of_work (Work.setRing_outbox ..) (Work.setRing_dist ..)
          exact (congrArg (fun v : Work => Host.Outcome.next (State.settle { s with work := v })) h).trans
            (congrArg _ (State.settle_post quiet ..))
    · intro c u p n side t i ho htrial hplan hc hp hside hu hn hi hl hv hs hfp hfn hroom hpair hslack fired armed
      have haction : fireAction s.work e = .discharge e.carrier side := by
        simp [fireAction, hc, Work.sideOf, hp, hside]
      have h := leaves (skips_item ho hc hp hu hn hl hv hs hfp hfn hroom hpair) hslack
      rw [fireSent_item hg ho htrial hplan hi hc hp hu hn, haction] at h
      exact done h (Work.setRing_outbox ..) (Work.setRing_dist ..)
    · intro t speed time car ho hc htrial hplan hspeed htime hcar hl hv hslack
      have hskips : skips s.loop s.work e = !decide (car.load = .empty) := skips_jog ho hc hcar hl hv
      have haction : fireAction s.work e = .jog e.carrier speed time := by
        simp [fireAction, hc, htrial, hplan, hspeed, htime]
      refine ⟨fun hempty => ?_, ?_⟩
      · have h := leaves (by simp [hskips, hempty]) hslack
        rw [fireSent_jog _ ho htrial hplan, haction] at h
        exact done h (Work.setRing_outbox ..) (Work.setRing_dist ..)
      · rintro hload rfl hdrive hrelay
        exact done (frameEnd_fire_skipped hrun hdown hacks hfireq hyield hjob hgrant hdrive hrelay he hw hr
          (by simp [hskips, hload])) (Work.setRing_outbox ..) (Work.setRing_dist ..)
end

section
/-! ## The window an event is judged against (R27, R106) -/

namespace Sys2Proof.Machine

section
variable {g : Geometry} {xc : Nat}

/-- The corrected position `xc` lies in the candidate span of window `y` (R106). -/
def Window.Spans (g : Geometry) (xc : Nat) (y : Window) : Prop :=
  (signedDiff g.length xc y.xexp).natAbs ≤ y.te + g.grace

/-- Window `y` is judged before window `z`: it is nearer, or as near and armed no later (R106). -/
def Window.Precedes (g : Geometry) (xc : Nat) (y z : Window) : Prop :=
  (signedDiff g.length xc y.xexp).natAbs < (signedDiff g.length xc z.xexp).natAbs ∨
    ((signedDiff g.length xc y.xexp).natAbs = (signedDiff g.length xc z.xexp).natAbs ∧ y.order ≤ z.order)

/-- `best` is the window of `ws` that an event at `xc` is judged against, with its deviation. -/
def NearestWindow (g : Geometry) (xc : Nat) (ws : List Window) : Option (Window × Int) → Prop
  | none => ∀ y ∈ ws, ¬y.Spans g xc
  | some (y, d) => y ∈ ws ∧ y.Spans g xc ∧ d = signedDiff g.length xc y.xexp ∧
      ∀ z ∈ ws, z.Spans g xc → y.Precedes g xc z

theorem nearestWindow_better {ws : List Window} {best : Option (Window × Int)} (h : NearestWindow g xc ws best)
    (x : Window) : NearestWindow g xc (ws ++ [x]) (betterCandidate g xc best x) := by
  have hmem {y : Window} : y ∈ ws ++ [x] ↔ y ∈ ws ∨ y = x := by simp
  unfold betterCandidate
  by_cases hx : x.Spans g xc
  · rw [if_neg (Nat.not_lt.2 hx)]
    cases best with
    | none =>
      refine ⟨hmem.2 (.inr rfl), hx, rfl, fun z hz hs => ?_⟩
      rcases hmem.1 hz with hz | rfl
      · exact absurd hs (h z hz)
      · exact .inr ⟨rfl, le_rfl⟩
    | some b =>
      obtain ⟨y, d⟩ := b
      obtain ⟨hy, hs, rfl, hmin⟩ := h
      dsimp only
      split
      · next hlt =>
        refine ⟨hmem.2 (.inr rfl), hx, rfl, fun z hz hz' => ?_⟩
        simp only [Bool.or_eq_true, Bool.and_eq_true, decide_eq_true_eq, beq_iff_eq] at hlt
        rcases hmem.1 hz with hz | rfl
        · have := hmin z hz hz'
          unfold Window.Precedes at this ⊢
          omega
        · exact .inr ⟨rfl, le_rfl⟩
      · next hge =>
        refine ⟨hmem.2 (.inl hy), hs, rfl, fun z hz hz' => ?_⟩
        simp only [Bool.or_eq_true, Bool.and_eq_true, decide_eq_true_eq, beq_iff_eq] at hge
        rcases hmem.1 hz with hz | rfl
        · exact hmin z hz hz'
        · unfold Window.Precedes
          omega
  · rw [if_pos (Nat.lt_of_not_le hx)]
    cases best with
    | none =>
      intro y hy
      rcases hmem.1 hy with hy | rfl
      · exact h y hy
      · exact hx
    | some b =>
      obtain ⟨hy, hs, hd, hmin⟩ := h
      refine ⟨hmem.2 (.inl hy), hs, hd, fun z hz hz' => ?_⟩
      rcases hmem.1 hz with hz | rfl
      · exact hmin z hz hz'
      · exact absurd hz' hx

theorem nearestWindow_foldl (ws : List Window) : NearestWindow g xc ws (ws.foldl (betterCandidate g xc) none) := by
  induction ws using List.reverseRecOn with
  | nil => exact fun y hy => absurd hy List.not_mem_nil
  | append_singleton ws x ih =>
    rw [List.foldl_append]
    exact nearestWindow_better ih x

/-- The candidate is the nearest of the sensor's windows (R106). -/
theorem candidate_nearest (g : Geometry) (sensor xc : Nat) (w : Work) :
    NearestWindow g xc (w.windows.filter fun x => x.sensor == sensor) (candidate g sensor xc w) :=
  nearestWindow_foldl _

/-- The three verdicts of an event, by its deviation (R27). -/
theorem verdictOf_iff (te : Nat) (d : Int) :
    (verdictOf te d = .hit d ↔ d.natAbs ≤ te) ∧ (verdictOf te d = .early d ↔ d < -(te : Int)) ∧
    (verdictOf te d = .late d ↔ (te : Int) < d) := by
  unfold verdictOf
  split_ifs <;> (simp; omega)

/-! ### One window -/

variable {sensor : Nat} {w : Work} {y : Window} (hw : w.windows = [y]) (hs : y.sensor = sensor)
include hw hs

theorem candidate_one : candidate g sensor xc w =
    if (signedDiff g.length xc y.xexp).natAbs > y.te + g.grace then none
    else some (y, signedDiff g.length xc y.xexp) := by
  simp [candidate, betterCandidate, hw, hs]

/-- An event beyond the candidate span, or before a window with the coasted mark, is unclaimed (R106, R109). -/
theorem judge_unclaimed (l : Loop)
    (h : y.te + g.grace < (signedDiff g.length xc y.xexp).natAbs ∨ y.coasted = true) :
    judge l g sensor xc w = w := by
  rw [judge, candidate_one hw hs]
  split_ifs with hfar
  · rfl
  · simp [h.resolve_left hfar]

variable (hm : y.coasted = false) (hn : (signedDiff g.length xc y.xexp).natAbs ≤ y.te + g.grace)
include hm hn

/-- An event early for its window leaves it armed (R106). -/
theorem judge_early (l : Loop) (hd : signedDiff g.length xc y.xexp < -(y.te : Int)) :
    judge l g sensor xc w = handVerdict l (reportOf l y (.early (signedDiff g.length xc y.xexp)) (some xc)) w := by
  obtain ⟨-, hearly, -⟩ := verdictOf_iff y.te (signedDiff g.length xc y.xexp)
  simp [judge, candidate_one hw hs, Nat.not_lt.2 hn, hm, hearly.2 hd]

/-- A hit and a late event end their window (R106). -/
theorem judge_ends (l : Loop) {v : Verdict} (hv : verdictOf y.te (signedDiff g.length xc y.xexp) = v)
    (hd : -(y.te : Int) ≤ signedDiff g.length xc y.xexp) :
    judge l g sensor xc w = endWindow l v (some xc) w y.order := by
  have hnot : ∀ d, v ≠ .early d := by
    rintro d rfl
    unfold verdictOf at hv
    split_ifs at hv
    omega
  rw [judge, candidate_one hw hs, if_neg (Nat.not_lt.2 hn)]
  dsimp only
  rw [hm, hv]
  cases v with
  | early d => exact absurd rfl (hnot d)
  | _ => rfl

end

/-! ### The event of a SENSOR (R26, R97, R98) -/

section
variable {s : State} {br : Branch} {f : EventFields} {n : Node} {p : Point} {g : Geometry} {x : Nat}
  (hg : s.loop.tracker.geometry = some g) (hlaw : g.Law) (hx : s.loop.tracker.pos = some x)
  (hl : s.loop.tracker.lock = .locked) (hf : f.passes = true) (hrun : (s.work.ring br).state = .running)
  (hdown : (s.work.ring br).downlink ≠ none) (hacks : (s.work.ring br).acks.length < 32)
  (hnode : (s.work.ring br).node f.node = some n) (hon : n.state = .online) (hseq : f.seq = n.expected)
  (hp : eventPoint br f s.work = some p) (hkind : p.kind = .sensor)
  (hedge : p.config.edge = some (if f.falling then .falling else .rising)) (hage : f.age ≤ g.maxAge)
  (hch : ∀ ch : Channel, some ch ∈ s.channels → ch.mode = .accept → ch.tag ≠ p.tag)
include hg hlaw hx hl hf hrun hdown hacks hnode hon hseq hp hkind hedge hage hch

/-- In LOCKED a fresh event of the point's edge is judged, but in a fenced zone. -/
theorem exec_sensorEvent :
    exec (.eventFrame br f) s = .next ({ s with
      work :=
        if s.loop.fences.getLsbD p.config.zone then s.work.setRing br ((s.work.ring br).accepts f n)
        else judge s.loop g p.tag
          (((x : Int) - ((s.loop.tracker.v * f.age + 10000) / 20000 : Nat)) % g.length).toNat
          (s.work.setRing br ((s.work.ring br).accepts f n)) } : State).settle := by
  obtain ⟨-, -, -, -, -, -, -, -, -, -, -, ⟨-, hmax⟩, -⟩ := hlaw
  have hheld : min f.age 4095 = f.age := min_eq_left (hage.trans hmax)
  have hfresh : isStale (some g) f.age = false := by
    simpa [isStale, heldAge, hheld] using hage
  have hedge : p.config.edge = some (EventFields.edgeOf f) := hedge
  have hgeo : s.loop.geometry = some g := hg
  rw [exec_eventFrame hf hrun hdown hacks hnode hon hseq hp hch, measure_locked hgeo hl hx p hfresh, hheld]
  simp only [dispatch, hkind, sensorEvent, hgeo, hedge, Loop.fenced]
  cases s.loop.fences.getLsbD p.config.zone <;> simp

end

end Sys2Proof.Machine
end

section
/-! ## The window of a sensor trial (R105, R108, R110, R116, R124) -/

namespace Sys2Proof.Machine

section
variable {w : Work} {t : Trial} (h : w.plan = [t]) (l : Loop)
include h

/-- A hit short of the streak is counted (R117). -/
theorem count_hit_of_plan (ha : t.state = .active) {d : Int} (hneed : t.streak + 1 < t.need) :
    count l t.id (.hit d) w = { w with plan := [{ t with streak := t.streak + 1, stats := t.stats.add d }] } :=
  (count_hit l (Work.trial_of_plan h) ha hneed).trans (Work.setTrial_of_plan h rfl)

/-- A trial that is not ACTIVE does not arm anew (R123). -/
theorem rearm_inactive (ha : t.state ≠ .active) (start : Option Nat) : rearm l t.id start w = w := by
  simp [rearm, Work.trial_of_plan h, Trial.isActive, ha]

end

/-! ### An event judged against it -/

section
variable {l : Loop} {g : Geometry} {w : Work} {t : Trial} {p : Point} {y : Window} {xc : Nat}
  (hg : l.geometry = some g) (h : w.plan = [t]) (hw : w.windows = [y]) (hp : w.point p.tag = some p)
  (ht : t.target = p.tag) (ha : t.state = .active) (hy : y.trial = t.id) (hs : y.sensor = p.tag)
  (hpurpose : y.purpose = .sensorPass) (hm : y.coasted = false)
  (hn : (signedDiff g.length xc y.xexp).natAbs ≤ y.te + g.grace)

include h hw hs hpurpose hy ha hm hn in
/-- An early event is a fail, and its window stays armed (R106, R124). -/
theorem judge_sensor_early (hd : signedDiff g.length xc y.xexp < -(y.te : Int)) (hlim : t.fails + 1 < t.limit) :
    judge l g p.tag xc w = { w with plan := [{ t with fails := t.fails + 1, streak := 0 }] } := by
  rw [judge_early hw hs hm hn l hd]
  simp only [handVerdict, reportOf, hpurpose, sensorVerdict, hy]
  exact count_fail_of_plan h l ha hlim

variable (hc : 0 < g.carriers) (hl : l.tracker.lock = .locked)
include hg h hw hp ht ha hy hs hpurpose hm hn hc hl

/-- A hit is counted, and the trial arms at the carrier after the window's (R106, R117, R124). -/
theorem judge_sensor_hit (hd : (signedDiff g.length xc y.xexp).natAbs ≤ y.te) (hneed : t.streak + 1 < t.need) :
    judge l g p.tag xc w =
      w.armedAt g p { t with streak := t.streak + 1, stats := t.stats.add (signedDiff g.length xc y.xexp) }
        ((y.carrier + 1) % g.carriers) := by
  obtain ⟨hhit, -, -⟩ := verdictOf_iff y.te (signedDiff g.length xc y.xexp)
  have hnext : l.nextCarrier y.carrier = (y.carrier + 1) % g.carriers := by rw [Loop.nextCarrier, Loop.carriers, hg]
  have hplan : ({ w with windows := [] } : Work).plan = [t] := h
  rw [judge_ends hw hs hm hn l (hhit.2 hd) (by omega), endWindow_sensor hw hpurpose]
  simp only [sensorVerdict, reportOf, hy, hnext, windowGone_of_plan hplan]
  rw [count_hit_of_plan (t := { t with armed := none }) rfl l ha hneed]
  exact rearm_of_plan (t := { t with
    armed := none, streak := t.streak + 1, stats := t.stats.add (signedDiff g.length xc y.xexp) })
    (w := { w with windows := [], plan := _ }) hg hl hc rfl rfl (ht ▸ hp) ha rfl _

/-- A late event is a fail, and the trial arms at the carrier after the window's (R106, R117, R124). -/
theorem judge_sensor_late (hd : (y.te : Int) < signedDiff g.length xc y.xexp) (hlim : t.fails + 1 < t.limit) :
    judge l g p.tag xc w =
      w.armedAt g p { t with fails := t.fails + 1, streak := 0 } ((y.carrier + 1) % g.carriers) := by
  obtain ⟨-, -, hlate⟩ := verdictOf_iff y.te (signedDiff g.length xc y.xexp)
  have hnext : l.nextCarrier y.carrier = (y.carrier + 1) % g.carriers := by rw [Loop.nextCarrier, Loop.carriers, hg]
  have hplan : ({ w with windows := [] } : Work).plan = [t] := h
  rw [judge_ends hw hs hm hn l (hlate.2 hd) (by omega), endWindow_sensor hw hpurpose]
  simp only [sensorVerdict, reportOf, hy, hnext, windowGone_of_plan hplan]
  rw [count_fail_of_plan (t := { t with armed := none }) rfl l ha hlim]
  exact rearm_of_plan (t := { t with armed := none, fails := t.fails + 1, streak := 0 })
    (w := { w with windows := [], plan := _ }) hg hl hc rfl rfl (ht ▸ hp) ha rfl _

end

/-! ### A loss of lock (R110, R116) -/

theorem Work.withdrawQuery_eq (w : Work) (order : Nat) : w.withdrawQuery order = w.withdraw (keepsQueries order) := by
  refine congrArg w.withdraw (funext fun j => ?_)
  cases j <;> simp [keepsQueries, bne, Bool.beq_eq_decide_eq]

/-- The core with its one trial `t` HELD for the lock, without window and polls (R110, R116, R138). -/
def Work.heldUnlocked (w : Work) (t : Trial) : Work :=
  { w with
    plan := [{ t with state := .held, reasons := ⟨true, false, false, false⟩, armed := none }]
    windows := []
    polls := w.polls.filter fun q => decide (q.trial ≠ t.id)
    ringA := w.ringA.withdraw (keepsQueries t.order)
    ringB := w.ringB.withdraw (keepsQueries t.order) }

section
variable {w : Work} {t : Trial} (h : w.plan = [t])
include h

/-- A sensor trial is HELD as the lock goes (R116). -/
theorem reevaluate_unlocked {l : Loop} (hkind : t.kind = .sensor) (ha : t.state = .active)
    (hspace : t.reasons.noSpace = false) (hl : l.tracker.lock ≠ .locked) (hf : zoneFenced l w t.target = false) :
    reevaluate l w = stopPolls t { w with
      plan := [{ t with state := .held, reasons := ⟨true, false, false, false⟩ }] } := by
  have hreasons : reasonsNow l w t = ⟨true, false, false, false⟩ := by
    simp [reasonsNow, hkind, Loop.isLocked, hl, workFenced, hf]
  have hrun : t.isRunning = true := by simp [Trial.isRunning, ha]
  have hset (u : Trial) (hu : t.id = u.id) : w.setTrial u = { w with plan := [u] } := Work.setTrial_of_plan h hu
  simp only [reevaluate, h, List.map_cons, List.map_nil, List.foldl_cons, List.foldl_nil, reevaluateOne,
    Work.trial_of_plan h, hrun, if_true, hreasons]
  simp [HoldReasons.others, goHeld, hset, hspace]

/-- Lock is lost: the trial is HELD, and then its window is cancelled (R110, R116, log 8). -/
theorem lockWork_unlocked {before l : Loop} {y : Window} (hw : w.windows = [y]) (hkind : t.kind = .sensor)
    (ha : t.state = .active) (hspace : t.reasons.noSpace = false) (hf : zoneFenced l w t.target = false)
    (hy : y.trial = t.id) (hpurpose : y.purpose = .sensorPass) (hb : before.tracker.lock.placed = true)
    (hl : l.tracker.lock.placed = false) : lockWork before l w = w.heldUnlocked t := by
  have hlock : l.tracker.lock ≠ .locked := fun h => by simp [h, Lock.placed] at hl
  have hwin (v : Work) (hv : v.windows = [y]) :
      cancelWindows before l (fun _ => true) v = endWindow l .cancelled none v y.order := by
    simp [cancelWindows, hv, tableOrder, sortBy, insertBy]
  rw [lockWork, reevaluate_unlocked h hkind ha hspace hlock hf]
  simp only [hb, hl, Bool.not_false, Bool.and_self, if_true]
  rw [hwin _ (by exact hw), endWindow_sensor (by exact hw) hpurpose]
  simp only [sensorVerdict, reportOf, hy]
  rw [windowGone_of_plan (t := { t with state := .held, reasons := ⟨true, false, false, false⟩ }) rfl]
  rw [rearm_inactive (t := { t with state := .held, reasons := ⟨true, false, false, false⟩, armed := none }) rfl l
    (by simp)]
  simp [stopPolls, Work.withdrawQuery_eq, Work.withdraw, Work.heldUnlocked, bne, Bool.beq_eq_decide_eq]

end

end Sys2Proof.Machine
end

section
/-! ## The entry window of a chute item (R104, R125 to R128) -/

namespace Sys2Proof.Machine

/-! ### What finds nothing to do -/

/-- A claim pass that finds no claimable carrier changes nothing (R125). -/
theorem claimPass_unclaimable (l : Loop) {w : Work} (h : ∀ k, w.claimable k = false) : claimPass l w = w :=
  List.foldl_fixed' (fun k => by simp [claimOne, h k]) _

section
variable {w : Work} {t : Trial} (h : w.plan = [t]) (l : Loop)
include h

/-- No announcement reaches a trial that does not wait for a window (R104, R116). -/
theorem retry_of_plan (hspace : t.reasons.noSpace = false) (p : Trial → Bool) : retry l p w = w := by
  simp [retry, h, retryOne, Work.trial_of_plan h, HoldReasons.onlyNoSpace, hspace]

theorem announceSpace_of_plan (hspace : t.reasons.noSpace = false) (before : Nat) (y : Window) :
    announceSpace l before y w = w := by
  unfold announceSpace
  cases y.purpose <;> simp [retry_of_plan h l hspace]

/-! ### A result counted (R117) -/

/-- The trial with a result counted, where it is ACTIVE (R117). -/
def Trial.counted (t : Trial) : Evidence → Trial
  | .hit d => t.hit d
  | .fail => t.failed
  | .nothing => t

/-- Short of its limits a trial only counts (R117). -/
theorem count_of_plan (hgo : t.GoesOn) (x : Evidence) : count l t.id x w = { w with plan := [t.counted x] } := by
  obtain ⟨hneed, hlim⟩ := hgo
  have hsame : w = { w with plan := [t] } := by rw [← h]
  by_cases ha : t.state = .active
  · cases x with
    | hit d => rw [count_hit_of_plan h l ha hneed, Trial.counted, Trial.hit, if_pos ha]
    | fail => rw [count_fail_of_plan h l ha hlim, Trial.counted, Trial.failed, if_pos ha]
    | nothing => simpa [count, Work.trial_of_plan h, Trial.isActive, ha, Trial.counted] using hsame
  · rw [count_inactive l (Work.trial_of_plan h) ha]
    cases x <;> simpa only [Trial.counted, Trial.hit, Trial.failed, if_neg ha] using hsame

end

/-! ### The end of an item (R128) -/

/-- What a count leaves of its trial. -/
theorem Trial.counted_id (t : Trial) (x : Evidence) : (t.counted x).id = t.id := by
  cases x <;> simp only [Trial.counted, Trial.hit, Trial.failed] <;> split <;> rfl

theorem Trial.counted_items (t : Trial) (x : Evidence) : (t.counted x).items = t.items := by
  cases x <;> simp only [Trial.counted, Trial.hit, Trial.failed] <;> split <;> rfl

/-- An item that ends is counted, and leaves its trial (R117, R128). -/
theorem Trial.ended_eq (t : Trial) (i : Item) (o : ItemOutcome) (d : Int) :
    t.ended i o d = { Trial.counted { t with outcomes := t.outcomes.add o } (o.evidence d) with
      items := t.items.filter fun j => decide (j.index ≠ i.index) } := by
  unfold Trial.ended
  cases o <;> simp only [ItemOutcome.evidence, Trial.counted, Trial.hit, Trial.failed] <;> split <;> rfl

section
variable {w : Work} {t : Trial} (h : w.plan = [t]) (l : Loop)
include h

/-- An item leaves its trial; the claim pass that follows finds nothing (R125, R128). -/
theorem itemLeaves_of_plan (hclaim : ∀ k, w.claimable k = false) (index : Nat) (o : ItemOutcome) :
    itemLeaves l t.id index o w =
      { w with plan := [{ t with items := t.items.filter fun j => decide (j.index ≠ index) }] } := by
  have hset : w.setTrial { t with items := t.items.filter fun j => j.index != index } =
      { w with plan := [{ t with items := t.items.filter fun j => decide (j.index ≠ index) }] } := by
    rw [Work.setTrial_of_plan h (by rfl)]
    simp only [bne, Bool.beq_eq_decide_eq, decide_not]
  simp only [itemLeaves, Work.trial_of_plan h, hset]
  rw [claimPass_unclaimable l (by exact hclaim), ite_self]

/-- Where nothing can be claimed, the end of an item changes its trial alone (R128). -/
theorem itemEnds_of_plan (hgo : t.GoesOn) (hclaim : ∀ k, w.claimable k = false) (i : Item) (o : ItemOutcome)
    (d : Int) : itemEnds l t.id i.index o d w = { w with plan := [t.ended i o d] } := by
  let counted : Trial := Trial.counted { t with outcomes := t.outcomes.add o } (o.evidence d)
  have hid : t.id = counted.id := (Trial.counted_id { t with outcomes := t.outcomes.add o } (o.evidence d)).symm
  have hcounted : count l t.id (o.evidence d) (w.setTrial { t with outcomes := t.outcomes.add o }) =
      { w with plan := [counted] } := by
    rw [Work.setTrial_of_plan h (by rfl)]
    exact count_of_plan (t := { t with outcomes := t.outcomes.add o }) rfl l hgo _
  rw [itemEnds, Work.trial_of_plan h]
  dsimp only
  rw [hcounted, hid, itemLeaves_of_plan (t := counted) rfl l (by exact hclaim), Trial.ended_eq]
  simp only [counted, Trial.counted_items]

end

/-! ### The decision of an item (R127, R128) -/

/-- What the removal of an entry leaves (R79, R94). -/
theorem removeEntry_eq (e : Entry) (w : Work) : removeEntry e w = w.without e id := by
  rw [removeEntry, Work.clearDest_eq, Work.withdrawFire_eq]
  simp [Work.without, Work.withdraw, bne, Bool.beq_eq_decide_eq]

/-- The carrier state of an outcome is given to a carrier LOADED for CONSOLE (R128). -/
theorem applyLoad_eq (k : Nat) (x : LoadState) (w : Work) :
    applyLoad k x w = { w with carriers := w.carriers.modify k fun c => { c with load := x.whereConsole c.load } } := by
  unfold applyLoad
  split
  · next h =>
    obtain ⟨c, ref, dest, hc, hl⟩ := (w.loadedFor_iff k .console).1 h
    refine congrArg (fun cs => { w with carriers := cs }) (modify_congr_at fun d hd => ?_)
    rw [Option.some.inj (hd.symm.trans hc), hl]
    rfl
  · next h =>
    have hstay : w.carriers.modify k (fun c => { c with load := x.whereConsole c.load }) = w.carriers := by
      rw [modify_congr_at (g := id) fun d hd => ?_, List.modify_id]
      have hother : x.whereConsole d.load = d.load := by
        unfold LoadState.whereConsole
        split
        · next ref dest hl => exact absurd ((w.loadedFor_iff k .console).2 ⟨d, ref, dest, hd, hl⟩) h
        · rfl
      rw [hother]
      rfl
    rw [hstay]

/-- An entry leaves with the carrier state of its item's outcome (R128). -/
theorem removeEntry_applyLoad (w : Work) (e : Entry) (x : LoadState) :
    removeEntry e (applyLoad e.carrier x w) = w.without e x.whereConsole := by
  rw [removeEntry_eq, applyLoad_eq]
  simp [Work.without, List.modify_modify_eq, Function.comp_def]

/-- The table of R127 leaves no carrier LOADED. -/
theorem outcomeTable_load (how : ItemReply) (v : Verdict) (k : Link) (ref : BitVec 32) (dest : Option Nat) :
    (outcomeTable how v).2 ≠ .loaded k ref dest := by
  cases how <;> cases v <;> simp [outcomeTable]

theorem LoadState.whereConsole_unbound {x : LoadState} (hx : ∀ k ref dest, x ≠ .loaded k ref dest) (y : LoadState)
    (ref : BitVec 32) (dest : Option Nat) : (x.whereConsole y).unbound ≠ .loaded .console ref dest := by
  unfold LoadState.whereConsole
  split
  · cases x with
    | loaded k ref' dest' => exact absurd rfl (hx k ref' dest')
    | _ => simp [LoadState.unbound]
  · next hy =>
    cases y with
    | loaded k ref' dest' =>
      intro h
      simp only [LoadState.unbound, LoadState.loaded.injEq] at h
      exact hy ref' dest' (by rw [h.1])
    | _ => simp [LoadState.unbound]

/-- As an item ends, no carrier is claimable (R125). -/
theorem Work.without_unclaimable {w : Work} {e : Entry} (hn : w.NoClaimBut e) {x : LoadState}
    (hx : ∀ k ref dest, x ≠ .loaded k ref dest) (k : Nat) : (w.without e x.whereConsole).claimable k = false := by
  refine Bool.eq_false_iff.2 fun h => ?_
  simp only [Work.claimable, Bool.and_eq_true, Option.isNone_iff_eq_none] at h
  obtain ⟨hload, hfree⟩ := h
  obtain ⟨c, ref, dest, hc, hl⟩ := (Work.loadedFor_iff _ k .console).1 hload
  simp only [Work.without, List.getElem?_modify, Option.map_eq_map, Option.map_eq_some_iff] at hc
  obtain ⟨c', hc', rfl⟩ := hc
  by_cases hk : e.carrier = k
  · rw [if_pos hk] at hl
    exact LoadState.whereConsole_unbound hx c'.load ref dest hl
  · rw [if_neg hk] at hl
    obtain hcarrier | ⟨z, hz, hcarrier, hseq⟩ := hn k c' ref dest hc' hl
    · exact hk hcarrier.symm
    · have := (Work.entryOf_isSome (w.without e x.whereConsole) k).2
        ⟨z, List.mem_filter.2 ⟨hz, decide_eq_true hseq⟩, hcarrier⟩
      simp [hfree] at this

/-! ### A verdict for a FIRED item (R105, R127) -/

/-- An item that another replaces is gone with it. -/
theorem filter_setItem (items : List Item) (j : Item) :
    ((items.map fun k => if k.index = j.index then j else k).filter fun k => decide (k.index ≠ j.index)) =
      items.filter fun k => decide (k.index ≠ j.index) := by
  induction items with
  | nil => rfl
  | cons k items ih => by_cases hk : k.index = j.index <;> simp_all

theorem Trial.ended_setItem (t : Trial) (j : Item) (o : ItemOutcome) (d : Int) :
    (t.setItem j).ended j o d = t.ended j o d := by
  simp only [Trial.ended, Trial.setItem, filter_setItem]

/-- A decided item: its entry leaves with the carrier state of the outcome, and the item ends (R128). -/
theorem decideItem_of_plan (l : Loop) {w : Work} {t : Trial} {i : Item} {e : Entry} (h : w.plan = [t])
    (hf : w.fires = [e]) (he : e.carrier = i.carrier) (hgo : t.GoesOn) (hn : w.NoClaimBut e) (o : ItemOutcome)
    {x : LoadState} (hx : ∀ k ref dest, x ≠ .loaded k ref dest) (d : Int) :
    decideItem l t.id i o x d w = { w.without e x.whereConsole with plan := [t.ended i o d] } := by
  have hentry : (applyLoad i.carrier x w).entryOf i.carrier = some e := by
    rw [applyLoad_eq]
    simp [Work.entryOf, hf, he]
  have hremoved : removeEntry e (applyLoad i.carrier x w) = w.without e x.whereConsole :=
    he ▸ removeEntry_applyLoad w e x
  simp only [decideItem, hentry, hremoved]
  exact itemEnds_of_plan (w := w.without e x.whereConsole) h l hgo (Work.without_unclaimable hn hx) i o d

/-- The core once item `i` of the one trial `t` has its entry verdict, and its window is gone: the item holds the
verdict, or is decided with the reply it holds (R127). -/
def Work.noted (w : Work) (t : Trial) (i : Item) (e : Entry) (v : Verdict) : Work :=
  match i.reply with
  | none => { w with plan := [t.setItem { i with verdict := some v }], windows := [] }
  | some how =>
    { w.without e (LoadState.whereConsole (outcomeTable how v).2) with
      plan := [t.ended i (outcomeTable how v).1 v.hitDev], windows := [] }

theorem Work.noted_plan (w : Work) (t : Trial) (i : Item) (e : Entry) (v : Verdict) :
    ∃ u, (w.noted t i e v).plan = [u] ∧ u.reasons = t.reasons := by
  unfold Work.noted
  split
  · exact ⟨_, rfl, rfl⟩
  · next how _ =>
    refine ⟨_, rfl, ?_⟩
    rw [Trial.ended_eq]
    cases ItemOutcome.evidence v.hitDev (outcomeTable how v).1 <;>
      simp only [Trial.counted, Trial.hit, Trial.failed] <;> split <;> rfl

section
variable {w : Work} {t : Trial} {i : Item} {e : Entry} {y : Window} (l : Loop) (h : w.plan = [t])
  (hf : w.fires = [e]) (he : e.carrier = i.carrier) (hgo : t.GoesOn) (hn : w.NoClaimBut e)
  (hi : t.items.find? (fun j => j.index == i.index) = some i) (hw : w.windows = [y]) (hy : y.trial = t.id)
  (hitem : y.item = some i.index) (hpurpose : y.purpose = .chuteEntry) (hspace : t.reasons.noSpace = false)

include hf he hgo hn in
theorem tryDecide_noted (v : Verdict) :
    tryDecide l t.id { i with verdict := some v }
      { w with plan := [t.setItem { i with verdict := some v }], windows := [] } = w.noted t i e v := by
  unfold tryDecide Work.noted
  cases hr : i.reply with
  | none => rfl
  | some how =>
    dsimp only
    let held : Item := { i with verdict := some v, reply := some how }
    refine (decideItem_of_plan l (t := t.setItem held) (i := held) rfl (by exact hf) he hgo (by exact hn) _
      (outcomeTable_load how v) _).trans ?_
    rw [Trial.ended_setItem]
    rfl

/-- The item that a report names (R105). -/
theorem find_namedItem {items : List Item} {i : Item} (hi : items.find? (fun j => j.index == i.index) = some i) :
    items.find? (fun j => some i.index == some j.index) = some i := by
  have hsame : (fun j : Item => some i.index == some j.index) = fun j => j.index == i.index :=
    funext fun j => Bool.beq_comm
  rwa [hsame]

section
variable {r : VerdictReport} (hr : r.trial = t.id) (hindex : r.item = some i.index)
include h hi hr hindex

/-- A verdict that ends its window reaches the item it names (R105, R127). -/
theorem entryVerdict_of_plan (hv : ∀ d, r.verdict ≠ .early d) :
    entryVerdict l r w =
      tryDecide l t.id { i with verdict := some r.verdict }
        { w with plan := [t.setItem { i with verdict := some r.verdict }] } := by
  have hset : w.setTrial (t.setItem { i with verdict := some r.verdict }) =
      { w with plan := [t.setItem { i with verdict := some r.verdict }] } := Work.setTrial_of_plan h rfl
  simp only [entryVerdict, hr, Work.trial_of_plan h, hindex, find_namedItem hi, hset]

/-- At EARLY the item's window goes first (R127). -/
theorem entryVerdict_early {d : Int} (hd : r.verdict = .early d) :
    entryVerdict l r w =
      tryDecide l t.id { i with verdict := some (.early d) }
        (removeItemWindow l t.id i.index { w with plan := [t.setItem { i with verdict := some (.early d) }] }) := by
  have hset : w.setTrial (t.setItem { i with verdict := some (.early d) }) =
      { w with plan := [t.setItem { i with verdict := some (.early d) }] } := Work.setTrial_of_plan h rfl
  simp only [entryVerdict, hr, Work.trial_of_plan h, hindex, find_namedItem hi, hd, hset]

end

include h hf he hgo hn hi hw hy hitem hpurpose hspace

/-- The one window of a FIRED item leaves the table with its verdict, which the item takes (R104, R127). -/
theorem endWindow_item {v : Verdict} (hv : ∀ d, v ≠ .early d) (xc : Option Nat) :
    endWindow l v xc w y.order = w.noted t i e v := by
  have hwin : w.window y.order = some y := by simp [Work.window, hw]
  have hdrop : w.dropWindow y.order = { w with windows := [] } := by simp [Work.dropWindow, hw]
  have hnoted : handVerdict l (reportOf l y v xc) { w with windows := [] } = w.noted t i e v := by
    rw [handVerdict, show (reportOf l y v xc).purpose = .chuteEntry from hpurpose]
    dsimp only
    rw [entryVerdict_of_plan l (by exact h) hi (by exact hy) (by exact hitem) (by exact hv)]
    exact tryDecide_noted l hf he hgo hn v
  obtain ⟨u, hu, hreasons⟩ := w.noted_plan t i e v
  simp only [endWindow, hwin, hdrop, hnoted]
  exact announceSpace_of_plan hu l (hreasons ▸ hspace) _ _

/-- An early event removes the window too (R127). -/
theorem handVerdict_item_early (d : Int) (xc : Option Nat) :
    handVerdict l (reportOf l y (.early d) xc) w = w.noted t i e (.early d) := by
  let judged : Work := { w with plan := [t.setItem { i with verdict := some (.early d) }] }
  have hgone : removeItemWindow l t.id i.index judged = { judged with windows := [] } := by
    have hwin : judged.itemWindow t.id i.index = some y := by simp [Work.itemWindow, judged, hw, hy, hitem]
    have hdrop : judged.dropWindow y.order = { judged with windows := [] } := by simp [Work.dropWindow, judged, hw]
    simp only [removeItemWindow, hwin, removeWindow, hdrop]
    exact announceSpace_of_plan (t := t.setItem { i with verdict := some (.early d) }) rfl l hspace _ _
  rw [handVerdict, show (reportOf l y (.early d) xc).purpose = .chuteEntry from hpurpose]
  dsimp only
  rw [entryVerdict_early l h hi (by exact hy) (by exact hitem) (d := d) rfl, hgone]
  exact tryDecide_noted l hf he hgo hn (.early d)

end

end Sys2Proof.Machine
end

section
/-! ## A window's life in an event -/

namespace Sys2Proof.Machine

theorem zoneFenced_of_point {l : Loop} {w : Work} {tag : Nat} {p : Point} (hp : w.point tag = some p)
    (hf : l.fences.getLsbD p.config.zone = false) : zoneFenced l w tag = false := by
  simp [zoneFenced, hp, Loop.fenced, hf]

/-- A loss of lock holds the one sensor trial, cancels its window, and posts LOCK, and STEADY where the flag falls
(R10, R17, R18, R110, R116). -/
theorem loseLock_sensor {s : State} {t : Trial} {y : Window} {p : Point} (hq : s.Quiet) (h : s.work.plan = [t])
    (hw : s.work.windows = [y]) (hp : s.work.point t.target = some p) (hkind : t.kind = .sensor)
    (ha : t.state = .active) (hspace : t.reasons.noSpace = false)
    (hf : s.loop.fences.getLsbD p.config.zone = false) (hy : y.trial = t.id) (hpurpose : y.purpose = .sensorPass)
    (hl : s.loop.tracker.lock.placed = true) {x : Lock} (hx : x.placed = false) (c : LockCause) :
    let ns : List Notice := .lock x s.loop.tracker.revolution c ::
      if s.loop.tracker.steady then [.steady false s.loop.tracker.v s.loop.tracker.setpoint] else []
    State.Posted { s.setTracker (s.loop.tracker.loseLock x) with work := s.work.heldUnlocked t }
      (loseLock x c s).settle ns ns := by
  intro ns
  have hns : (lockNotices s.loop.tracker (s.loop.tracker.loseLock x) c).map Prod.snd = ns := by
    simp only [lockNotices, ns, Tracker.loseLock]
    cases s.loop.tracker.steady <;> rfl
  have hposted := State.settle_posting
    (s := { s.setTracker (s.loop.tracker.loseLock x) with work := s.work.heldUnlocked t }) hq
    (bothPosts (lockNotices s.loop.tracker (s.loop.tracker.loseLock x) c))
  rw [notices_bothPosts, notices_bothPosts, hns] at hposted
  rw [loseLock, lockChanged_eq]
  simp only [State.mapWork]
  rw [lockWork_unlocked (t := t) (y := y) (by exact h) (by exact hw) hkind ha hspace
    (zoneFenced_of_point (by exact hp) (by exact hf)) hy hpurpose hl hx]
  exact hposted

/-- An illegal change loses a lock that has a position (R4, R17). -/
theorem illegalMove_placed {s : State} (hl : s.loop.tracker.lock = .locked ∨ s.loop.tracker.lock = .coasting) :
    illegalMove s = loseLock .seeking .encoderFault s := by
  unfold illegalMove
  rcases hl with hl | hl <;> rw [hl]

/-! ### A change of one branch -/

theorem Work.point_setRing (w : Work) (br : Branch) (r : Ring) (tag : Nat) :
    (w.setRing br r).point tag = w.point tag := by
  cases br <;> rfl

theorem Work.setRing_withPlan (w : Work) (br : Branch) (r : Ring) (ts : List Trial) :
    ({ w.setRing br r with plan := ts } : Work) = Work.setRing { w with plan := ts } br r := by
  cases br <;> rfl

theorem Work.armedAt_setRing (w : Work) (br : Branch) (r : Ring) (g : Geometry) (p : Point) (u : Trial) (k : Nat) :
    (w.setRing br r).armedAt g p u k = (w.armedAt g p u k).setRing br r := by
  cases br <;> rfl

theorem Work.noClaimBut_setRing {w : Work} {e : Entry} (h : w.NoClaimBut e) (br : Branch) (r : Ring) :
    (w.setRing br r).NoClaimBut e := by
  cases br <;> exact h

/-! ### The window of a chute item -/

section
variable (l : Loop) {g : Geometry} {w : Work} {t : Trial} {i : Item} {e : Entry} {y : Window} {sensor xc : Nat}

/-- What a sent entry's item notes leaves the entry found due no more (R88). -/
theorem foundDue_noted (hf : w.fires = [e]) (hs : e.state = .sent) (v : Verdict) (pass : Int) :
    foundDue l pass e.seq (w.noted t i e v) = w.noted t i e v := by
  unfold Work.noted
  split
  · exact foundDue_again (by exact hf) (.inl hs)
  · simp [foundDue, Work.entryAt, Work.without, hf]

/-- A forward move that reaches the close of the one window ends it, and then finds the entry due (R88, R108). -/
theorem present_window_entry {v : Work} (hw : w.windows = [y]) (hf : w.fires = [e]) {x d : Nat} (a : Int)
    (hr : reaches l.length x d y.close = true) (hv : expireOne l w y.order = v)
    (hdue : ∀ pass, foundDue l pass e.seq v = v) : present l x a d w = v := by
  have hexpired : (reachedWindows l.length x d w.windows).foldl (expireOne l) w = v := by
    simp [hw, reachedWindows, hr, sortBy, insertBy, hv]
  simp only [present, hexpired, hf, reachedEntries]
  cases hreach : reaches l.length x d e.firePoint <;> simp [hreach, sortBy, insertBy, hdue]

/-- The noting of a verdict and a change of one branch, whose waiting fire leaves where the entry does. -/
theorem Work.noted_setRing (w : Work) (br : Branch) (r : Ring) (v : Verdict) :
    (w.setRing br r).noted t i e v =
      (w.noted t i e v).setRing br (if i.reply = none then r else r.withdraw fun j => decide (j ≠ .fire e.seq)) := by
  unfold Work.noted
  cases i.reply <;> cases br <;> rfl

theorem Work.noted_quiet {s : State} (hq : s.Quiet) (v : Verdict) :
    State.Quiet { s with work := s.work.noted t i e v } := by
  unfold Work.noted
  split <;> exact hq

theorem verdictOf_eq (te : Nat) (d : Int) :
    verdictOf te d = if d.natAbs ≤ te then .hit d else if d < 0 then .early d else .late d := by
  obtain ⟨hhit, hearly, hlate⟩ := verdictOf_iff te d
  split_ifs with hnear hbefore
  · exact hhit.2 hnear
  · exact hearly.2 (by omega)
  · exact hlate.2 (by omega)

variable (h : w.plan = [t])
  (hf : w.fires = [e]) (he : e.carrier = i.carrier) (hgo : t.GoesOn) (hn : w.NoClaimBut e)
  (hi : t.items.find? (fun j => j.index == i.index) = some i) (hw : w.windows = [y]) (hy : y.trial = t.id)
  (hitem : y.item = some i.index) (hpurpose : y.purpose = .chuteEntry) (hspace : t.reasons.noSpace = false)
include h hf he hgo hn hi hw hy hitem hpurpose hspace

/-- The item's window expires: MISS, or CANCELLED under the coasted mark (R108, R109). -/
theorem expireOne_item :
    expireOne l w y.order = w.noted t i e (if y.coasted then .cancelled else .miss) := by
  have hwin : w.window y.order = some y := by simp [Work.window, hw]
  simp only [expireOne, hwin, expiryVerdict]
  refine endWindow_item l h hf he hgo hn hi hw hy hitem hpurpose hspace (fun d => ?_) none
  split <;> simp

/-- An event within the candidate span of the item's window gives it a verdict (R27, R106). -/
theorem judge_item (hs : y.sensor = sensor) (hm : y.coasted = false)
    (hspan : (signedDiff g.length xc y.xexp).natAbs ≤ y.te + g.grace) :
    judge l g sensor xc w = w.noted t i e (verdictOf y.te (signedDiff g.length xc y.xexp)) := by
  obtain ⟨-, hearly, -⟩ := verdictOf_iff y.te (signedDiff g.length xc y.xexp)
  by_cases hd : signedDiff g.length xc y.xexp < -(y.te : Int)
  · rw [judge_early hw hs hm hspan l hd, hearly.2 hd]
    exact handVerdict_item_early l h hf he hgo hn hi hw hy hitem hpurpose hspace _ _
  · have hv (d : Int) : verdictOf y.te (signedDiff g.length xc y.xexp) ≠ .early d := by
      unfold verdictOf
      rw [if_neg hd]
      split <;> simp
    rw [judge_ends hw hs hm hspan l rfl (not_lt.1 hd)]
    exact endWindow_item l h hf he hgo hn hi hw hy hitem hpurpose hspace hv _

end

end Sys2Proof.Machine

open Sys2Proof Sys2Proof.Machine

/-- Settles O27: the candidate is the nearest window by induction on the table; its verdict ends the window of a sensor
trial, which arms anew, or reaches the chute item. -/
theorem nearestWindowJudges : Obligations.NearestWindowJudges := by
  unfold Obligations.NearestWindowJudges
  refine ⟨?_, ?_, ?_⟩
  · intro g sensor xc w d reached
    have hreached (y : Window) : reached y ↔ y ∈ w.windows.filter (fun x => x.sensor == sensor) ∧ y.Spans g xc := by
      simp [reached, d, Window.Spans, and_assoc]
    have hnearest := candidate_nearest g sensor xc w
    refine ⟨⟨fun h y hy => ?_, fun h => ?_⟩, fun y e h => ?_⟩
    · rw [h] at hnearest
      obtain ⟨hmem, hspan⟩ := (hreached y).1 hy
      exact hnearest y hmem hspan
    · cases hc : candidate g sensor xc w with
      | none => rfl
      | some b =>
        rw [hc] at hnearest
        obtain ⟨hmem, hspan, -⟩ := hnearest
        exact absurd ((hreached b.1).2 ⟨hmem, hspan⟩) (h b.1)
    · rw [h] at hnearest
      obtain ⟨hmem, hspan, rfl, hmin⟩ := hnearest
      obtain ⟨hhit, hearly, hlate⟩ := verdictOf_iff y.te (d y)
      refine ⟨(hreached y).2 ⟨hmem, hspan⟩, rfl, fun z hz => ?_, hhit, hearly, hlate, fun hm l => ?_⟩
      · obtain ⟨hz, hs⟩ := (hreached z).1 hz
        exact hmin z hz hs
      · simp [judge, h, hm]
  · intro s g p t y x tr hq hg hlaw hx _ _ hplan hwin hp hkind htarget ha hreasons hy hsensor hpurpose _ hneed hlim
      hfence armedAt next failed
    obtain ⟨-, ⟨hcarriers, -⟩, -⟩ := id hlaw
    have hc : 0 < g.carriers := by omega
    have hpoint : s.work.point t.target = some p := htarget ▸ hp
    have armed {u : Trial} {k : Nat} (hu : u.state = .active) (hr : u.reasons = .clear) (hid : u.id = t.id) :
        s.work.armedAt g p u k = armedAt u k := by
      simp only [Work.armedAt, armedAt, hu, hr, hid]
      rfl
    have quiet {w : Work} {l : Loop} (ho : w.outbox = s.work.outbox) (hd : w.dist = s.work.dist) :
        State.Quiet { s with loop := l, work := w } := hq.of_work ho hd
    refine ⟨?_, ?_, ?_⟩
    · intro a b hl hfires up moved now hlevel hhome hreach
      let l : Loop := { s.loop with tracker := moved }
      have hlg : l.geometry = some g := hg
      have hlen : l.length = g.length := by rw [Loop.length, hlg]
      have expired := present_window (l := l) hfires hwin tr.homeDist (hlen ▸ hreach)
      have done {w : Work} (h : expireOne l s.work y.order = w) (ho : w.outbox = s.work.outbox)
          (hd : w.dist = s.work.dist) : exec (.encoderEvent a b) s = .next (now w) := by
        refine (exec_encoderEvent_forward hg hx (.inl hl) hlevel (pos_of_reaches hreach) hhome).trans
          (congrArg _ (Eq.trans ?_ (quiet (l := l) ho hd).settle))
        exact congrArg (fun v => State.settle { s with loop := l, work := v }) (expired.trans h)
      refine ⟨fun hm => done (Eq.trans ?_ (armed (u := failed) (k := next) ha hreasons rfl)) rfl rfl,
        fun k hm hk => done (Eq.trans ?_ (armed (u := t) (k := k) ha hreasons rfl)) rfl rfl⟩
      · exact expireOne_missed hlg hl hc hplan hwin hy hpurpose hpoint ha hm hlim
      · rw [expireOne_coasted hlg hl hc hplan hwin hy hpurpose hpoint ha hm, firstDue_eq hlg rfl (by omega) hk]
    · intro a b hlevel hl lost held ns
      have hplaced : tr.lock.placed = true := by rcases hl with hl | hl <;> rw [hl] <;> rfl
      have hmove := (encoderChange_illegal hg hlevel).trans (illegalMove_placed (by exact hl))
      refine ⟨_, congrArg (fun u => Host.Outcome.next (State.settle u)) hmove, ?_⟩
      exact loseLock_sensor (s := s.setTracker { tr with encA := a, encB := b }) (t := t) hq hplan hwin hpoint hkind ha
        (by rw [hreasons]; rfl) hfence hy hpurpose hplaced rfl _
    · intro br f n r xc d heard taken hl hf hrun hdown hacks hnode hon hseq hev hkind' hedge hage hch
      let w : Work := s.work.setRing br heard
      have hexec := exec_sensorEvent hg hlaw hx hl hf hrun hdown hacks hnode hon hseq hev hkind' hedge hage hch
      rw [hfence] at hexec
      have done {v : Work} (h : judge s.loop g p.tag xc w = v.setRing br heard) (ho : v.outbox = s.work.outbox)
          (hd : v.dist = s.work.dist) : exec (.eventFrame br f) s = .next (taken v) := by
        refine hexec.trans (congrArg _ (Eq.trans ?_ (State.Quiet.settle (s := taken v) (hq.of_work
          ((Work.setRing_outbox ..).trans ho) ((Work.setRing_dist ..).trans hd)))))
        exact congrArg (fun v => State.settle { s with work := v }) h
      have hplan' : w.plan = [t] := (Work.setRing_plan ..).trans hplan
      have hwin' : w.windows = [y] := (Work.setRing_windows ..).trans hwin
      have hp' : w.point p.tag = some p := (Work.point_setRing ..).trans hp
      refine ⟨fun h => done (judge_unclaimed hwin' hsensor s.loop h) rfl rfl, fun hm hd => done ?_ rfl rfl,
        fun hm hn hd => done ?_ rfl rfl, fun hm hn hd => done ?_ rfl rfl⟩
      · rw [judge_sensor_hit hg hplan' hwin' hp' htarget ha hy hsensor hpurpose hm (by omega) hc hl hd hneed, Work.armedAt_setRing]
        exact congrArg (Work.setRing · br heard) (armed (by exact ha) (by exact hreasons) (by rfl))
      · rw [judge_sensor_late hg hplan' hwin' hp' htarget ha hy hsensor hpurpose hm hn hc hl hd hlim, Work.armedAt_setRing]
        exact congrArg (Work.setRing · br heard) (armed (by exact ha) (by exact hreasons) (by rfl))
      · rw [judge_sensor_early hplan' hwin' ha hy hsensor hpurpose hm hn hd hlim, Work.setRing_withPlan]
  · intro s g p t i e y x tr hq hg hx _ _ hplan hwin hfires hp hkind hspace hpurpose hy hsensor hitem hi he hsent hgo
      hn noted
    have hnoted (v : Verdict) : noted v = s.work.noted t i e v := rfl
    refine ⟨?_, ?_⟩
    · intro a b hl up moved hlevel hhome hreach
      let l : Loop := { s.loop with tracker := moved }
      have hlg : l.geometry = some g := hg
      have hlen : l.length = g.length := by rw [Loop.length, hlg]
      have hpresent := present_window_entry l hwin hfires tr.homeDist (hlen ▸ hreach)
        (expireOne_item l hplan hfires he hgo hn hi hwin hy hitem hpurpose hspace)
        (foundDue_noted l hfires hsent _)
      refine (exec_encoderEvent_forward hg hx hl hlevel (pos_of_reaches hreach) hhome).trans (congrArg _ ?_)
      refine (congrArg (fun v => State.settle { s with loop := l, work := v }) hpresent).trans ?_
      exact State.Quiet.settle (Work.noted_quiet (s := { s with loop := l }) hq _)
    · intro br f n r xc d heard hlaw hl hf hrun hdown hacks hnode hon hseq hev hkind' hedge hage hch w others left fenced
      have hexec := exec_sensorEvent hg hlaw hx hl hf hrun hdown hacks hnode hon hseq hev hkind' hedge hage hch
      have done {v : Work} (h : (if fenced then s.work.setRing br heard else
            judge s.loop g p.tag xc (s.work.setRing br heard)) = v) (hv : State.Quiet { s with work := v }) :
          exec (.eventFrame br f) s = .next { s with work := v } := by
        refine hexec.trans (congrArg _ (Eq.trans ?_ hv.settle))
        exact congrArg (fun v => State.settle { s with work := v }) h
      have hwin' : (s.work.setRing br heard).windows = [y] := (Work.setRing_windows ..).trans hwin
      refine ⟨fun h => done ?_ (hq.of_work (Work.setRing_outbox ..) (Work.setRing_dist ..)), fun hfence hm hspan => ?_⟩
      · split
        · rfl
        · next hfence => exact judge_unclaimed hwin' hsensor s.loop (h.resolve_left hfence)
      · have hjudge := judge_item s.loop ((Work.setRing_plan ..).trans hplan) ((Work.setRing_fires ..).trans hfires) he
          hgo (Work.noClaimBut_setRing hn br heard) hi hwin' hy hitem hpurpose hspace hsensor hm hspan
        rw [Work.noted_setRing, verdictOf_eq] at hjudge
        have hquiet := Work.noted_quiet (t := t) (i := i) (e := e) hq
          (if d.natAbs ≤ y.te then .hit d else if d < 0 then .early d else .late d)
        refine done ((if_neg (by simp [hfence])).trans hjudge) (hquiet.of_work ?_ ?_)
        · exact Work.setRing_outbox ..
        · exact Work.setRing_dist ..
end

section
/-! ## What a cascade makes of the register and the asks

The cascades of one event write the proofs of points and pass drained chutes to the console; nothing else in them
reaches the register or the ask table. `Work.CascadesTo` says so once, for every invariant of the two. -/

namespace Sys2Proof.Machine

/-- `u` with proofs written and drained asks closed, and anything at all outside the register and the asks (R43, R68,
R114). -/
inductive Work.CascadesTo (u : Work) : Work → Prop
  | refl : Work.CascadesTo u u
  /-- The register and the asks stand. -/
  | rest {w v : Work} : Work.CascadesTo u w → v.points = w.points → v.asks = w.asks → Work.CascadesTo u v
  /-- A point's proof is written, with its record (R43, R44, R114). -/
  | proof {w : Work} {tag : Nat} {p : Point} (x : Proof) (prior : Option Proof) (record : Option ProofRecord) :
      Work.CascadesTo u w → w.point tag = some p →
      Work.CascadesTo u (w.setPoint { p with proof := x, prior := prior, record := record })
  /-- A drained point passes to the console, and its ask is closed (R68). -/
  | drain {w : Work} {tag : Nat} {p : Point} {a : Ask} : Work.CascadesTo u w → w.point tag = some p →
      w.ask tag = some a → a.state = .draining →
      Work.CascadesTo u ((w.setPoint { p with custody := .console, service := .outOfService }).closeAsk tag)

namespace Work.CascadesTo

variable {u w : Work}

theorem trans {v : Work} (h : u.CascadesTo w) (h' : w.CascadesTo v) : u.CascadesTo v := by
  induction h' with
  | refl => exact h
  | rest _ hp ha ih => exact ih.rest hp ha
  | proof x prior record _ hp ih => exact ih.proof x prior record hp
  | drain _ hp ha hd ih => exact ih.drain hp ha hd

theorem foldl {α : Type} {f : Work → α → Work} (hf : ∀ {w} x, u.CascadesTo w → u.CascadesTo (f w x)) (xs : List α)
    (h : u.CascadesTo w) : u.CascadesTo (xs.foldl f w) := by
  induction xs generalizing w with
  | nil => exact h
  | cons x xs ih => exact ih (hf x h)

/-! ### Updates outside the register -/

theorem setRing (br : Branch) (r : Ring) (h : u.CascadesTo w) : u.CascadesTo (w.setRing br r) :=
  h.rest (Work.setRing_points ..) (Work.setRing_asks ..)

theorem post (k : Link) (b : Block) (n : Notice) (h : u.CascadesTo w) : u.CascadesTo (w.post k b n) := h.rest rfl rfl

theorem postBoth (b : Block) (n : Notice) (h : u.CascadesTo w) : u.CascadesTo (w.postBoth b n) := h.rest rfl rfl

theorem setTrial (t : Trial) (h : u.CascadesTo w) : u.CascadesTo (w.setTrial t) := h.rest rfl rfl

theorem setEntry (e : Entry) (h : u.CascadesTo w) : u.CascadesTo (w.setEntry e) := h.rest rfl rfl

theorem setLoad (k : Nat) (x : LoadState) (h : u.CascadesTo w) : u.CascadesTo (w.setLoad k x) := h.rest rfl rfl

theorem setCarrier (k : Nat) (c : Carrier) (h : u.CascadesTo w) : u.CascadesTo (w.setCarrier k c) := h.rest rfl rfl

theorem dropWindow (n : Nat) (h : u.CascadesTo w) : u.CascadesTo (w.dropWindow n) := h.rest rfl rfl

theorem setRow (tag : Nat) (x : RowState) (h : u.CascadesTo w) : u.CascadesTo (w.setRow tag x) := h.rest rfl rfl

theorem withdraw (keep : Job → Bool) (h : u.CascadesTo w) : u.CascadesTo (w.withdraw keep) := h.rest rfl rfl

/-! ### The fire list and the window table -/

theorem addEntry {l : Loop} {k : Nat} {chute : Option Nat} {origin : Origin} {owner : Link} {trial : Option Nat}
    {w' : Work} (hw : Machine.addEntry l k chute origin owner trial w = some w') (h : u.CascadesTo w) :
    u.CascadesTo w' := by
  unfold Machine.addEntry at hw
  split at hw
  · cases hw
  · split at hw
    · cases hw
      cases chute with
      | none => exact h.rest rfl rfl
      | some c => exact h.rest (by simp) (by simp)
    · cases hw

theorem removeEntry (e : Entry) (h : u.CascadesTo w) : u.CascadesTo (removeEntry e w) :=
  h.rest (by simp [Machine.removeEntry]) (by simp [Machine.removeEntry])

theorem drainAsk (e : Entry) (h : u.CascadesTo w) : u.CascadesTo (drainAsk e w) := by
  unfold Machine.drainAsk
  split
  · split
    · next ha hp =>
      split
      · next hd => exact (h.drain hp ha (by simp_all)).post ..
      · exact h
    · exact h
  · exact h

theorem endDischarge (l : Loop) (o : DischargeOutcome) (e : Entry) (h : u.CascadesTo w) :
    u.CascadesTo (endDischarge l o e w) :=
  ((h.removeEntry e).post ..).drainAsk e

theorem armPass {l : Loop} {p : Point} {k id : Nat} {w' : Work} (hw : Machine.armPass l p k id w = .armed w')
    (h : u.CascadesTo w) : u.CascadesTo w' := by
  unfold Machine.armPass at hw
  repeat' split at hw
  all_goals cases hw
  exact h.rest rfl rfl

theorem armEntry (l : Loop) (chute k id index : Nat) (h : u.CascadesTo w) :
    u.CascadesTo (armEntry l chute k id index w) := by
  unfold Machine.armEntry
  split
  · split
    · exact h.rest rfl rfl
    · exact h
  · exact h

theorem attempt {l : Loop} {p : Point} {id n fuel k j : Nat} {w' : Work}
    (hw : Machine.attempt l p id n w fuel k = .armed j w') (h : u.CascadesTo w) : u.CascadesTo w' := by
  induction fuel generalizing k with
  | zero => cases hw
  | succ fuel ih =>
    unfold Machine.attempt at hw
    split at hw
    · next harm => cases hw; exact h.armPass harm
    · cases hw
    · cases hw
    · exact ih hw

/-! ### Trials -/

theorem armSensor (l : Loop) (id : Nat) (start : Option Nat) (h : u.CascadesTo w) :
    u.CascadesTo (armSensor l id start w) := by
  unfold Machine.armSensor
  split
  · exact h
  · split
    · exact h
    · dsimp only
      split
      · next ha => exact (h.attempt ha).setTrial _
      · exact h.setTrial _
      · exact h.setTrial _

theorem claimOne (l : Loop) (k : Nat) (h : u.CascadesTo w) : u.CascadesTo (claimOne l w k) := by
  unfold Machine.claimOne
  split
  · split
    · exact h
    · split
      · exact h
      · next ha => exact (h.addEntry ha).setTrial _
  · exact h

theorem claimPass (l : Loop) (h : u.CascadesTo w) : u.CascadesTo (claimPass l w) :=
  h.foldl (fun k h => h.claimOne l k) _

theorem jogAdd (l : Loop) (id : Nat) (h : u.CascadesTo w) : u.CascadesTo (jogAdd l id w) := by
  unfold Machine.jogAdd
  split
  · exact h
  · split
    · exact h.setTrial _
    · next ha => exact (h.addEntry ha).setTrial _

theorem beginWork (l : Loop) (t : Trial) (h : u.CascadesTo w) : u.CascadesTo (beginWork l t w) := by
  unfold Machine.beginWork
  cases t.kind with
  | sensor =>
    dsimp only
    split
    · exact h.armSensor ..
    · exact h
  | chute => exact h.claimPass l
  | zoneDrive => exact h.rest rfl rfl
  | belt =>
    dsimp only
    split
    · exact h
    · exact h.jogAdd ..

theorem goActive (l : Loop) (t : Trial) (h : u.CascadesTo w) : u.CascadesTo (goActive l t w) :=
  (h.setTrial _).beginWork l t

theorem stopPolls (t : Trial) (h : u.CascadesTo w) : u.CascadesTo (stopPolls t w) := h.rest rfl rfl

theorem goHeld (t : Trial) (r : HoldReasons) (h : u.CascadesTo w) : u.CascadesTo (goHeld t r w) :=
  (h.setTrial _).stopPolls t

theorem reevaluateOne (l : Loop) (id : Nat) (h : u.CascadesTo w) : u.CascadesTo (reevaluateOne l w id) := by
  unfold Machine.reevaluateOne
  split
  · exact h
  · dsimp only
    repeat' split
    · exact h.goHeld ..
    · exact h.armSensor ..
    · exact h
    · exact h
    · exact h.goActive ..
    · exact h

theorem reevaluate (l : Loop) (h : u.CascadesTo w) : u.CascadesTo (reevaluate l w) :=
  h.foldl (fun id h => h.reevaluateOne l id) _

theorem retryOne (l : Loop) (p : Trial → Bool) (id : Nat) (h : u.CascadesTo w) : u.CascadesTo (retryOne l p w id) := by
  unfold Machine.retryOne
  split
  · exact h
  · split
    · exact h.armSensor ..
    · exact h

theorem retry (l : Loop) (p : Trial → Bool) (h : u.CascadesTo w) : u.CascadesTo (retry l p w) :=
  h.foldl (fun id h => h.retryOne l p id) _

theorem announceSpace (l : Loop) (before : Nat) (x : Window) (h : u.CascadesTo w) :
    u.CascadesTo (announceSpace l before x w) := by
  have hfull : u.CascadesTo (if before = 512 then Machine.retry l (fun _ => true) w else w) := by
    split
    · exact h.retry ..
    · exact h
  unfold Machine.announceSpace
  cases x.purpose with
  | chuteEntry => exact hfull.retry ..
  | sensorPass => exact hfull

theorem removeWindow (l : Loop) (x : Window) (h : u.CascadesTo w) : u.CascadesTo (removeWindow l x w) :=
  (h.dropWindow _).announceSpace ..

theorem activateOne (l : Loop) (id : Nat) (h : u.CascadesTo w) : u.CascadesTo (activateOne l w id) := by
  unfold Machine.activateOne
  split
  · exact h
  · dsimp only
    repeat' split
    · exact h.setTrial _
    · exact h.goActive ..
    · exact h

theorem activate (l : Loop) (h : u.CascadesTo w) : u.CascadesTo (activate l w) :=
  h.foldl (fun id h => h.activateOne l id) _

theorem orphanEffect (e : Entry) (r : ItemReply) (h : u.CascadesTo w) : u.CascadesTo (orphanEffect e r w) := by
  unfold Machine.orphanEffect
  repeat' split
  all_goals first | exact h | exact h.setLoad ..

theorem endEntry (t : Trial) (e : Entry) (h : u.CascadesTo w) : u.CascadesTo (endEntry t w e) := by
  unfold Machine.endEntry
  split
  · exact h.removeEntry e
  · split
    · exact (h.orphanEffect ..).removeEntry e
    · exact h.setEntry _

theorem leavePlan (l : Loop) (t : Trial) (x : TrialResult) (why : Option FailReason) (h : u.CascadesTo w) :
    u.CascadesTo (leavePlan l t x why w) := by
  have hwindows := h.foldl (f := fun w y => Machine.removeWindow l y w) (fun y h => h.removeWindow l y)
    (w.windows.filter fun y => y.trial == t.id)
  have hentries := hwindows.foldl (f := Machine.endEntry t) (fun e h => h.endEntry t e)
  unfold Machine.leavePlan
  dsimp only
  split
  · exact claimPass l (activate l (post _ _ _ (stopPolls t ((hentries _).rest rfl rfl))))
  · exact activate l (post _ _ _ (stopPolls t ((hentries _).rest rfl rfl)))

theorem writeResult (l : Loop) (t : Trial) (x : TrialResult) (why : Option FailReason) (h : u.CascadesTo w) :
    u.CascadesTo (writeResult l t x why w) := by
  unfold Machine.writeResult
  split
  · split
    · exact h
    · exact h.setCarrier ..
  · split
    · exact h
    · next hp => exact h.proof _ _ _ hp

theorem finish (l : Loop) (t : Trial) (x : TrialResult) (why : Option FailReason) (h : u.CascadesTo w) :
    u.CascadesTo (finish l t x why w) :=
  (h.writeResult ..).leavePlan ..

theorem countHit (l : Loop) (t : Trial) (d : Int) (h : u.CascadesTo w) : u.CascadesTo (countHit l t d w) := by
  unfold Machine.countHit
  dsimp only
  split
  · exact (h.setTrial _).finish ..
  · exact h.setTrial _

theorem countFail (l : Loop) (t : Trial) (h : u.CascadesTo w) : u.CascadesTo (countFail l t w) := by
  unfold Machine.countFail
  dsimp only
  split
  · exact (h.setTrial _).finish ..
  · exact h.setTrial _

theorem count (l : Loop) (id : Nat) (x : Evidence) (h : u.CascadesTo w) : u.CascadesTo (count l id x w) := by
  unfold Machine.count
  split
  · exact h
  · split
    · cases x with
      | hit d => exact h.countHit ..
      | fail => exact h.countFail ..
      | nothing => exact h
    · exact h

/-! ### Chute items and verdicts -/

theorem itemLeaves (l : Loop) (id index : Nat) (o : ItemOutcome) (h : u.CascadesTo w) :
    u.CascadesTo (itemLeaves l id index o w) := by
  unfold Machine.itemLeaves
  split
  · split
    · exact h.claimPass l
    · exact h
  · dsimp only
    split
    · exact (h.setTrial _).claimPass l
    · exact h.setTrial _

theorem itemEnds (l : Loop) (id index : Nat) (o : ItemOutcome) (d : Int) (h : u.CascadesTo w) :
    u.CascadesTo (itemEnds l id index o d w) := by
  unfold Machine.itemEnds
  split
  · exact h
  · exact ((h.setTrial _).count ..).itemLeaves ..

theorem decideItem (l : Loop) (id : Nat) (i : Item) (o : ItemOutcome) (x : LoadState) (d : Int)
    (h : u.CascadesTo w) : u.CascadesTo (decideItem l id i o x d w) := by
  have hload : u.CascadesTo (applyLoad i.carrier x w) := by
    unfold applyLoad
    split
    · exact h.setLoad ..
    · exact h
  unfold Machine.decideItem
  dsimp only
  refine itemEnds l id i.index o d ?_
  split
  · exact hload.removeEntry _
  · exact hload

theorem removeItemWindow (l : Loop) (id index : Nat) (h : u.CascadesTo w) :
    u.CascadesTo (removeItemWindow l id index w) := by
  unfold Machine.removeItemWindow
  split
  · exact h.removeWindow ..
  · exact h

theorem tryDecide (l : Loop) (id : Nat) (i : Item) (h : u.CascadesTo w) : u.CascadesTo (tryDecide l id i w) := by
  unfold Machine.tryDecide
  split
  · exact h.decideItem ..
  · exact h

theorem entryVerdict (l : Loop) (r : VerdictReport) (h : u.CascadesTo w) : u.CascadesTo (entryVerdict l r w) := by
  unfold Machine.entryVerdict
  split
  · exact h
  · split
    · exact h
    · dsimp only
      refine tryDecide _ _ _ ?_
      split
      · exact (h.setTrial _).removeItemWindow ..
      · exact h.setTrial _

theorem itemReply (l : Loop) (t : Trial) (i : Item) (r : ItemReply) (h : u.CascadesTo w) :
    u.CascadesTo (itemReply l t i r w) := by
  unfold Machine.itemReply
  dsimp only
  split
  · exact ((h.setTrial _).removeItemWindow ..).decideItem ..
  · exact (h.setTrial _).tryDecide ..

theorem itemReturns (l : Loop) (id k : Nat) (h : u.CascadesTo w) : u.CascadesTo (itemReturns l id k w) := by
  unfold Machine.itemReturns
  split
  · exact h
  · split
    · exact h
    · exact (h.setTrial _).removeItemWindow ..

theorem itemGone (l : Loop) (e : Entry) (o : ItemOutcome) (h : u.CascadesTo w) : u.CascadesTo (itemGone l e o w) := by
  unfold Machine.itemGone
  split
  · exact h
  · split
    · exact h
    · exact (h.removeItemWindow ..).itemEnds ..

theorem windowGone (id : Nat) (h : u.CascadesTo w) : u.CascadesTo (windowGone id w) := by
  unfold Machine.windowGone
  split
  · exact h
  · exact h.setTrial _

theorem rearm (l : Loop) (id : Nat) (start : Option Nat) (h : u.CascadesTo w) : u.CascadesTo (rearm l id start w) := by
  unfold Machine.rearm
  split
  · exact h
  · split
    · exact h.armSensor ..
    · exact h

theorem sensorVerdict (l : Loop) (r : VerdictReport) (h : u.CascadesTo w) : u.CascadesTo (sensorVerdict l r w) := by
  unfold Machine.sensorVerdict
  cases r.verdict with
  | hit d => exact ((h.windowGone _).count ..).rearm ..
  | late d => exact ((h.windowGone _).count ..).rearm ..
  | miss => exact ((h.windowGone _).count ..).rearm ..
  | early d => exact h.count ..
  | cancelled => exact (h.windowGone _).rearm ..

theorem handVerdict (l : Loop) (r : VerdictReport) (h : u.CascadesTo w) : u.CascadesTo (handVerdict l r w) := by
  unfold Machine.handVerdict
  cases r.purpose with
  | sensorPass => exact h.sensorVerdict ..
  | chuteEntry => exact h.entryVerdict ..

theorem endWindow (l : Loop) (v : Verdict) (xc : Option Nat) (n : Nat) (h : u.CascadesTo w) :
    u.CascadesTo (endWindow l v xc w n) := by
  unfold Machine.endWindow
  split
  · exact h
  · exact ((h.dropWindow n).handVerdict ..).announceSpace ..

theorem expireOne (l : Loop) (n : Nat) (h : u.CascadesTo w) : u.CascadesTo (expireOne l w n) := by
  unfold Machine.expireOne
  split
  · exact h
  · exact h.endWindow ..

theorem cancelWindows (before l : Loop) (p : Window → Bool) (h : u.CascadesTo w) :
    u.CascadesTo (cancelWindows before l p w) :=
  h.foldl (fun n h => h.endWindow l _ _ n) _

theorem judge (l : Loop) (g : Geometry) (sensor xc : Nat) (h : u.CascadesTo w) :
    u.CascadesTo (judge l g sensor xc w) := by
  unfold Machine.judge
  split
  · exact h
  · split
    · exact h
    · split
      · exact h.handVerdict ..
      · exact h.endWindow ..

/-! ### Fires and the arbiter -/

theorem jogMissed (l : Loop) (e : Entry) (h : u.CascadesTo w) : u.CascadesTo (jogMissed l e w) := by
  unfold Machine.jogMissed
  split
  · exact h
  · split
    · exact h
    · exact (h.setTrial _).jogAdd ..

theorem missEntry (l : Loop) (e : Entry) (h : u.CascadesTo w) : u.CascadesTo (missEntry l e w) := by
  unfold Machine.missEntry
  dsimp only
  split
  · exact h.setEntry _
  · cases e.origin with
    | lineDischarge => exact h.endDischarge ..
    | consoleDischarge => exact h.endDischarge ..
    | chuteItem => exact (h.removeEntry _).itemGone ..
    | beltJog => exact (h.removeEntry _).jogMissed ..

theorem fireSent (l : Loop) (e : Entry) (h : u.CascadesTo w) : u.CascadesTo (fireSent l e w) := by
  unfold Machine.fireSent
  repeat' split
  · exact h
  · exact (h.setTrial _).armEntry ..
  · exact h
  · exact h.setTrial _
  · exact h

theorem grantFire (l : Loop) (seq : Nat) (h : u.CascadesTo w) : u.CascadesTo (grantFire l seq w).1 := by
  unfold Machine.grantFire
  repeat' split
  · exact h
  · exact h
  · exact h.setEntry _
  · exact (h.setEntry _).fireSent ..
  · exact h.missEntry ..

theorem sendFrame (l : Loop) (br : Branch) (q : Req) (k : FrameKind) (f : Nat → DownFrame) (h : u.CascadesTo w) :
    u.CascadesTo (sendFrame l br q k f w) := by
  unfold Machine.sendFrame
  split
  · exact h
  · exact h.setRing ..

theorem querySent (id order : Nat) (h : u.CascadesTo w) : u.CascadesTo (querySent id order w) := by
  unfold Machine.querySent
  repeat' split
  · exact h
  · exact h.setTrial _
  · exact h

theorem offer (l : Loop) (br : Branch) (q : Req) (h : u.CascadesTo w) : u.CascadesTo (offer l br q w).1 := by
  unfold Machine.offer
  split
  · next seq _ =>
    have hfire := h.grantFire l seq
    split
    · next hg => rwa [hg] at hfire
    · next hg => rw [hg] at hfire; exact hfire.sendFrame ..
  · exact h.sendFrame ..
  · exact (h.querySent ..).sendFrame ..
  · exact h.sendFrame ..

theorem of_offer {l : Loop} {br : Branch} {q : Req} {w' : Work} {used : Bool} (ho : Machine.offer l br q w = (w', used))
    (h : u.CascadesTo w) : u.CascadesTo w' := by
  have hoffer := h.offer l br q
  rwa [ho] at hoffer

theorem arbitrate (l : Loop) (br : Branch) (fuel : Nat) (h : u.CascadesTo w) :
    u.CascadesTo (arbitrate l br fuel w) := by
  induction fuel generalizing w with
  | zero => exact h
  | succ fuel ih =>
    unfold Machine.arbitrate
    dsimp only
    split
    · exact h
    · split
      · exact h
      · split
        · exact h.setRing ..
        · split
          · exact h
          · next q _ =>
            split
            · next ho => exact of_offer ho (h.setRing ..)
            · next ho => exact ih (of_offer ho (h.setRing ..))

theorem arbitration (l : Loop) (br : Branch) (h : u.CascadesTo w) : u.CascadesTo (arbitration l br w) :=
  h.arbitrate ..

theorem of_put {l : Loop} {br : Branch} {q : Req} {w' : Work} {x : Option Resolution}
    (hp : put l br q w = (w', x)) (h : u.CascadesTo w) : u.CascadesTo w' := by
  unfold put at hp
  repeat' split at hp
  all_goals cases hp
  · exact h
  · exact h
  · exact (h.setRing ..).arbitration ..

/-! ### The ends of requests -/

theorem dischargeResult (l : Loop) (e : Entry) (r : ItemReply) (h : u.CascadesTo w) :
    u.CascadesTo (dischargeResult l e r w) := by
  have hload (x : LoadState) : u.CascadesTo (settleLoad e.carrier x w) := by
    unfold settleLoad
    repeat' split
    · exact h
    · exact h
    · exact h.setLoad ..
  cases r <;> exact (hload _).endDischarge ..

theorem jogCounted (l : Loop) (id : Nat) (f : BeltCounts → BeltCounts) (x : Evidence) (h : u.CascadesTo w) :
    u.CascadesTo (jogCounted l id f x w) := by
  have hnote : u.CascadesTo (noteJog id f w) := by
    unfold noteJog
    repeat' split
    · exact h
    · exact h.setTrial _
    · exact h
  exact (hnote.count ..).jogAdd ..

theorem jogDone (l : Loop) (id value : Nat) (h : u.CascadesTo w) : u.CascadesTo (jogDone l id value w) := by
  have hkeep : u.CascadesTo (keepAchieved id value w) := by
    unfold keepAchieved
    split
    · exact h
    · exact h.setTrial _
  unfold Machine.jogDone
  split
  · exact h
  · dsimp only
    split <;> exact hkeep.jogCounted ..

theorem jogResult (l : Loop) (e : Entry) (id : Nat) (r : ItemReply) (value : Nat) (h : u.CascadesTo w) :
    u.CascadesTo (jogResult l e id r value w) := by
  have hgone := h.removeEntry e
  unfold Machine.jogResult
  cases r with
  | doneGone => exact hgone.jogDone ..
  | doneKept => exact hgone.jogDone ..
  | fault =>
    refine jogCounted _ _ _ _ ?_
    split
    · exact hgone.setLoad ..
    · exact hgone
  | timeout => exact hgone.jogCounted ..
  | ringRestart => exact hgone.jogCounted ..

theorem entryResult (l : Loop) (e : Entry) (r : ItemReply) (value : Nat) (h : u.CascadesTo w) :
    u.CascadesTo (entryResult l e r value w) := by
  have horphan := (h.orphanEffect e r).removeEntry e
  unfold Machine.entryResult
  split
  · exact horphan
  · cases e.origin with
    | lineDischarge => exact h.dischargeResult ..
    | consoleDischarge => exact h.dischargeResult ..
    | chuteItem =>
      dsimp only
      repeat' split
      · exact horphan
      · exact horphan
      · exact h.itemReply ..
    | beltJog => exact h.jogResult ..

theorem doubleLoadEnd (l : Loop) (e : Entry) (h : u.CascadesTo w) : u.CascadesTo (doubleLoadEnd l e w) := by
  unfold Machine.doubleLoadEnd
  cases e.origin with
  | lineDischarge => exact h.endDischarge ..
  | consoleDischarge => exact h.endDischarge ..
  | chuteItem => exact (h.removeEntry e).itemGone ..
  | beltJog => exact h

theorem entryReturns (l : Loop) (e : Entry) (h : u.CascadesTo w) : u.CascadesTo (entryReturns l e w) := by
  unfold Machine.entryReturns
  split
  · exact h.itemReturns ..
  · exact h

theorem entryRefused (l : Loop) (e : Entry) (h : u.CascadesTo w) : u.CascadesTo (entryRefused l e w) := by
  unfold Machine.entryRefused
  repeat' split
  · exact h.removeEntry e
  · exact h.doubleLoadEnd ..
  · exact (h.entryReturns ..).missEntry ..

theorem entryBusy (l : Loop) (e : Entry) (h : u.CascadesTo w) : u.CascadesTo (entryBusy l e w) := by
  unfold Machine.entryBusy
  repeat' split
  · exact h.removeEntry e
  · exact h.doubleLoadEnd ..
  · exact (h.setEntry _).entryReturns ..

theorem resolveFire (l : Loop) (seq : Nat) (x : Resolution) (h : u.CascadesTo w) :
    u.CascadesTo (resolveFire l seq x w) := by
  unfold Machine.resolveFire
  split
  · exact h
  · cases x with
    | done value gone => exact h.entryResult ..
    | fault value => exact h.entryResult ..
    | timeout => exact h.entryResult ..
    | ringRestart => exact h.entryResult ..
    | refused value => exact h.entryRefused ..
    | busy => exact h.entryRefused ..
    | branchDown => exact h.missEntry ..
    | nodeSilent => exact h.missEntry ..

theorem commandRow (l : Loop) (tag : Nat) (h : u.CascadesTo w) : u.CascadesTo (commandRow l w tag) := by
  unfold Machine.commandRow
  split
  · split
    · split
      · exact h.setRow ..
      · split
        · exact h.setRow ..
        · split
          · next hp => exact of_put hp (h.setRow ..)
          · next hp => exact setRow _ _ (of_put hp (h.setRow ..))
    · exact h
  · exact h

theorem commandRows (l : Loop) (tags : List Nat) (h : u.CascadesTo w) : u.CascadesTo (commandRows l tags w) :=
  h.foldl (fun tag h => h.commandRow l tag) _

theorem resolveSpeed (l : Loop) (tag : Nat) (acked : Bool) (h : u.CascadesTo w) :
    u.CascadesTo (resolveSpeed l tag acked w) := by
  unfold Machine.resolveSpeed
  split
  · split
    · split
      · exact h.setRow ..
      · exact (h.setRow ..).commandRow ..
    · exact h
  · exact h

theorem speedBusy (l : Loop) (tag : Nat) (h : u.CascadesTo w) : u.CascadesTo (speedBusy l tag w) := by
  unfold Machine.speedBusy
  split
  · exact (h.setRow ..).withdraw _
  · exact h

theorem resolveQuery (l : Loop) (id order : Nat) (x : Resolution) (h : u.CascadesTo w) :
    u.CascadesTo (resolveQuery l id order x w) := by
  have hsample (t : Trial) (value : Nat) : u.CascadesTo (querySample l t value w) := by
    unfold querySample
    dsimp only
    split <;> exact (h.setTrial _).count ..
  unfold Machine.resolveQuery
  split
  · exact h
  · split
    · split
      · exact hsample ..
      · exact (h.setTrial _).count ..
    · exact h

theorem queryBusy (id order : Nat) (h : u.CascadesTo w) : u.CascadesTo (queryBusy id order w) := by
  unfold Machine.queryBusy
  repeat' split
  · exact h.withdraw _
  · exact h
  · exact h.withdraw _

theorem resolve (l : Loop) (j : Job) (x : Resolution) (h : u.CascadesTo w) : u.CascadesTo (resolve l j x w) := by
  cases j with
  | fire seq => exact h.resolveFire ..
  | setSpeed tag value => exact h.resolveSpeed ..
  | speedQuery id order => exact h.resolveQuery ..
  | relay link rtag tag item route => exact h.post ..

theorem returned (l : Loop) (j : Job) (h : u.CascadesTo w) : u.CascadesTo (returned l j w) := by
  cases j with
  | fire seq =>
    unfold Machine.returned
    dsimp only
    split
    · exact h.withdraw _
    · exact h.entryBusy ..
  | setSpeed tag value => exact h.speedBusy ..
  | speedQuery id order => exact h.queryBusy ..
  | relay link rtag tag item route => exact h

theorem issue (l : Loop) (br : Branch) (q : Req) (h : u.CascadesTo w) : u.CascadesTo (issue l br q w) := by
  unfold Machine.issue
  split
  · next hp => exact h.of_put hp
  · next hp => exact (h.of_put hp).resolve ..

theorem foundDue (l : Loop) (pass : Int) (seq : Nat) (h : u.CascadesTo w) : u.CascadesTo (foundDue l pass seq w) := by
  unfold Machine.foundDue
  split
  · exact h
  · split
    · exact h
    · dsimp only
      split
      · exact h.setEntry _
      · unfold requestFire
        split
        · exact h.setEntry _
        · exact ((h.setEntry _).setEntry _).issue ..

/-! ### The branches -/

theorem failWaiting (l : Loop) (br : Branch) (x : Resolution) (p : Req → Bool) (h : u.CascadesTo w) :
    u.CascadesTo (failWaiting l br x p w) :=
  (h.setRing br _).foldl (fun q h => h.resolve l q.job x) _

theorem enumerate (l : Loop) (br : Branch) (h : u.CascadesTo w) : u.CascadesTo (enumerate l br w) :=
  (((h.setRing br _).foldl (fun y h => h.resolve l y.job _) _).failWaiting ..).setRing ..

theorem nodeNotices (br : Branch) (n : Nat) (was now : List NodeState) (h : u.CascadesTo w) :
    u.CascadesTo (nodeNotices br n was now w) := by
  induction was generalizing n now w with
  | nil => exact h
  | cons a was ih =>
    cases now with
    | nil => exact h
    | cons b now =>
      refine ih _ _ ?_
      split
      · exact h.postBoth ..
      · exact h

theorem endAnnounce (l : Loop) (br : Branch) (h : u.CascadesTo w) : u.CascadesTo (endAnnounce l br w) := by
  unfold Machine.endAnnounce
  dsimp only
  split
  · exact ((h.setRing ..).postBoth ..).nodeNotices ..
  · exact h

theorem signalReturned (l : Loop) (br : Branch) (h : u.CascadesTo w) : u.CascadesTo (signalReturned l br w) := by
  unfold Machine.signalReturned
  split
  · exact h
  · exact ((h.setRing ..).enumerate ..).postBoth ..

theorem signalLost (l : Loop) (br : Branch) (h : u.CascadesTo w) : u.CascadesTo (signalLost l br w) := by
  unfold Machine.signalLost
  dsimp only
  split
  · exact ((h.setRing ..).failWaiting ..).postBoth ..
  · exact h

theorem nodeHeard (br : Branch) (node : Nat) (h : u.CascadesTo w) : u.CascadesTo (nodeHeard br node w) := by
  unfold Machine.nodeHeard
  repeat' split
  · exact h
  · exact (h.setRing ..).postBoth ..
  · exact h.setRing ..

theorem takeAnnounce (br : Branch) (f : AnnounceFields) (h : u.CascadesTo w) :
    u.CascadesTo (takeAnnounce br f w) := by
  have hnode := (h.nodeHeard br f.node).setRing br
    (((Machine.nodeHeard br f.node w).ring br).setNode f.node (announcedNode f))
  unfold Machine.takeAnnounce
  dsimp only
  split
  · exact hnode.postBoth ..
  · exact hnode

theorem takeReply (l : Loop) (br : Branch) (f : ReplyFields) (h : u.CascadesTo w) :
    u.CascadesTo (takeReply l br f w) := by
  have hheard := h.nodeHeard br f.node
  unfold Machine.takeReply
  dsimp only
  repeat' split
  · exact hheard.setRing ..
  · exact ((hheard.setRing ..).returned ..).arbitration ..
  · exact (hheard.setRing ..).resolve ..

theorem countTimeout (l : Loop) (br : Branch) (node : Nat) (h : u.CascadesTo w) :
    u.CascadesTo (countTimeout l br node w) := by
  unfold Machine.countTimeout
  repeat' split
  · exact h
  · exact h.setRing ..
  · exact h.setRing ..
  · exact ((h.setRing ..).postBoth ..).failWaiting ..

theorem expireTxn (l : Loop) (br : Branch) (tag : Nat) (h : u.CascadesTo w) : u.CascadesTo (expireTxn l br tag w) := by
  unfold Machine.expireTxn
  split
  · exact h
  · exact ((h.setRing ..).resolve ..).countTimeout ..

theorem frameEnd (l : Loop) (br : Branch) (h : u.CascadesTo w) : u.CascadesTo (frameEnd l br w) := by
  unfold Machine.frameEnd
  dsimp only
  split
  · exact (h.setRing ..).arbitration ..
  · exact h

theorem sequenceEvent (l : Loop) (br : Branch) (f : EventFields) (h : u.CascadesTo w) :
    u.CascadesTo (sequenceEvent l br f w).1 := by
  unfold Machine.sequenceEvent
  dsimp only
  repeat' split
  · exact h.setRing ..
  · exact h.setRing ..
  · exact h.setRing ..
  · exact h.setRing ..
  · exact ((h.setRing ..).setRing ..).arbitration ..
  · exact ((h.setRing ..).setRing ..).arbitration ..

/-! ### The event intake -/

theorem doubleLoadEntry (l : Loop) (k : Nat) (h : u.CascadesTo w) : u.CascadesTo (doubleLoadEntry l k w) := by
  unfold Machine.doubleLoadEntry
  split
  · exact h
  · next e _ =>
    split
    · cases e.origin with
      | lineDischarge => exact h.endDischarge ..
      | consoleDischarge => exact h.endDischarge ..
      | chuteItem => exact (h.removeEntry e).itemGone ..
      | beltJog => exact h
    · exact h

theorem placeLoad (l : Loop) (p : Point) (k : Nat) (d : Int) (ref : BitVec 32) (h : u.CascadesTo w) :
    u.CascadesTo (placeLoad l p k d ref w) := by
  unfold Machine.placeLoad
  split
  · exact h
  · split
    · dsimp only
      split
      · exact ((h.setLoad ..).post ..).claimPass l
      · exact (h.setLoad ..).post ..
    · exact ((h.setLoad ..).postBoth ..).doubleLoadEntry ..
    · exact h.postBoth ..

theorem dispatch (l : Loop) (p : Point) (m : Measure) (f : EventFields) (h : u.CascadesTo w) :
    u.CascadesTo (dispatch l p m f w) := by
  unfold Machine.dispatch
  split
  · unfold sensorEvent
    repeat' split
    · exact h.judge ..
    · exact h
    · exact h
  · unfold inductEvent
    repeat' split
    · exact h
    · exact h.placeLoad ..
    · exact h.post ..
    · exact h.post ..
  · exact h

/-! ### The loop's events and the fences -/

theorem lockWork (before l : Loop) (h : u.CascadesTo w) : u.CascadesTo (lockWork before l w) := by
  have hre := h.reevaluate l
  unfold Machine.lockWork
  dsimp only
  repeat' split
  · exact hre.cancelWindows ..
  · exact hre.rest rfl rfl
  · exact hre

theorem present (l : Loop) (x : Nat) (a : Int) (d : Nat) (h : u.CascadesTo w) : u.CascadesTo (present l x a d w) :=
  (h.foldl (fun n h => h.expireOne l n) _).foldl (fun e h => h.foundDue l _ e.seq) _

theorem recomputeFires (l : Loop) (h : u.CascadesTo w) : u.CascadesTo (recomputeFires l w) :=
  foldl (fun e h => h.foundDue l _ e.seq) _ (foldl (fun _ h => h.withdraw _) _ (h.rest rfl rfl))

theorem jogsAgain (l : Loop) (h : u.CascadesTo w) : u.CascadesTo (jogsAgain l w) := by
  refine h.foldl (fun {w} id h => ?_) _
  unfold jogAgain
  repeat' split
  · exact h
  · exact h.jogAdd ..
  · exact h

theorem fenceRow (tag : Nat) (h : u.CascadesTo w) : u.CascadesTo (fenceRow w tag) := by
  unfold Machine.fenceRow
  split
  · exact h
  · split
    · exact h.setRow ..
    · split
      · exact (h.setRow ..).withdraw _
      · exact h
    · exact h

theorem fenceWork (l : Loop) (zone : Nat) (h : u.CascadesTo w) : u.CascadesTo (fenceWork l zone w) :=
  ((h.reevaluate l).cancelWindows ..).foldl (fun tag h => h.fenceRow tag) _

theorem unfenceRow (tag : Nat) (h : u.CascadesTo w) : u.CascadesTo (unfenceRow w tag) := by
  unfold Machine.unfenceRow
  split
  · exact h.rest rfl rfl
  · split
    · split
      · exact (h.setRow ..).withdraw _
      · exact h.setRow ..
    · exact h.setRow ..
  · exact h

theorem unfenceDrives (l : Loop) (zone : Nat) (h : u.CascadesTo w) : u.CascadesTo (unfenceDrives l zone w) := by
  unfold Machine.unfenceDrives
  dsimp only
  split
  · exact (h.foldl (fun tag h => h.unfenceRow tag) _).commandRows ..
  · exact commandRows l _ (h.rest rfl rfl)

/-! ### Requests -/

theorem clearEntry (l : Loop) (k : Nat) (h : u.CascadesTo w) : u.CascadesTo (clearEntry l k w) := by
  unfold Machine.clearEntry
  split
  · exact h
  · next e _ =>
    cases e.origin with
    | lineDischarge => exact h.endDischarge ..
    | consoleDischarge => exact h.endDischarge ..
    | chuteItem => exact ((h.setLoad ..).removeEntry e).itemGone ..
    | beltJog => exact h.removeEntry e

theorem enterTrial (k : TrialKind) (target : Nat) (h : u.CascadesTo w) : u.CascadesTo (enterTrial k target w) := by
  unfold Machine.enterTrial
  split
  · split
    · exact h
    · exact h.setCarrier ..
  · split
    · exact h
    · next p hp => exact h.proof .inTrial (some p.proof) p.record hp

theorem acceptTrial (l : Loop) (k : TrialKind) (f : TrialFields) (h : u.CascadesTo w) :
    u.CascadesTo (acceptTrial l k f w) :=
  activate l (enterTrial k f.target (h.rest rfl rfl))

theorem expireTrial (l : Loop) (id : Nat) (h : u.CascadesTo w) : u.CascadesTo (expireTrial l id w) := by
  unfold Machine.expireTrial
  repeat' split
  · exact h
  · exact h.finish ..
  · exact h

theorem poll (l : Loop) (id : Nat) (h : u.CascadesTo w) : u.CascadesTo (poll l id w) := by
  unfold Machine.poll
  split
  · dsimp only
    repeat' split
    · exact h.rest rfl rfl
    · exact h.rest rfl rfl
    · exact issue l _ _ (h.rest rfl rfl)
  · exact h

theorem distribute (l : Loop) (value : Nat) (h : u.CascadesTo w) : u.CascadesTo (distribute l value w) := by
  unfold Machine.distribute
  split
  · split
    · exact h
    · unfold supersede
      exact commandRows l _ (foldl (fun _ h => h.withdraw _) _ (h.rest rfl rfl))
  · exact commandRows l _ (h.rest rfl rfl)

end Work.CascadesTo

end Sys2Proof.Machine
end

section
/-! ## The records of the register and the ask table

How each way of writing the register reads back, and what keeps its law (R37, R38, R57, R58) and that of the ask table
(R65). -/

namespace Sys2Proof.Machine

theorem Work.point_tag {w : Work} {tag : Nat} {p : Point} (h : w.point tag = some p) : p.tag = tag := by
  simpa using List.find?_some h

theorem Work.point_mem {w : Work} {tag : Nat} {p : Point} (h : w.point tag = some p) : p ∈ w.points :=
  List.mem_of_find?_eq_some h

/-- What stands in the place of record `r` as `p` replaces the record with its tag (R37). -/
def Point.replaced (p r : Point) : Point := if r.tag = p.tag then p else r

@[simp] theorem Point.replaced_tag (p r : Point) : (p.replaced r).tag = r.tag := by
  unfold Point.replaced
  split
  · next h => exact h.symm
  · rfl

theorem Work.setPoint_points (w : Work) (p : Point) : (w.setPoint p).points = w.points.map p.replaced := rfl

/-- A replaced record is read back at its tag, and the others stand. -/
theorem Work.point_setPoint (w : Work) (p : Point) (tag : Nat) :
    (w.setPoint p).point tag = if tag = p.tag then (w.point tag).map fun _ => p else w.point tag := by
  simp only [Work.point, Work.setPoint_points, List.find?_map, Function.comp_def, Point.replaced_tag]
  cases hf : w.points.find? fun r => r.tag == tag with
  | none => simp
  | some r =>
    have hr : r.tag = tag := by simpa using List.find?_some hf
    split
    · next h => simp [Point.replaced, hr, h]
    · next h => simp [Point.replaced, hr, h]

/-! ### The checks of R39 -/

/-- The checks of a WRITE_POINT's fields pass exactly within the ranges, and then form the configuration of the fields
(R36, R39). -/
theorem pointFields_check {f : PointFields} {limit : Nat} {k : PointKind} {c : PointConfig} :
    f.check limit = some (k, c) ↔
      PointKind.ofCode f.kind = some k ∧ decodeOpt Edge.ofCode f.edge = some c.edge ∧
      decodeOpt Side.ofCode f.side = some c.side ∧ f.tag ≠ 0 ∧ (-2000 ≤ f.bias ∧ f.bias ≤ 2000) ∧
      (5 ≤ f.tol ∧ f.tol ≤ 500) ∧ f.zone ≤ 7 ∧ (∀ t, f.throw = some t → 20 ≤ t ∧ t ≤ 400) ∧ f.loc < limit ∧
      f.presence k = true ∧ c.loc = f.loc ∧ c.bias = f.bias ∧ c.tol = f.tol ∧ c.zone = f.zone ∧ c.entry = f.entry ∧
      c.throw = f.throw := by
  obtain ⟨loc, bias, tol, zone, edge, entry, throw, side⟩ := c
  unfold PointFields.check
  split
  · next k' e s hk he hs =>
    rw [hk, he, hs]
    simp only [Option.ite_none_right_eq_some, Bool.and_eq_true, decide_eq_true_eq]
    grind
  · next h =>
    constructor
    · rintro ⟨⟩
    · rintro ⟨hk, he, hs, -⟩
      exact (h _ _ _ hk he hs).elim

/-! ### The place of a new record (R37) -/

theorem insertPoint_perm (p : Point) (ps : List Point) : (insertPoint p ps).Perm (p :: ps) := by
  induction ps with
  | nil => exact .refl _
  | cons q ps ih =>
    unfold insertPoint
    split
    · exact .refl _
    · exact (ih.cons q).trans (.swap ..)

theorem insertPoint_sorted {p : Point} {ps : List Point} (hnew : ∀ q ∈ ps, q.tag ≠ p.tag)
    (h : ps.Pairwise fun q r => q.tag < r.tag) : (insertPoint p ps).Pairwise fun q r => q.tag < r.tag := by
  induction ps with
  | nil => simp [insertPoint]
  | cons q ps ih =>
    obtain ⟨hq, hps⟩ := List.pairwise_cons.mp h
    unfold insertPoint
    split
    · next hlt =>
      refine List.pairwise_cons.mpr ⟨fun r hr => ?_, h⟩
      obtain rfl | hr := List.mem_cons.mp hr
      · exact hlt
      · exact hlt.trans (hq r hr)
    · next hge =>
      refine List.pairwise_cons.mpr ⟨fun r hr => ?_, ih (fun r hr => hnew r (by simp [hr])) hps⟩
      obtain rfl | hr := List.mem_cons.mp ((insertPoint_perm p ps).mem_iff.mp hr)
      · have := hnew q (by simp)
        omega
      · exact hq r hr

theorem find?_insertPoint {p : Point} {tag : Nat} (h : p.tag ≠ tag) (ps : List Point) :
    (insertPoint p ps).find? (fun q => q.tag == tag) = ps.find? fun q => q.tag == tag := by
  induction ps with
  | nil => simp [insertPoint, h]
  | cons q ps ih =>
    unfold insertPoint
    split
    · simp [List.find?_cons, h]
    · simp [List.find?_cons, ih]

/-! ### The law of the register -/

/-- The routes of two records do not clash, whichever comes first (R58). -/
theorem routes_distinct_comm {p q : Point} (h : p.route = none ∨ p.route ≠ q.route) :
    q.route = none ∨ q.route ≠ p.route := by
  obtain h | h := h
  · rw [h]; exact Classical.em _
  · exact .inr h.symm

/-- A record replaced by one with its tag, kind and route keeps the law, where the new one is OUT_OF_SERVICE in CONSOLE
custody (R38). -/
theorem RegisterLaw.setPoint {w : Work} (h : RegisterLaw w.points) {p q : Point} (hq : w.point p.tag = some q)
    (hkind : p.kind = q.kind) (hroute : p.route = q.route) (hservice : p.custody = .console → p.service = .outOfService) :
    RegisterLaw (w.setPoint p).points := by
  obtain ⟨hlen, htags, hroutes, hpoint⟩ := h
  have hsame : ∀ r ∈ w.points, r.tag = p.tag → r = q := by
    intro r hr htag
    have hinj := List.inj_on_of_nodup_map (List.pairwise_map.mpr (htags.imp Nat.ne_of_lt))
    exact hinj hr (Work.point_mem hq) (htag.trans (Work.point_tag hq).symm)
  have hfields : ∀ r ∈ w.points, (p.replaced r).kind = r.kind ∧ (p.replaced r).route = r.route := by
    intro r hr
    unfold Point.replaced
    split
    · next h => rw [hsame r hr h]; exact ⟨hkind, hroute⟩
    · exact ⟨rfl, rfl⟩
  rw [Work.setPoint_points]
  refine ⟨by simpa using hlen, List.pairwise_map.mpr (by simpa using htags),
    List.pairwise_map.mpr (hroutes.imp_of_mem fun {a b} ha hb hab => ?_), fun r hr => ?_⟩
  · rwa [(hfields a ha).2, (hfields b hb).2]
  · obtain ⟨a, ha, rfl⟩ := List.mem_map.mp hr
    obtain ⟨hzero, hchute, hconsole⟩ := hpoint a ha
    rw [Point.replaced_tag, (hfields a ha).1, (hfields a ha).2]
    refine ⟨hzero, hchute, ?_⟩
    unfold Point.replaced
    split
    · exact hservice
    · exact hconsole

/-- A record that joins keeps the law, where its tag is new and its route free (R37, R58). -/
theorem RegisterLaw.insertPoint {ps : List Point} (h : RegisterLaw ps) {p : Point} (hlen : ps.length < 2048)
    (hnew : ∀ q ∈ ps, q.tag ≠ p.tag) (hfree : ∀ q ∈ ps, p.route = none ∨ p.route ≠ q.route) (hzero : p.tag ≠ 0)
    (hchute : p.kind = .chute → p.route = none) (hservice : p.custody = .console → p.service = .outOfService) :
    RegisterLaw (insertPoint p ps) := by
  obtain ⟨-, htags, hroutes, hpoint⟩ := h
  have hperm := insertPoint_perm p ps
  refine ⟨?_, insertPoint_sorted hnew htags, ?_, fun q hq => ?_⟩
  · rw [hperm.length_eq]
    exact hlen
  · exact (hperm.pairwise_iff (fun h => routes_distinct_comm h)).mpr (List.pairwise_cons.mpr ⟨hfree, hroutes⟩)
  · obtain rfl | hq := List.mem_cons.mp (hperm.mem_iff.mp hq)
    · exact ⟨hzero, hchute, hservice⟩
    · exact hpoint q hq

/-- Records that leave keep the law of the others. -/
theorem RegisterLaw.sublist {ps qs : List Point} (h : RegisterLaw ps) (hs : qs.Sublist ps) : RegisterLaw qs := by
  obtain ⟨hlen, htags, hroutes, hpoint⟩ := h
  exact ⟨hs.length_le.trans hlen, htags.sublist hs, hroutes.sublist hs, fun p hp => hpoint p (hs.subset hp)⟩

theorem routeOf_chute {k : PointKind} (h : k = .chute) (ws : List RouteWindow) (tag : Nat) :
    routeOf ws tag k = none := by
  simp [routeOf, routeOutcome, h]

/-- Without a conflict no record holds the route of an earlier one (R59). -/
theorem routeConflict_none {seen ps : List Point} (h : routeConflict seen ps = none) :
    ps.Pairwise (fun p q => p.route = none ∨ p.route ≠ q.route) ∧
    ∀ q ∈ seen, ∀ p ∈ ps, q.route = none ∨ q.route ≠ p.route := by
  induction ps generalizing seen with
  | nil => simp
  | cons p ps ih =>
    unfold routeConflict at h
    split at h
    · cases h
    · next hfind =>
      obtain ⟨hps, hseen⟩ := ih h
      refine ⟨List.pairwise_cons.mpr ⟨fun q hq => hseen p (by simp) q hq, hps⟩, fun q hq r hr => ?_⟩
      obtain rfl | hr := List.mem_cons.mp hr
      · have hclash := List.find?_eq_none.mp hfind q hq
        cases hq' : q.route with
        | none => exact .inl rfl
        | some a =>
          refine .inr fun heq => hclash ?_
          simp [hq', ← heq]
      · exact hseen q (by simp [hq]) r hr

/-- Records with the routes of a window set under which none conflict keep the law (R57, R59). -/
theorem RegisterLaw.reroute {ps : List Point} (h : RegisterLaw ps) {ws : List RouteWindow}
    (hfree : routeConflict [] (reroute ws ps) = none) : RegisterLaw (reroute ws ps) := by
  obtain ⟨hlen, htags, -, hpoint⟩ := h
  refine ⟨by simpa [Machine.reroute] using hlen, List.pairwise_map.mpr htags, (routeConflict_none hfree).1, ?_⟩
  intro r hr
  obtain ⟨p, hp, rfl⟩ := List.mem_map.mp hr
  obtain ⟨hzero, -, hservice⟩ := hpoint p hp
  exact ⟨hzero, fun hk => routeOf_chute hk .., hservice⟩

/-! ### The law of the asks -/

/-- Asks that stay keep their law while their points keep custody and service (R65). -/
theorem Work.AskLaw.mono {w v : Work} (h : w.AskLaw) (hs : v.asks.Sublist w.asks)
    (hp : ∀ a ∈ v.asks, ∀ p, w.point a.tag = some p → p.custody = .line →
      ∃ q, v.point a.tag = some q ∧ q.custody = p.custody ∧ q.service = p.service) : v.AskLaw := by
  obtain ⟨hlen, htags, hpoint⟩ := h
  refine ⟨hs.length_le.trans hlen, htags.sublist hs, fun a ha => ?_⟩
  obtain ⟨p, hfind, hline, hservice⟩ := hpoint a (hs.subset ha)
  obtain ⟨q, hq, hcustody, hq'⟩ := hp a ha p hfind hline
  exact ⟨q, hq, hcustody.trans hline, hq'.trans hservice⟩

/-- A record replaced by one with its custody and service keeps the law of the asks, and so does any replaced record
that no ask stands on. -/
theorem Work.AskLaw.setPoint {w : Work} (h : w.AskLaw) {p : Point}
    (hp : ∀ q, w.point p.tag = some q → q.custody = .line → w.ask p.tag ≠ none →
      p.custody = q.custody ∧ p.service = q.service) : (w.setPoint p).AskLaw := by
  refine h.mono (v := w.setPoint p) (List.Sublist.refl _) fun a ha q hq hline => ?_
  rw [Work.point_setPoint]
  split
  · next htag =>
    have hask : w.ask p.tag ≠ none := fun hnone => List.find?_eq_none.mp hnone a ha (by simp [htag])
    obtain ⟨hc, hs⟩ := hp q (htag ▸ hq) hline hask
    exact ⟨p, by simp [hq], hc, hs⟩
  · exact ⟨q, hq, rfl, rfl⟩

/-- The point of an ask passes to the console as the ask is closed (R64, R67, R68). -/
theorem Work.AskLaw.passClose {w : Work} (h : w.AskLaw) (p : Point) :
    ((w.passToConsole p).closeAsk p.tag).AskLaw := by
  refine h.mono (v := (w.passToConsole p).closeAsk p.tag) List.filter_sublist fun a ha q hq _ => ?_
  have htag : a.tag ≠ p.tag := by simpa using (List.mem_filter.mp ha).2
  refine ⟨q, ?_, rfl, rfl⟩
  change (w.passToConsole p).point a.tag = some q
  rw [Work.passToConsole, Work.point_setPoint, if_neg htag, hq]

end Sys2Proof.Machine
end

section
/-! ## What keeps the laws of the register and of the asks -/

namespace Sys2Proof.Machine

/-- From `w` to `v` the law of the register is kept, and that of the asks. -/
structure Work.KeepsRegister (w v : Work) : Prop where
  points : RegisterLaw w.points → RegisterLaw v.points
  asks : w.AskLaw → v.AskLaw

theorem Work.KeepsRegister.refl (w : Work) : w.KeepsRegister w := ⟨id, id⟩

theorem Work.KeepsRegister.trans {u w v : Work} (h : u.KeepsRegister w) (h' : w.KeepsRegister v) : u.KeepsRegister v :=
  ⟨h'.points ∘ h.points, h'.asks ∘ h.asks⟩

/-- What leaves the register and the asks keeps their laws. -/
theorem Work.KeepsRegister.of_eq {w v : Work} (hp : v.points = w.points) (ha : v.asks = w.asks) :
    w.KeepsRegister v :=
  ⟨fun h => hp ▸ h, fun h => h.mono (v := v) (ha ▸ .refl _) fun _ _ p hfind _ =>
    ⟨p, by rwa [Work.point, hp], rfl, rfl⟩⟩

/-- A record replaced by one with its tag, kind and route, in a custody and service that fit, keeps both laws. -/
theorem Work.keepsRegister_setPoint {w : Work} {tag : Nat} {p q : Point} (hq : w.point tag = some q)
    (htag : p.tag = q.tag) (hkind : p.kind = q.kind) (hroute : p.route = q.route)
    (hservice : (q.custody = .console → q.service = .outOfService) → p.custody = .console → p.service = .outOfService)
    (hask : q.custody = .line → w.ask tag ≠ none → p.custody = q.custody ∧ p.service = q.service) :
    w.KeepsRegister (w.setPoint p) := by
  obtain rfl : p.tag = tag := htag.trans (Work.point_tag hq)
  refine ⟨fun h => ?_, fun h => h.setPoint fun r hr hline ha => ?_⟩
  · obtain ⟨-, -, -, hpoint⟩ := id h
    obtain ⟨-, -, hconsole⟩ := hpoint q (Work.point_mem hq)
    exact h.setPoint hq hkind hroute (hservice hconsole)
  · rw [hq, Option.some.injEq] at hr
    exact hr ▸ hask (hr ▸ hline) ha

/-- A point passes to the console, out of service, and its ask is closed (R64). -/
theorem Work.keepsRegister_passClose {w : Work} {tag : Nat} {p : Point} (hp : w.point tag = some p) :
    w.KeepsRegister ((w.passToConsole p).closeAsk tag) := by
  obtain rfl := Work.point_tag hp
  exact ⟨fun h => h.setPoint (p := { p with custody := .console, service := .outOfService }) hp rfl rfl fun _ => rfl,
    fun h => h.passClose p⟩

theorem Work.keepsRegister_closeAsk (w : Work) (tag : Nat) : w.KeepsRegister (w.closeAsk tag) :=
  ⟨id, fun h => h.mono (v := w.closeAsk tag) List.filter_sublist fun _ _ p hp _ => ⟨p, hp, rfl, rfl⟩⟩

/-- The cascades keep both laws. -/
theorem Work.CascadesTo.keeps {u w : Work} (h : u.CascadesTo w) : u.KeepsRegister w := by
  induction h with
  | refl => exact .refl _
  | rest _ hp ha ih => exact ih.trans (.of_eq hp ha)
  | proof x prior record _ hp ih =>
    exact ih.trans (Work.keepsRegister_setPoint hp rfl rfl rfl id fun _ _ => ⟨rfl, rfl⟩)
  | drain _ hp _ _ ih => exact ih.trans (Work.keepsRegister_passClose hp)

/-! ### The end of an event and the taking of a request -/

theorem settle_cascades (s : State) : s.work.CascadesTo s.settle.work := by
  have hend : s.work.CascadesTo s.work.endDistribution := by
    obtain ⟨h, -⟩ | ⟨d, -, -, h⟩ := s.work.endDistribution_cases
    · rw [h]
      exact .refl
    · rw [h]
      exact Work.CascadesTo.refl.rest rfl rfl
  exact hend.rest rfl rfl

/-- A request whose handling keeps the laws of the register and of the asks. -/
def KeepsRegister (handle : State → Reply) : Prop := ∀ s : State, s.work.KeepsRegister (handle s).state.work

/-- A request whose handling is a cascade of the core. -/
def Cascades (handle : State → Reply) : Prop := ∀ s : State, s.work.CascadesTo (handle s).state.work

theorem Cascades.keeps {handle : State → Reply} (h : Cascades handle) : KeepsRegister handle := fun s => (h s).keeps

theorem serve_keepsRegister {handle : State → Reply} (h : KeepsRegister handle) (k : Link) (rtag : Nat) (q : Request)
    (s : State) : s.work.KeepsRegister (serve k rtag q handle s).work := by
  have hhandle (p : Port) (f : Port → Port) :
      let r := handle (s.setPort k p)
      s.work.KeepsRegister ((r.state.setPort k (f (r.state.port k))).settle).work := by
    have hr := h (s.setPort k p)
    rw [State.setPort_work] at hr
    refine hr.trans ?_
    simpa using (settle_cascades ((handle (s.setPort k p)).state.setPort k _)).keeps
  unfold serve
  split
  · split
    · exact hhandle _ fun p => p.fillAnswer _
    · exact .refl _
  · split
    · dsimp only
      split
      · simpa using Work.KeepsRegister.refl _
      · exact hhandle _ fun p => p.pushAnswer _
    · exact .refl _

/-! ### The requests that write the register or the ask table -/

theorem disturb_keepsRegister {w : Work} {s : State} (h : w.KeepsRegister s.work) :
    w.KeepsRegister (disturb s).work := h

theorem createPoint_keepsRegister {tag : Nat} (htag : tag ≠ 0) (k : PointKind) (c : PointConfig) {s : State}
    (hnew : s.work.point tag = none) : s.work.KeepsRegister (createPoint tag k c s).state.work := by
  unfold createPoint
  split
  · exact .refl _
  · next hlen =>
    dsimp only
    split
    · exact .refl _
    · next hroute =>
      have htags : ∀ q ∈ s.work.points, q.tag ≠ tag := fun q hq => by
        simpa using List.find?_eq_none.mp hnew q hq
      refine ⟨fun h => h.insertPoint (by omega) htags (fun q hq => ?_) htag (fun hk => routeOf_chute hk ..)
        fun _ => rfl, fun h => h.mono (List.Sublist.refl _) fun a ha p hp _ => ⟨p, ?_, rfl, rfl⟩⟩
      · cases hr : routeOf s.routes tag k with
        | none => exact .inl rfl
        | some a =>
          refine .inr fun heq => hroute ?_
          simp only [hr, Option.isSome_some, Bool.true_and, List.any_eq_true, beq_iff_eq]
          exact ⟨q, hq, heq.symm⟩
      · have hne : tag ≠ a.tag := fun h => htags p (Work.point_mem hp) ((Work.point_tag hp).trans h.symm)
        exact (find?_insertPoint (p := newPoint tag k c _) hne _).trans hp

theorem replacePoint_keepsRegister (k : PointKind) (c : PointConfig) {p : Point} {s : State} {tag : Nat}
    (hp : s.work.point tag = some p) : s.work.KeepsRegister (replacePoint k c p s).state.work := by
  unfold replacePoint
  split
  · exact .refl _
  split
  · exact .refl _
  · next hline =>
    split
    · exact .refl _
    · split
      · exact .refl _
      · exact Work.keepsRegister_setPoint hp rfl rfl rfl id fun h => absurd h hline

theorem writePoint_keepsRegister (f : PointFields) : KeepsRegister (writePoint f) := by
  intro s
  unfold writePoint
  split
  · exact .refl _
  · next hcheck =>
    obtain ⟨-, -, -, htag, -⟩ := pointFields_check.mp hcheck
    split
    · split
      · next hnew => exact createPoint_keepsRegister htag _ _ hnew
      · next hp => exact replacePoint_keepsRegister _ _ hp
    · exact .refl _

theorem deletePoint_keepsRegister (tag : Nat) : KeepsRegister (deletePoint tag) := by
  intro s
  unfold deletePoint
  split
  · exact .refl _
  · next p hp =>
    split
    · exact .refl _
    · next hline =>
      split
      · exact .refl _
      · refine ⟨fun h => h.sublist List.filter_sublist, fun h => h.mono (List.Sublist.refl _) fun a ha q hq hc => ?_⟩
        have hne : a.tag ≠ tag := by
          rintro rfl
          rw [hp, Option.some.injEq] at hq
          exact hline (hq ▸ hc)
        refine ⟨q, ?_, rfl, rfl⟩
        refine Eq.trans ?_ hq
        simp only [Work.point, disturb, ok, State.mapWork, List.find?_filter]
        refine congrArg (List.find? · _) (funext fun r => ?_)
        by_cases hr : r.tag = a.tag <;> simp [hr, hne]

theorem clearRegister_keepsRegister : KeepsRegister clearRegister := by
  intro s
  unfold clearRegister
  split
  · exact .refl _
  · next hbusy =>
    have hasks : s.work.asks = [] := by simp_all
    refine ⟨fun h => h.sublist (List.nil_sublist _), fun h => h.mono (List.Sublist.refl _) fun a ha => ?_⟩
    simp [disturb, ok, State.mapWork, hasks] at ha

/-- Records that take new routes keep custody and service. -/
theorem Work.AskLaw.reroute {w : Work} (h : w.AskLaw) (ws : List RouteWindow) :
    Work.AskLaw { w with points := reroute ws w.points } := by
  refine h.mono (List.Sublist.refl _) fun a _ p hp _ => ⟨{ p with route := routeOf ws p.tag p.kind }, ?_, rfl, rfl⟩
  simp only [Work.point, Machine.reroute, List.find?_map]
  exact congrArg (Option.map _) hp

theorem writeWindow_keepsRegister (f : WindowFields) : KeepsRegister (writeWindow f) := by
  intro s
  unfold writeWindow
  split
  · exact .refl _
  · dsimp only
    split
    · exact .refl _
    · next hfree =>
      split
      · exact .refl _
      · exact ⟨fun h => h.reroute hfree, fun h => h.reroute _⟩

/-- A point in LINE custody without an ask passes to the console. -/
theorem takePoint_keepsRegister (tag : Nat) : KeepsRegister (takePoint tag) := by
  intro s
  unfold takePoint
  split
  · exact .refl _
  · next p hp =>
    split
    · exact .refl _
    split
    · exact .refl _
    · next hline hask =>
      split
      · split
        · exact .refl _
        · exact Work.keepsRegister_setPoint hp rfl rfl rfl (fun _ _ => rfl) fun _ h => absurd h (by simpa using hask)
      · next hin =>
        split
        · exact .refl _
        · next hlen =>
          obtain rfl := Work.point_tag hp
          refine ⟨id, fun ⟨_, htags, hpoint⟩ => ⟨?_, ?_, fun a ha => ?_⟩⟩
          · simpa [openAsk] using hlen
          · refine List.pairwise_append.mpr ⟨htags, by simp, fun a ha b hb => ?_⟩
            obtain rfl := List.mem_singleton.mp hb
            intro heq
            exact hask (List.find?_isSome.mpr ⟨a, ha, by simpa using heq⟩)
          · obtain ha | ha := List.mem_append.mp ha
            · exact hpoint a ha
            · obtain rfl := List.mem_singleton.mp ha
              refine ⟨p, hp, ?_, ?_⟩
              · cases hc : p.custody <;> simp_all
              · cases hs : p.service <;> simp_all

theorem giveBack_keepsRegister (tag : Nat) : KeepsRegister (giveBack tag) := by
  intro s
  unfold giveBack
  split
  · exact .refl _
  · next p hp =>
    split
    · exact .refl _
    · next hline =>
      split
      · exact .refl _
      · exact (Work.keepsRegister_setPoint (p := { p with custody := .line, service := .outOfService }) hp rfl rfl rfl
          (fun _ _ => rfl) fun h => absurd h hline).trans (.of_eq rfl rfl)

theorem setService_keepsRegister (tag service : Nat) : KeepsRegister (setService tag service) := by
  intro s
  unfold setService
  split
  · exact .refl _
  · split
    · exact .refl _
    · next p hp =>
      split
      · exact .refl _
      · next hconsole =>
        split
        · exact .refl _
        · next hask =>
          split
          · exact .refl _
          · exact Work.keepsRegister_setPoint hp rfl rfl rfl (fun _ h => absurd h hconsole)
              fun _ h => absurd h (by simpa using hask)

/-- An ask that drains stands on a point out of service (R65, R67). -/
theorem Work.keepsRegister_startDraining {w : Work} {p : Point} (hp : w.point p.tag = some p) :
    w.KeepsRegister ((w.setPoint { p with service := .outOfService }).startDraining p.tag) := by
  refine ⟨fun h => h.setPoint (p := { p with service := .outOfService }) hp rfl rfl fun _ => rfl,
    fun ⟨hlen, htags, hpoint⟩ => ⟨by simpa [Work.startDraining] using hlen, ?_, fun b hb => ?_⟩⟩
  · refine List.pairwise_map.mpr (htags.imp fun {a b} hab => ?_)
    split <;> split <;> exact hab
  · obtain ⟨a, ha, rfl⟩ := List.mem_map.mp hb
    obtain ⟨q, hq, hline, hservice⟩ := hpoint a ha
    have hread := w.point_setPoint { p with service := .outOfService } a.tag
    split
    · next htag =>
      rw [htag, hp, Option.some.injEq] at hq
      subst hq
      refine ⟨{ p with service := .outOfService }, ?_, hline, rfl⟩
      rw [if_pos htag, htag, hp] at hread
      exact htag ▸ hread
    · next htag =>
      rw [if_neg htag] at hread
      exact ⟨q, hread.trans hq, hline, hservice⟩

theorem answerAsk_keepsRegister (tag answer : Nat) : KeepsRegister (answerAsk tag answer) := by
  intro s
  unfold answerAsk
  split
  · exact .refl _
  split
  · exact .refl _
  · split
    · exact .refl _
    · split
      · exact (s.work.keepsRegister_closeAsk tag).trans (.of_eq rfl rfl)
      · split
        · exact .refl _
        · next p hp =>
          obtain rfl := Work.point_tag hp
          unfold releasePoint
          dsimp only
          split
          · exact (Work.keepsRegister_passClose hp).trans (.of_eq rfl rfl)
          · exact Work.keepsRegister_startDraining hp

end Sys2Proof.Machine
end

section
/-! ## What each command makes of the register and the asks -/

namespace Sys2Proof.Machine

/-! ### Requests that only cascade -/

theorem Cascades.of_work {handle : State → Reply} (h : ∀ s : State, (handle s).state.work = s.work) :
    Cascades handle := fun s => by rw [h s]; exact .refl

theorem digestRequest_work (k : Link) (s : State) : (digestRequest k s).state.work = s.work := by
  unfold digestRequest
  repeat' split
  all_goals rfl

theorem captureSet_work (k : Link) (f : CaptureFields) (s : State) : (captureSet k f s).state.work = s.work := by
  unfold captureSet
  dsimp only
  repeat' split
  all_goals rfl

theorem captureStop_work (k : Link) (n : Nat) (s : State) : (captureStop k n s).state.work = s.work := by
  unfold captureStop
  repeat' split
  all_goals rfl

theorem captureOff_work (n : Nat) (s : State) : (captureOff n s).state.work = s.work := by
  unfold captureOff
  split <;> rfl

theorem captureRead_work (k : Link) (n count : Nat) (s : State) : (captureRead k n count s).state.work = s.work := by
  unfold captureRead
  dsimp only
  repeat' split
  all_goals rfl

theorem fetchNotices_work (k : Link) (max : Nat) (s : State) : (fetchNotices k max s).state.work = s.work := by
  unfold fetchNotices
  split
  · rfl
  · exact State.setPort_work ..

theorem readPoint_state (tag : Nat) (s : State) : (readPoint tag s).state = s := by
  unfold readPoint
  split <;> rfl

theorem listPoints_state (f : ListFields) (s : State) : (listPoints f s).state = s := by
  unfold listPoints
  split <;> rfl

theorem readWindow_state (n : Nat) (s : State) : (readWindow n s).state = s := by
  unfold readWindow
  split <;> rfl

theorem readCarrier_state (k : Nat) (s : State) : (readCarrier k s).state = s := by
  unfold readCarrier
  repeat' split
  all_goals rfl

theorem readTrial_state (id : Nat) (s : State) : (readTrial id s).state = s := by
  unfold readTrial
  repeat' split
  all_goals rfl

theorem readBranch_state (code : Nat) (s : State) : (readBranch code s).state = s := by
  unfold readBranch
  split <;> rfl

theorem Cascades.of_state {handle : State → Reply} (h : ∀ s : State, (handle s).state = s) : Cascades handle :=
  .of_work fun s => congrArg State.work (h s)

theorem submitTrial_cascades (f : TrialFields) : Cascades (submitTrial f) := by
  intro s
  unfold submitTrial
  repeat' split
  case isFalse => exact Work.CascadesTo.refl.acceptTrial ..
  all_goals exact .refl

theorem cancelTrial_cascades (id : Nat) : Cascades (cancelTrial id) := by
  intro s
  unfold cancelTrial
  repeat' split
  · exact .refl
  · exact .refl
  · exact Work.CascadesTo.refl.finish ..

theorem restartBranch_cascades (code : Nat) : Cascades (restartBranch code) := by
  intro s
  unfold restartBranch
  repeat' split
  · exact .refl
  · exact .refl
  · exact (Work.CascadesTo.refl.enumerate ..).postBoth ..

theorem setLoopSpeed_cascades (speed : Nat) : Cascades (setLoopSpeed speed) := by
  intro s
  unfold setLoopSpeed
  split
  · exact .refl
  · exact Work.CascadesTo.refl.distribute ..

theorem discharge_cascades (k : Link) (n chute : Nat) : Cascades (discharge k n chute) := by
  intro s
  unfold discharge
  dsimp only
  repeat' split
  case h_2 => next hadd => exact Work.CascadesTo.refl.addEntry hadd
  all_goals exact .refl

theorem cancelDischarge_cascades (k : Link) (n : Nat) : Cascades (cancelDischarge k n) := by
  intro s
  unfold cancelDischarge
  repeat' split
  all_goals first | exact .refl | exact Work.CascadesTo.refl.endDischarge ..

theorem clearCarrier_cascades (n : Nat) : Cascades (clearCarrier n) := by
  intro s
  unfold clearCarrier
  repeat' split
  all_goals first | exact .refl | exact (Work.CascadesTo.refl.clearEntry ..).setLoad ..

theorem nodeQuery_cascades (k : Link) (rtag tag item : Nat) : Cascades (nodeQuery k rtag tag item) := by
  intro s
  unfold nodeQuery
  repeat' split
  all_goals first | exact .refl | exact Work.CascadesTo.refl.issue ..

/-! ### The events -/

namespace Work.CascadesTo

variable {u : Work} {s : State}

theorem mapWork {f : Work → Work} (hf : ∀ {w}, u.CascadesTo w → u.CascadesTo (f w)) (h : u.CascadesTo s.work) :
    u.CascadesTo (s.mapWork f).work := hf h

theorem settle (h : u.CascadesTo s.work) : u.CascadesTo s.settle.work := h.trans (settle_cascades s)

theorem lockChanged (before : Loop) (c : LockCause) (h : u.CascadesTo s.work) :
    u.CascadesTo (lockChanged before c s).work := by
  unfold Machine.lockChanged
  dsimp only
  refine lockWork _ _ ?_
  split
  · exact (h.postBoth ..).postBoth ..
  · exact h.postBoth ..

theorem loseLock (x : Lock) (c : LockCause) (h : u.CascadesTo s.work) : u.CascadesTo (loseLock x c s).work :=
  lockChanged _ _ (by exact h)

theorem checkHome (g : Geometry) (h : u.CascadesTo s.work) : u.CascadesTo (checkHome g s).work := by
  unfold Machine.checkHome
  dsimp only
  repeat' split
  · exact lockChanged _ _ (by exact h)
  · exact h
  · exact h.loseLock ..
  · exact h

theorem applyCount (g : Geometry) (delta : Int) (h : u.CascadesTo s.work) : u.CascadesTo (applyCount g delta s).work := by
  unfold Machine.applyCount moveBy
  dsimp only
  split
  · refine checkHome g ?_
    split
    · exact h
    · exact Work.CascadesTo.present _ _ _ _ (by exact h)
  · exact h

theorem encoderChange (a b : Bool) (h : u.CascadesTo s.work) : u.CascadesTo (encoderChange a b s).work := by
  unfold Machine.encoderChange
  dsimp only
  split
  · exact h
  · exact h
  · exact applyCount _ _ (by exact h)
  · exact applyCount _ _ (by exact h)
  · unfold illegalMove
    split
    · exact loseLock _ _ (by exact h)
    · exact loseLock _ _ (by exact h)
    · exact loseLock _ _ (by exact h)
    · exact h

theorem acceptedHome (g : Geometry) (h : u.CascadesTo s.work) : u.CascadesTo (acceptedHome g s).work := by
  have hsnap : u.CascadesTo (snapHome g s).work := by
    unfold snapHome
    dsimp only
    repeat' split
    · exact h
    · exact Work.CascadesTo.present _ _ _ _ (by exact h)
    · exact h
  unfold Machine.acceptedHome
  dsimp only
  split
  · exact lockChanged _ _ (by exact hsnap)
  · exact hsnap

theorem rejectedHome (h : u.CascadesTo s.work) : u.CascadesTo (rejectedHome s).work := by
  unfold Machine.rejectedHome
  dsimp only
  split
  · exact h.loseLock ..
  · exact h

theorem homeSeen (h : u.CascadesTo s.work) : u.CascadesTo (homeSeen s).work := by
  unfold Machine.homeSeen
  dsimp only
  repeat' split
  · exact h
  · exact h
  · exact lockChanged _ _ (by exact h)
  · exact lockChanged _ _ (by exact h)
  · exact h
  · exact h.acceptedHome _
  · exact h.rejectedHome
  · exact h.acceptedHome _
  · exact h.rejectedHome

theorem reverseLoss (h : u.CascadesTo s.work) : u.CascadesTo (reverseLoss s).work := by
  unfold Machine.reverseLoss
  repeat' split
  all_goals first | exact h | exact h.loseLock ..

theorem steadyTest (h : u.CascadesTo s.work) : u.CascadesTo (steadyTest s).work := by
  unfold Machine.steadyTest
  dsimp only
  split
  · exact h
  · exact reevaluate _ (postBoth _ _ (by exact h))

theorem takeEvent (br : Branch) (f : EventFields) (h : u.CascadesTo s.work) : u.CascadesTo (takeEvent br f s).work := by
  have hseq := (h.nodeHeard br f.node).sequenceEvent s.loop br f
  have hoffer {t : State} (tag : Nat) (x : CaptureRecord) (ht : u.CascadesTo t.work) :
      u.CascadesTo (offerCapture tag x t).work := by
    unfold offerCapture
    split
    · exact ht
    · split
      · dsimp only
        split
        · exact ht
        · exact ht.post ..
      · exact ht
  unfold Machine.takeEvent intake
  dsimp only
  split
  · split
    · exact hseq.setRing ..
    · exact hoffer _ _ (hseq.dispatch ..)
  · exact hseq

theorem badFrame (br : Branch) (h : u.CascadesTo s.work) : u.CascadesTo (s.mapWork (badFrame br)).work := h.setRing ..

theorem uplinkArrives (br : Branch) (f : UplinkFrame) (h : u.CascadesTo s.work) :
    u.CascadesTo (uplinkArrives br f s).work := by
  cases f with
  | event e =>
    unfold Machine.uplinkArrives eventArrives
    dsimp only
    split
    · exact h.takeEvent ..
    · exact h.badFrame br
  | reply e =>
    unfold Machine.uplinkArrives replyArrives
    dsimp only
    split
    · exact h.takeReply ..
    · exact h.badFrame br
  | announce e =>
    unfold Machine.uplinkArrives announceArrives
    dsimp only
    split
    · exact h.takeAnnounce ..
    · exact h.badFrame br

theorem uplinkFrames (br : Branch) (fuel : Nat) (bs : List Byte) (h : u.CascadesTo s.work) :
    u.CascadesTo (uplinkFrames br fuel bs s).work := by
  induction fuel generalizing bs s with
  | zero => exact h.setRing ..
  | succ fuel ih =>
    unfold Machine.uplinkFrames
    split
    · exact h.setRing ..
    · exact ih _ h
    · dsimp only
      repeat' split
      · exact (h.badFrame br).setRing ..
      · exact ih _ (h.badFrame br)
      · exact ih _ (h.badFrame br)
    · exact ih _ (h.uplinkArrives ..).settle

theorem uplinkBytes (br : Branch) (bs : List Byte) (h : u.CascadesTo s.work) : u.CascadesTo (uplinkBytes br bs s).work := by
  unfold Machine.uplinkBytes
  dsimp only
  generalize (if (s.work.ring br).hunting = true then _ else _ : List Byte) = bs
  split
  · exact h
  · exact h.uplinkFrames ..

/-- A frame that is taken only while its branch hears. -/
theorem heard {t : State} (ht : u.CascadesTo t.work) (h : u.CascadesTo s.work) (b : Bool) :
    u.CascadesTo (if b then t.settle else s).work := by
  cases b
  · exact h
  · exact ht.settle

theorem portReset (k : Link) (h : u.CascadesTo s.work) : u.CascadesTo (portReset k s).work := by
  have hposts : u.CascadesTo (s.work.post k .link (.started .port s.loop.fences)) := h.post ..
  cases k with
  | console => exact hposts
  | line =>
    refine foldl (fun {w} a h => ?_) _ hposts
    unfold askAgain
    repeat' split
    · exact h.post ..
    · exact h
    · exact h

theorem endWalk (h : u.CascadesTo s.work) : u.CascadesTo (endWalk s).work := by
  have hnotice {w : Work} (x : Walk) (k : Link) (hw : u.CascadesTo w) : u.CascadesTo (digestNotice x k w) := by
    unfold digestNotice
    split
    · exact hw.post ..
    · exact hw
  unfold Machine.endWalk
  split
  · exact h
  · exact hnotice _ _ (hnotice _ _ h)

theorem fenceZone (zone : Nat) (h : u.CascadesTo s.work) : u.CascadesTo (fenceZone zone s).work := by
  unfold Machine.fenceZone
  split
  · exact h
  · exact fenceWork _ _ (h.postBoth ..)

theorem unfenceZone (zone : Nat) (h : u.CascadesTo s.work) : u.CascadesTo (unfenceZone zone s).work := by
  unfold Machine.unfenceZone
  split
  · exact unfenceDrives _ _ (reevaluate _ (h.postBoth ..))
  · exact h

end Work.CascadesTo

theorem loadGeometry_cascades (f : GeometryFields) : Cascades (loadGeometry f) := by
  intro s
  unfold loadGeometry
  repeat' split
  · exact .refl
  · exact .refl
  · exact .refl
  · exact Work.CascadesTo.lockChanged _ _ (Work.CascadesTo.refl.rest rfl rfl)

/-- The 4 ms that pass leave each ask as it is, but for its time remaining (R65). -/
theorem Work.keepsRegister_elapse (s : State) : s.work.KeepsRegister (elapse s).work := by
  have htag (a : Ask) : a.elapse.tag = a.tag := by
    unfold Ask.elapse
    split <;> rfl
  have hdraining (a : Ask) : a.elapse.state = .draining ↔ a.state = .draining := by
    unfold Ask.elapse
    split <;> simp [*]
  refine ⟨id, fun ⟨hlen, htags, hpoint⟩ => ⟨by simpa [elapse] using hlen, ?_, fun b hb => ?_⟩⟩
  · exact List.pairwise_map.mpr (htags.imp fun {a b} hab => by rwa [htag, htag])
  · obtain ⟨a, ha, rfl⟩ := List.mem_map.mp hb
    simpa only [htag, hdraining, elapse, Work.point] using hpoint a ha

theorem sampleExpiry_keepsRegister (s : State) : s.work.KeepsRegister (sampleExpiry s).work := by
  have hsteady : s.work.CascadesTo
      (steadyTest (reverseLoss (s.setTracker s.loop.tracker.closeSample.sampleMotion))).work :=
    Work.CascadesTo.steadyTest (Work.CascadesTo.reverseLoss (by exact .refl))
  unfold sampleExpiry
  dsimp only
  refine .trans ?_ (Work.keepsRegister_elapse _)
  exact (Work.CascadesTo.jogsAgain _ (hsteady.recomputeFires _)).keeps

theorem expireAsk_keepsRegister (tag : Nat) (w : Work) : w.KeepsRegister (expireAsk tag w) := by
  unfold expireAsk
  repeat' split
  · exact .refl _
  · exact (w.keepsRegister_closeAsk tag).trans (.of_eq rfl rfl)
  · exact .refl _

/-- An empty register and an empty ask table meet their laws. -/
theorem Work.keepsRegister_empty {w v : Work} (hp : v.points = []) (ha : v.asks = []) : w.KeepsRegister v :=
  ⟨fun _ => by simp [RegisterLaw, hp], fun _ => by simp [Work.AskLaw, ha]⟩

/-! ### Every command -/

theorem exec_keepsRegister {c : Instr} {s t : State} (h : exec c s = .next t) : s.work.KeepsRegister t.work := by
  have hwork : s.work.CascadesTo s.work := .refl
  cases c with
  | powerOn x => cases h; rw [restart_eq]; exact Work.keepsRegister_empty rfl rfl
  | resetPin x => cases h; rw [restart_eq]; exact Work.keepsRegister_empty rfl rfl
  | breakBegin k => cases h; rw [State.setPort_work]; exact .refl _
  | portReset k => cases h; exact (hwork.portReset k).settle.keeps
  | breakEnd k => cases h; rw [State.setPort_work]; exact .refl _
  | requestFrame k bs => cases h; rw [State.setPort_work]; exact .refl _
  | loadGeometry rtag g => cases h; exact serve_keepsRegister (loadGeometry_cascades g).keeps ..
  | writePoint rtag p => cases h; exact serve_keepsRegister (writePoint_keepsRegister p) ..
  | deletePoint rtag tag => cases h; exact serve_keepsRegister (deletePoint_keepsRegister tag) ..
  | clearRegister rtag => cases h; exact serve_keepsRegister clearRegister_keepsRegister ..
  | writeWindow rtag w => cases h; exact serve_keepsRegister (writeWindow_keepsRegister w) ..
  | submitTrial rtag f => cases h; exact serve_keepsRegister (submitTrial_cascades f).keeps ..
  | cancelTrial rtag id => cases h; exact serve_keepsRegister (cancelTrial_cascades id).keeps ..
  | take rtag tag => cases h; exact serve_keepsRegister (takePoint_keepsRegister tag) ..
  | giveBack rtag tag => cases h; exact serve_keepsRegister (giveBack_keepsRegister tag) ..
  | restartBranch rtag code => cases h; exact serve_keepsRegister (restartBranch_cascades code).keeps ..
  | setLoopSpeed rtag speed => cases h; exact serve_keepsRegister (setLoopSpeed_cascades speed).keeps ..
  | setService rtag tag x => cases h; exact serve_keepsRegister (setService_keepsRegister tag x) ..
  | answerAsk rtag tag x => cases h; exact serve_keepsRegister (answerAsk_keepsRegister tag x) ..
  | discharge k rtag n chute => cases h; exact serve_keepsRegister (discharge_cascades k n chute).keeps ..
  | cancelDischarge k rtag n => cases h; exact serve_keepsRegister (cancelDischarge_cascades k n).keeps ..
  | clearCarrier k rtag n => cases h; exact serve_keepsRegister (clearCarrier_cascades n).keeps ..
  | readPoint k rtag tag => cases h; exact serve_keepsRegister (Cascades.of_state (readPoint_state tag)).keeps ..
  | listPoints k rtag q => cases h; exact serve_keepsRegister (Cascades.of_state (listPoints_state q)).keeps ..
  | readWindow k rtag n => cases h; exact serve_keepsRegister (Cascades.of_state (readWindow_state n)).keeps ..
  | readCarrier k rtag n => cases h; exact serve_keepsRegister (Cascades.of_state (readCarrier_state n)).keeps ..
  | readTracker k rtag => cases h; exact serve_keepsRegister (Cascades.of_state fun _ => rfl).keeps ..
  | readTrial k rtag id => cases h; exact serve_keepsRegister (Cascades.of_state (readTrial_state id)).keeps ..
  | readBranch k rtag code => cases h; exact serve_keepsRegister (Cascades.of_state (readBranch_state code)).keeps ..
  | nodeQuery k rtag tag item => cases h; exact serve_keepsRegister (nodeQuery_cascades k rtag tag item).keeps ..
  | digest k rtag => cases h; exact serve_keepsRegister (Cascades.of_work (digestRequest_work k)).keeps ..
  | captureSet k rtag f => cases h; exact serve_keepsRegister (Cascades.of_work (captureSet_work k f)).keeps ..
  | captureStop k rtag n => cases h; exact serve_keepsRegister (Cascades.of_work (captureStop_work k n)).keeps ..
  | captureOff k rtag n => cases h; exact serve_keepsRegister (Cascades.of_work (captureOff_work n)).keeps ..
  | captureRead k rtag n m => cases h; exact serve_keepsRegister (Cascades.of_work (captureRead_work k n m)).keeps ..
  | fetchNotices k rtag m => cases h; exact serve_keepsRegister (Cascades.of_work (fetchNotices_work k m)).keeps ..
  | encoderEvent a b => cases h; exact (hwork.encoderChange a b).settle.keeps
  | homeEvent => cases h; exact hwork.homeSeen.settle.keeps
  | sampleTimerExpiry => cases h; exact (sampleExpiry_keepsRegister s).trans (settle_cascades _).keeps
  | zoneFenced z => cases h; exact (hwork.fenceZone z).settle.keeps
  | zoneUnfenced z => cases h; exact (hwork.unfenceZone z).settle.keeps
  | ringSignalLost br => cases h; exact (Work.CascadesTo.mapWork (·.signalLost s.loop br) hwork).settle.keeps
  | ringSignalReturned br => cases h; exact (Work.CascadesTo.mapWork (·.signalReturned s.loop br) hwork).settle.keeps
  | announcePeriodEnd br => cases h; exact (Work.CascadesTo.mapWork (·.endAnnounce s.loop br) hwork).settle.keeps
  | uplinkBadFrame br bs => cases h; exact ((hwork.uplinkBytes br bs).heard hwork _).keeps
  | announceFrame br f => cases h; exact ((hwork.uplinkArrives br (.announce f)).heard hwork _).keeps
  | eventFrame br f => cases h; exact ((hwork.uplinkArrives br (.event f)).heard hwork _).keeps
  | replyFrame br f => cases h; exact ((hwork.uplinkArrives br (.reply f)).heard hwork _).keeps
  | downlinkFrameEnd br => cases h; exact (Work.CascadesTo.mapWork (·.frameEnd s.loop br) hwork).settle.keeps
  | replyDeadlineExpiry br tag =>
    cases h; exact (Work.CascadesTo.mapWork (·.expireTxn s.loop br tag) hwork).settle.keeps
  | askTimerExpiry tag => cases h; exact (expireAsk_keepsRegister tag s.work).trans (settle_cascades (s.mapWork (expireAsk tag))).keeps
  | digestWalkComplete => cases h; exact hwork.endWalk.settle.keeps
  | trialTimeExpiry id => cases h; exact (Work.CascadesTo.mapWork (·.expireTrial s.loop id) hwork).settle.keeps
  | pollTimerExpiry id => cases h; exact (Work.CascadesTo.mapWork (·.poll s.loop id) hwork).settle.keeps
  | answerFrameSent k => cases h; rw [State.setPort_work]; exact .refl _

end Sys2Proof.Machine

open Sys2Proof Sys2Proof.Machine

/-- Settles O13: the cascades of an event write proofs and pass drained points on, the requests of Chapters 3 to 5 are
checked one by one, and everything else leaves the register and the asks. -/
theorem registerLawKept : Obligations.RegisterLawKept := by
  unfold Obligations.RegisterLawKept
  have hstep {s t : State} (h : step s = .next t) : s.work.KeepsRegister t.work := by
    unfold step at h
    split at h
    · cases h
      exact .refl _
    · next rest _ => exact exec_keepsRegister (s := { s with pending := rest }) h
  exact ⟨fun s t hs h => (hstep h).points hs, fun s t hs h => (hstep h).asks hs⟩
end

section
/-! ## WRITE_POINT and DELETE_POINT (R39, R40, R41)

The tests of the model, each beside the condition of its rule. -/

namespace Sys2Proof.Machine

/-! ### The checks of R39 -/

theorem decodeOpt_eq_some {α : Type} {dec : Nat → Option α} {code : α → Nat}
    (h : ∀ n a, dec n = some a ↔ code a = n) {o : Option Nat} {x : Option α} :
    decodeOpt dec o = some x ↔ o = x.map code := by
  cases o <;> cases x <;> simp [decodeOpt, h, eq_comm]

theorem Edge.ofCode_eq_some (n : Nat) (e : Edge) : Edge.ofCode n = some e ↔ e.code = n := by
  unfold Edge.ofCode
  split <;> cases e <;> simp_all [Edge.code, eq_comm]

theorem Side.ofCode_eq_some (n : Nat) (x : Side) : Side.ofCode n = some x ↔ x.code = n := by
  unfold Side.ofCode
  split <;> cases x <;> simp_all [Side.code, eq_comm]

theorem entryOk_chute (w : Work) (c : PointConfig) :
    entryOk w .chute c = true ↔ ∀ e, c.entry = some e → ∃ p, w.point e = some p ∧ p.kind = .sensor := by
  unfold entryOk
  cases c.entry with
  | none => simp
  | some e => cases h : w.point e <;> simp [h]

theorem entryOk_other {k : PointKind} (h : k ≠ .chute) (w : Work) (c : PointConfig) : entryOk w k c = true := by
  cases k <;> first | rfl | exact absurd rfl h

/-- A WRITE_POINT's configuration is taken exactly where it passes the checks of R39. -/
theorem configures_iff {s : State} {f : PointFields} {k : PointKind} {c : PointConfig} :
    s.Configures f k c ↔ f.check (locationLimit s) = some (k, c) ∧ entryOk s.work k c = true := by
  rw [pointFields_check, PointKind.ofCode_eq_some, decodeOpt_eq_some Edge.ofCode_eq_some,
    decodeOpt_eq_some Side.ofCode_eq_some, State.Configures, locationLimit, Loop.geometry]
  have hedge : (f.edge = some 1 ∧ c.edge = some .rising) ∨ (f.edge = some 2 ∧ c.edge = some .falling) ↔
      f.edge = c.edge.map Edge.code ∧ f.edge.isSome = true := by
    cases c.edge with
    | none => simp
    | some e => cases e <;> simp [Edge.code] <;> grind
  have hside : (f.side = some 1 ∧ c.side = some .left) ∨ (f.side = some 2 ∧ c.side = some .right) ↔
      f.side = c.side.map Side.code ∧ f.side.isSome = true := by
    cases c.side with
    | none => simp
    | some x => cases x <;> simp [Side.code] <;> grind
  have hnoEdge : f.edge = none ∧ c.edge = none ↔ f.edge = c.edge.map Edge.code ∧ f.edge.isNone = true := by
    cases c.edge <;> simp +contextual
  have hnoSide : f.side = none ∧ c.side = none ↔ f.side = c.side.map Side.code ∧ f.side.isNone = true := by
    cases c.side <;> simp +contextual
  have hother (k : PointKind) (hk : k ≠ .chute) : entryOk s.work k c = true := entryOk_other hk ..
  cases s.loop.tracker.geometry <;> cases k
  case none.sensor | some.sensor =>
    simp only [PointFields.presence, PointKind.code, hedge, hnoSide, hother .sensor (by decide)]
    grind [Option.isNone_iff_eq_none]
  case none.chute | some.chute =>
    simp only [PointFields.presence, PointKind.code, hside, hnoEdge, entryOk_chute]
    grind [Option.isNone_iff_eq_none, Option.isSome_iff_exists]
  case none.induct | some.induct =>
    simp only [PointFields.presence, PointKind.code, hedge, hnoSide, hother .induct (by decide)]
    grind [Option.isNone_iff_eq_none]
  case none.zoneDrive | some.zoneDrive =>
    simp only [PointFields.presence, PointKind.code, hnoEdge, hnoSide, hother .zoneDrive (by decide)]
    grind [Option.isNone_iff_eq_none]

/-! ### The tests of an edit -/

/-- Some channel that is not OFF passes a test. -/
theorem any_channel_iff (cs : List (Option Channel)) (p : Channel → Bool) :
    (cs.any fun o => match o with | none => false | some c => p c) = true ↔
      ∃ c : Channel, some c ∈ cs ∧ p c = true := by
  simp only [List.any_eq_true]
  constructor
  · rintro ⟨_ | c, ho, hc⟩
    · cases hc
    · exact ⟨c, ho, hc⟩
  · rintro ⟨c, hc, h⟩
    exact ⟨some c, hc, h⟩

theorem captured_iff (cs : List (Option Channel)) (tag : Nat) :
    captured cs tag = true ↔ ∃ c : Channel, some c ∈ cs ∧ c.mode = .accept ∧ c.tag = tag :=
  (any_channel_iff cs fun c => decide (c.mode = .accept) && c.tag == tag).trans (by simp)

theorem anyAccept_iff (cs : List (Option Channel)) :
    anyAccept cs = true ↔ ∃ c : Channel, some c ∈ cs ∧ c.mode = .accept :=
  (any_channel_iff cs fun c => decide (c.mode = .accept)).trans (by simp)

theorem Work.underTrial_iff (w : Work) (tag : Nat) :
    w.underTrial tag = true ↔ ∃ t ∈ w.plan, t.kind ≠ .belt ∧ t.target = tag := by
  simp [Work.underTrial]

theorem Work.entrySensor_eq_some {w : Work} {chute tag : Nat} :
    w.entrySensor chute = some tag ↔ ∃ q, w.point chute = some q ∧ q.config.entry = some tag := by
  unfold Work.entrySensor
  split <;> simp [*]

theorem Work.servesTrial_iff (w : Work) (tag : Nat) :
    w.servesTrial tag = true ↔
      ∃ t ∈ w.plan, t.kind = .chute ∧ ∃ q, w.point t.target = some q ∧ q.config.entry = some tag := by
  simp [Work.servesTrial, Work.entrySensor_eq_some]

/-- What makes an edit BUSY is the work that refers to the point (R40). -/
theorem editBusy_iff (s : State) (p : Point) : editBusy s p = true ↔ s.Refers p := by
  simp only [editBusy, Bool.or_eq_true, Work.underTrial_iff, Work.servesTrial_iff, captured_iff, State.Refers, or_assoc]
  simp [Work.fireNames, Option.isSome_iff_ne_none]

/-- A request whose handling posts nothing and leaves the distribution is answered, and the state is as the handling
leaves it. -/
theorem serve_changes {s t : State} {k : Link} (h : s.Takes k) {rtag : Nat} (hr : rtag ≠ 0) (q : Request)
    (handle : State → Reply) {x : Status} {b : List Field} (hh : handle s = ⟨t, x, b⟩)
    (ho : t.work.outbox = s.work.outbox) (hd : t.work.dist = s.work.dist) :
    serve k rtag q handle s = t.answered k rtag q x b := by
  rw [serve_takes h hr, hh]
  exact (h.1.of_work ((congrArg Work.outbox (State.answered_work ..)).trans ho)
    ((congrArg Work.dist (State.answered_work ..)).trans hd)).settle

/-! ### WRITE_POINT by its checks -/

theorem Work.setPoint_tags (w : Work) (p : Point) : (w.setPoint p).points.map Point.tag = w.points.map Point.tag := by
  simp [Work.setPoint_points]

theorem writePoint_invalid {s : State} {f : PointFields} (h : ∀ k c, ¬s.Configures f k c) :
    writePoint f s = refuse s .invalid := by
  unfold writePoint
  split
  · rfl
  · next k c hcheck =>
    exact if_neg fun hentry => h k c (configures_iff.mpr ⟨hcheck, hentry⟩)

theorem writePoint_creates {s : State} {f : PointFields} {k : PointKind} {c : PointConfig}
    (h : s.Configures f k c) (hp : s.work.point f.tag = none) : writePoint f s = createPoint f.tag k c s := by
  obtain ⟨hcheck, hentry⟩ := configures_iff.mp h
  simp only [writePoint, hcheck, hentry, hp, if_true]

theorem writePoint_replaces {s : State} {f : PointFields} {k : PointKind} {c : PointConfig} {p : Point}
    (h : s.Configures f k c) (hp : s.work.point f.tag = some p) : writePoint f s = replacePoint k c p s := by
  obtain ⟨hcheck, hentry⟩ := configures_iff.mp h
  simp only [writePoint, hcheck, hentry, hp, if_true]

/-- A route that another record holds (R58). -/
theorem routeTaken_iff (ps : List Point) (route : Option Route) :
    (route.isSome && ps.any fun p => p.route == route) = true ↔ route ≠ none ∧ ∃ p ∈ ps, p.route = route := by
  simp [Option.isSome_iff_ne_none]

end Sys2Proof.Machine

open Sys2Proof Sys2Proof.Machine

/-- Settles O29: the checks of R39 are `configures_iff`, and past them a new tag is created by two further tests. -/
theorem writePointCreates : Obligations.WritePointCreates := by
  unfold Obligations.WritePointCreates
  intro s rtag f ht hr answers
  have refused {x : Status} (h : writePoint f s = refuse s x) : answers x :=
    congrArg Host.Outcome.next (serve_answers ht hr (.writePoint f) (writePoint f) h)
  refine ⟨fun h => refused (writePoint_invalid h), ?_⟩
  intro k c hc hnew route taken
  have hnone : s.work.point f.tag = none := List.find?_eq_none.mpr fun p hp => by simpa using hnew p hp
  have hcreate : writePoint f s = createPoint f.tag k c s := writePoint_creates hc hnone
  have htaken : (route.isSome && s.work.points.any fun p => p.route == route) = true ↔ taken :=
    routeTaken_iff s.work.points route
  refine ⟨fun hfull => refused ?_, fun hroom h => refused ?_, fun hroom h => ?_⟩
  · rw [hcreate, createPoint, if_pos hfull]
  · rw [hcreate, createPoint, if_neg (Nat.not_le.mpr hroom)]
    exact if_pos (htaken.mpr h)
  · have hstored : writePoint f s = ok (disturb (s.mapWork fun w =>
        { w with points := insertPoint (newPoint f.tag k c route) w.points })) (.u8 1 :: optField Route.fields route) := by
      rw [hcreate, createPoint, if_neg (Nat.not_le.mpr hroom)]
      exact if_neg (mt htaken.mp h)
    have hanswer := serve_changes ht hr (.writePoint f) (writePoint f) hstored rfl rfl
    clear_value route
    obtain _ | ⟨_ | _, node, channel⟩ := route
    · exact ⟨_, congrArg _ hanswer, insertPoint_perm .., insertPoint_sorted hnew⟩
    · exact ⟨_, congrArg _ hanswer, insertPoint_perm .., insertPoint_sorted hnew⟩
    · exact ⟨_, congrArg _ hanswer, insertPoint_perm .., insertPoint_sorted hnew⟩

/-- Settles O30: past the checks of R39 a known tag is replaced by the tests of R40, in order. -/
theorem writePointReplaces : Obligations.WritePointReplaces := by
  unfold Obligations.WritePointReplaces
  intro s rtag f k c p ht hr hc hp
  have hreplace : writePoint f s = replacePoint k c p s := writePoint_replaces hc hp
  have refused {x : Status} (h : replacePoint k c p s = refuse s x) :
      exec (.writePoint rtag f) s = .next (s.answered .console rtag (.writePoint f) x []) :=
    congrArg Host.Outcome.next (serve_answers ht hr (.writePoint f) (writePoint f) (hreplace.trans h))
  have hbusy := editBusy_iff s p
  refine ⟨fun hk => refused ?_, fun hk hline => refused ?_, fun hk hconsole hrefers => refused ?_,
    fun hk hconsole hrefers hsame => ?_, fun hk hconsole hrefers hchange => ?_⟩
  · simp [replacePoint, hk]
  · simp [replacePoint, hk, hline]
  · simp [replacePoint, hk, hconsole, hbusy.mpr hrefers]
  · have hkept : writePoint f s = ok (disturb s) [.u8 3] := by
      rw [hreplace]
      simp [replacePoint, hk, hconsole, mt hbusy.mp hrefers, hsame]
    exact congrArg Host.Outcome.next (serve_changes ht hr (.writePoint f) (writePoint f) hkept rfl rfl)
  · have hstored : writePoint f s = ok (disturb (s.mapWork fun w => w.setPoint
        { p with config := c, proof := .unproven, record := none, prior := none })) [.u8 2] := by
      rw [hreplace]
      simp [replacePoint, hk, hconsole, mt hbusy.mp hrefers, hchange]
    have hread := s.work.point_setPoint { p with config := c, proof := .unproven, record := none, prior := none }
    have htag := Work.point_tag hp
    refine ⟨_, congrArg Host.Outcome.next (serve_changes ht hr (.writePoint f) (writePoint f) hstored rfl rfl),
      (hread f.tag).trans ?_, Work.setPoint_tags .., fun u hu => (hread u).trans (if_neg (htag ▸ hu))⟩
    rw [if_pos htag.symm, hp]
    rfl

/-- Settles O31: the checks of R41 are tests in one order. -/
theorem deletePointRemoves : Obligations.DeletePointRemoves := by
  unfold Obligations.DeletePointRemoves
  intro s rtag tag ht hr entry
  have refused {x : Status} (h : deletePoint tag s = refuse s x) :
      exec (.deletePoint rtag tag) s = .next (s.answered .console rtag (.deletePoint tag) x []) :=
    congrArg Host.Outcome.next (serve_answers ht hr (.deletePoint tag) (deletePoint tag) h)
  have hbusy (p : Point) : (editBusy s p || s.work.isEntry tag) = true ↔ s.Refers p ∨ entry := by
    rw [Bool.or_eq_true, editBusy_iff]
    simp [Work.isEntry, entry]
  refine ⟨fun hp => refused ?_, fun p hp hline => refused ?_, fun p hp hconsole h => refused ?_,
    fun p hp hconsole h => ?_⟩
  · simp [deletePoint, hp]
  · simp [deletePoint, hp, hline]
  · simp only [deletePoint, hp, hconsole, (hbusy p).mpr h]
    simp
  · have hremoved : deletePoint tag s = ok (disturb (s.mapWork fun w =>
        { w with points := w.points.filter fun q => decide (q.tag ≠ tag) })) := by
      simp only [deletePoint, hp, hconsole, mt (hbusy p).mp h]
      simp [bne, beq_eq_decide]
    exact congrArg Host.Outcome.next (serve_changes ht hr (.deletePoint tag) (deletePoint tag) hremoved rfl rfl)

/-- Settles O32: the five tests of R42 are those of the model. -/
theorem clearRegisterEmpties : Obligations.ClearRegisterEmpties := by
  unfold Obligations.ClearRegisterEmpties
  intro s rtag ht hr busy
  have hbusy : (!s.work.plan.isEmpty || !s.work.fires.isEmpty || !s.work.asks.isEmpty || anyAccept s.channels ||
      s.work.dist.isSome) = true ↔ busy := by
    simp [busy, anyAccept_iff, or_assoc, Option.isSome_iff_ne_none]
  refine ⟨fun h => ?_, fun h => ?_⟩
  · have hrefused : clearRegister s = refuse s .busy := if_pos (hbusy.mpr h)
    exact congrArg Host.Outcome.next (serve_answers ht hr .clearRegister clearRegister hrefused)
  · have hcleared : clearRegister s = ok (disturb (s.mapWork fun w => { w with points := [] }))
        [.u16 s.work.points.length] := if_neg (mt hbusy.mp h)
    exact congrArg Host.Outcome.next (serve_changes ht hr .clearRegister clearRegister hcleared rfl rfl)
end

section
/-! ## The digest (R47 to R51) -/

namespace Sys2Proof.Machine

/-- The two running sums, by the sums of the words so far (R47). -/
theorem digestSums_eq (ws : List Nat) :
    digestSums ws = (ws.sum % 65535,
      ((List.range ws.length).map fun n => (ws.take (n + 1)).sum % 65535).sum % 65535) := by
  induction ws using List.reverseRecOn with
  | nil => rfl
  | append_singleton ws w ih =>
    have hprefix : (List.range ws.length).map (fun n => ((ws ++ [w]).take (n + 1)).sum % 65535) =
        (List.range ws.length).map fun n => (ws.take (n + 1)).sum % 65535 := by
      refine List.map_congr_left fun n hn => ?_
      rw [List.take_append_of_le_length (List.mem_range.mp hn)]
    have hlast : digestSums (ws ++ [w]) = digestWord (digestSums ws) w := by
      simp [digestSums, List.foldl_append]
    rw [hlast, ih, List.length_append, List.length_singleton, List.range_succ, List.map_append, hprefix]
    simp [digestWord]

theorem configWords_length (ps : List Point) (ws : List RouteWindow) :
    (configWords ps ws).length = 9 * ps.length + 7 * ws.length := by
  simp [configWords, List.length_flatMap, pointWords, windowWords, Nat.mul_comm]

/-- The end of a walk posts DIGEST_DONE to each link that waits (R50). -/
theorem endWalk_settle {s : State} (h : s.Quiet) {x : Walk} (hx : s.digest = some x) :
    (endWalk s).settle = (({ s with digest := none } : State).notified .line
        (if x.line then [.digestDone x.a x.b x.count x.disturbed] else [])).notified .console
        (if x.console then [.digestDone x.a x.b x.count x.disturbed] else []) := by
  have hquiet : State.Quiet { s with digest := none } := h
  have hends : endWalk s = ({ s with digest := none } : State).posting
      ((if x.line then [⟨.line, .digest, .digestDone x.a x.b x.count x.disturbed⟩] else []) ++
        if x.console then [⟨.console, .digest, .digestDone x.a x.b x.count x.disturbed⟩] else []) := by
    unfold endWalk
    rw [hx]
    cases hl : x.line <;> cases hc : x.console <;>
      simp [digestNotice, Walk.waits, hl, hc, State.posting, Work.post]
  rw [hends, State.settle_posting_one hquiet (b := .digest) (c := .digest)] <;>
    cases x.line <;> cases x.console <;> simp [postsTo]

end Sys2Proof.Machine

open Sys2Proof Sys2Proof.Machine

/-- Settles O33: the sums of a walk are those of its words, and a walk's end is `endWalk_settle`. -/
theorem digestWalks : Obligations.DigestWalks := by
  unfold Obligations.DigestWalks
  intro k s rtag ht hr pointWords' windowWords' words sumA sumB walk
  have hwords : words = configWords s.work.points s.routes := by
    have hpoint (p : Point) : pointWords' p = pointWords p := by
      simp only [pointWords', pointWords]
      cases p.kind <;> rcases p.config.edge with _ | _ | _ <;> rcases p.config.side with _ | _ | _ <;> rfl
    have hwindow (x : RouteWindow) : windowWords' x = windowWords x := by
      simp only [windowWords', windowWords]
      cases x.mode <;> rfl
    simp only [words, configWords, funext hpoint, funext hwindow]
  have hwalk : newWalk s k = walk := by
    simp only [newWalk, ← hwords, digestSums_eq, walk, sumB, sumA, List.take_length]
  have hwaits (x : Walk) : x.waits k = if k = .line then x.line else x.console := by cases k <;> rfl
  have changed {t : State} {x : Status} (h : digestRequest k s = ⟨t, x, []⟩) (hw : t.work = s.work) :
      exec (.digest k rtag) s = .next (t.answered k rtag .digest x []) :=
    congrArg Host.Outcome.next (serve_changes ht hr .digest (digestRequest k) h (by rw [hw]) (by rw [hw]))
  refine ⟨fun hroutes => ?_, fun hnone => changed ?_ rfl, fun x hx hw => ?_, fun x hx hw => changed ?_ rfl,
    fun hnone => congrArg Host.Outcome.next ?_, fun x hx => congrArg Host.Outcome.next (endWalk_settle ht.1 hx)⟩
  · rw [hwords, configWords_length, hroutes]
  · rw [digestRequest, hnone, hwalk]
  · intro joined
    have hjoined : joined = x.setWaiter k true := by cases k <;> rfl
    refine changed ?_ rfl
    rw [digestRequest, hx, hjoined]
    exact if_neg (by rw [hwaits, hw]; exact Bool.false_ne_true)
  · rw [digestRequest, hx]
    exact if_pos ((hwaits x).trans hw)
  · rw [endWalk, hnone]
    exact ht.1.settle
end

section
/-! ## A trial leaves the plan (R104, R111, R115, R119 to R121) -/

namespace Sys2Proof.Machine

/-- A fold whose first acting element does all there is to do. -/
theorem foldl_acts_once {α β : Type} {f : α → β → α} {p : β → Prop} {xs : List β} {a c : α}
    (hrest : ∀ b ∈ xs, ¬p b → f a b = a) (hact : ∀ b ∈ xs, p b → f a b = c) (hafter : ∀ b ∈ xs, f c b = c)
    (hsome : ∃ b ∈ xs, p b) : xs.foldl f a = c := by
  have hstays (ys : List β) (h : ∀ b ∈ ys, f c b = c) : ys.foldl f c = c := by
    induction ys with
    | nil => rfl
    | cons y ys ih => rw [List.foldl_cons, h y (by simp), ih fun b hb => h b (by simp [hb])]
  induction xs with
  | nil => simp at hsome
  | cons x xs ih =>
    rw [List.foldl_cons]
    by_cases hx : p x
    · rw [hact x (by simp) hx, hstays xs fun b hb => hafter b (by simp [hb])]
    · obtain ⟨b, hb, hp⟩ := hsome
      have hne : b ≠ x := fun he => hx (he ▸ hp)
      rw [hrest x (by simp) hx]
      exact ih (fun b hb => hrest b (by simp [hb])) (fun b hb => hact b (by simp [hb]))
        (fun b hb => hafter b (by simp [hb])) ⟨b, by simpa [hne] using hb, hp⟩

/-! ### Windows of the trial -/

/-- No announcement finds a trial to try again where none waits for window space (R104, R116). -/
theorem retry_noSpace (l : Loop) (p : Trial → Bool) {w : Work} (h : ∀ u ∈ w.plan, u.reasons.noSpace = false) :
    retry l p w = w := by
  refine List.foldl_fixed' (fun id => ?_) _
  unfold retryOne
  cases ht : w.trial id with
  | none => rfl
  | some t => simp [HoldReasons.onlyNoSpace, h t (List.mem_of_find?_eq_some ht)]

theorem announceSpace_noSpace (l : Loop) (before : Nat) (x : Window) {w : Work}
    (h : ∀ u ∈ w.plan, u.reasons.noSpace = false) : announceSpace l before x w = w := by
  unfold announceSpace
  cases x.purpose <;> simp [retry_noSpace l _ h]

theorem removeWindow_noSpace (l : Loop) (x : Window) {w : Work} (h : ∀ u ∈ w.plan, u.reasons.noSpace = false) :
    removeWindow l x w = w.dropWindow x.order :=
  announceSpace_noSpace l _ x (by exact h)

/-- One by one the windows `xs` leave the table (R111). -/
theorem foldl_removeWindow (l : Loop) (xs : List Window) {w : Work} (h : ∀ u ∈ w.plan, u.reasons.noSpace = false) :
    xs.foldl (fun w x => removeWindow l x w) w =
      { w with windows := w.windows.filter fun y => xs.all fun x => y.order != x.order } := by
  induction xs generalizing w with
  | nil => simp
  | cons x xs ih =>
    rw [List.foldl_cons, removeWindow_noSpace l x h, ih (by exact h)]
    simp [Work.dropWindow, Bool.and_comm]

/-- A trial's windows leave the table and no other does (R111). -/
theorem removeWindows_eq (l : Loop) {w : Work} {id : Nat}
    (hspace : (∀ y ∈ w.windows, y.trial ≠ id) ∨ ∀ u ∈ w.plan, u.reasons.noSpace = false)
    (horder : ∀ y ∈ w.windows, ∀ z ∈ w.windows, y.trial = id → z.trial ≠ id → y.order ≠ z.order) :
    (w.windows.filter fun x => x.trial == id).foldl (fun w x => removeWindow l x w) w =
      { w with windows := w.windows.filter fun y => decide (y.trial ≠ id) } := by
  rcases hspace with hnone | hspace
  · have hfilter : w.windows.filter (fun x => x.trial == id) = [] := by simpa using hnone
    have hkept : w.windows.filter (fun y => decide (y.trial ≠ id)) = w.windows := by simpa using hnone
    rw [hfilter, hkept, List.foldl_nil]
  · rw [foldl_removeWindow l _ hspace]
    refine congrArg (fun ys => { w with windows := ys }) (List.filter_congr fun y hy => ?_)
    rw [Bool.eq_iff_iff]
    simp only [List.all_eq_true, List.mem_filter, beq_iff_eq, bne_iff_ne, decide_eq_true_eq, and_imp]
    exact ⟨fun h hid => h y hy hid rfl, fun h z hz hid he => horder z hz y hy hid h he.symm⟩

/-! ### Entries of the trial -/

/-- `e` is what the fire list holds of the trial but for orphans. -/
def Work.OnlyEntry (w : Work) (id : Nat) (e : Entry) : Prop :=
  e ∈ w.fires ∧ e.trial = some id ∧ e.orphan = false ∧ ∀ z ∈ w.fires, z.trial = some id → z.orphan = false → z = e

/-- What the end of trial `t` does with its entries in `w`, where it has one at most (R119, R120): nothing, or the
entry leaves the list, or it stays as an orphan. -/
inductive EntriesEnd (t : Trial) (w : Work) : (Work → Work) → Prop
  | nothing (h : ∀ e ∈ w.fires, e.trial = some t.id → e.orphan = true) : EntriesEnd t w id
  | leaves {e : Entry} {f : LoadState → LoadState} (he : w.OnlyEntry t.id e)
      (hend : ∀ u, endEntry t u e = u.without e f) (hf : ∀ x, (f (f x).unbound).unbound = (f x).unbound) :
      EntriesEnd t w fun u => u.without e f
  | orphaned {e : Entry} (he : w.OnlyEntry t.id e) (hend : ∀ u, endEntry t u e = u.setEntry { e with orphan := true }) :
      EntriesEnd t w fun u => u.setEntry { e with orphan := true }

/-- An entry that has left the list leaves it no further. -/
theorem Work.without_without (w : Work) (e : Entry) {f : LoadState → LoadState}
    (hf : ∀ x, (f (f x).unbound).unbound = (f x).unbound) : (w.without e f).without e f = w.without e f := by
  simp [Work.without, Ring.withdraw, List.modify_modify_eq, Function.comp_def, hf]

theorem Work.setEntry_setEntry (w : Work) (e : Entry) : (w.setEntry e).setEntry e = w.setEntry e := by
  simp only [Work.setEntry, List.map_map]
  refine congrArg (fun es => { w with fires := es }) (List.map_congr_left fun z _ => ?_)
  by_cases hz : z.seq = e.seq <;> simp [hz]

/-- The trial's one entry is all that its end has to do with. -/
theorem Work.OnlyEntry.foldl {w : Work} {t : Trial} {e : Entry} (he : w.OnlyEntry t.id e) {g : Work → Work}
    (hg : ∀ u, endEntry t u e = g u) (hidem : ∀ u, g (g u) = g u) (u : Work) :
    (w.entriesOf t.id).foldl (endEntry t) u = g u := by
  obtain ⟨hmem, htrial, horphan, honly⟩ := he
  have hall : ∀ z ∈ w.entriesOf t.id, endEntry t u z = g u ∧ endEntry t (g u) z = g u := fun z hz => by
    obtain ⟨hz, hp⟩ := List.mem_filter.1 hz
    simp only [Bool.and_eq_true, beq_iff_eq, Bool.not_eq_true'] at hp
    obtain rfl := honly z hz hp.1 hp.2
    exact ⟨hg u, (hg _).trans (hidem u)⟩
  exact foldl_acts_once (p := fun _ => True) (fun _ _ hp => absurd trivial hp) (fun z hz _ => (hall z hz).1)
    (fun z hz => (hall z hz).2) ⟨e, List.mem_filter.2 ⟨hmem, by simp [htrial, horphan]⟩, trivial⟩

/-- The trial's entries end as `EntriesEnd` says, in any core with that fire list. -/
theorem EntriesEnd.foldl {t : Trial} {w : Work} {g : Work → Work} (h : EntriesEnd t w g) (u : Work) :
    (w.entriesOf t.id).foldl (endEntry t) u = g u := by
  cases h with
  | nothing h =>
    have hempty : w.entriesOf t.id = [] := by simpa [Work.entriesOf] using h
    rw [hempty]
    rfl
  | leaves he hend hf => exact he.foldl hend (fun u => u.without_without _ hf) u
  | @orphaned e he hend => exact he.foldl hend (fun u => u.setEntry_setEntry { e with orphan := true }) u

/-! ### The plan -/

/-- The core once the trial with this id and submission order has left it, but for its entries: its windows, its poll
timer and its waiting query are gone with it (R111, R119, R138). -/
def Work.unplanned (w : Work) (id order : Nat) : Work :=
  { w with
    plan := w.plan.filter fun u => decide (u.id ≠ id)
    windows := w.windows.filter fun y => decide (y.trial ≠ id)
    polls := w.polls.filter fun y => decide (y.trial ≠ id)
    ringA := w.ringA.withdraw (keepsQueries order)
    ringB := w.ringB.withdraw (keepsQueries order) }

/-- Drive trial `v` is the one QUEUED trial, a place is free for it, and `why` applies to it (R115, R116). -/
structure Work.NextDrive (w : Work) (l : Loop) (v : Trial) (why : HoldReasons) : Prop where
  queued : v.state = .queued
  drive : v.kind = .zoneDrive
  found : w.trial v.id = some v
  only : ∀ u ∈ w.plan, u.state = .queued → u = v
  room : w.running < 16
  reasons : reasonsNow l w v = why

/-- What activation makes of a core with one QUEUED trial at most, on a drive (R115, R116, R138). -/
inductive Activates (l : Loop) (w : Work) : Work → Prop
  | nothing (h : ∀ u ∈ w.plan, u.state ≠ .queued) : Activates l w w
  | held {v : Trial} {why : HoldReasons} (h : w.NextDrive l v why) (hwhy : why ≠ .clear) :
      Activates l w (w.setTrial { v with state := .held, reasons := why })
  | begun {v : Trial} (h : w.NextDrive l v .clear) :
      Activates l w { w.setTrial { v with state := .active, reasons := .clear } with
        polls := w.polls ++ [⟨v.id, l.clock + 100⟩] }

theorem activateOne_notQueued {l : Loop} {w : Work} {id : Nat} (h : ∀ u, w.trial id = some u → u.state ≠ .queued) :
    activateOne l w id = w := by
  unfold activateOne
  cases ht : w.trial id with
  | none => rfl
  | some u => simp [h u ht]

theorem activate_nothing {l : Loop} {w : Work} (h : ∀ u ∈ w.plan, u.state ≠ .queued) : activate l w = w :=
  List.foldl_fixed' (fun _ => activateOne_notQueued fun u hu => h u (List.mem_of_find?_eq_some hu)) _

/-- The reasons of a drive trial: the lock and window space are not among them (R116). -/
theorem reasonsNow_drive (l : Loop) (w : Work) {v : Trial} (hv : v.kind = .zoneDrive) :
    reasonsNow l w v = ⟨false, !l.tracker.steady, zoneFenced l w v.target, false⟩ := by
  simp [reasonsNow, workFenced, hv]

/-- For a drive trial, no hold reason is none but NO_WINDOW_SPACE. -/
theorem Work.NextDrive.others {w : Work} {l : Loop} {v : Trial} {why : HoldReasons} (h : w.NextDrive l v why) :
    why.others = true ↔ why ≠ .clear := by
  rw [← h.reasons, reasonsNow_drive l w h.drive]
  cases l.tracker.steady <;> cases zoneFenced l w v.target <;> decide

/-- The trial named by its own id is taken for activation. -/
theorem Work.NextDrive.activateOne_eq {w : Work} {l : Loop} {v : Trial} {why : HoldReasons} (h : w.NextDrive l v why) :
    activateOne l w v.id = if why.others then w.setTrial { v with state := .held, reasons := why } else
      goActive l v w := by
  simp only [activateOne, h.found, h.queued, h.reasons, decide_eq_true h.room, decide_true, Bool.and_self, if_true]

theorem Work.trial_id {w : Work} {id : Nat} {t : Trial} (h : w.trial id = some t) : t.id = id := by
  simpa using List.find?_some (p := fun u : Trial => u.id == id) h

theorem Work.mem_setTrial {w : Work} {t u : Trial} (h : u ∈ (w.setTrial t).plan) :
    u = t ∨ u ∈ w.plan ∧ u.id ≠ t.id := by
  obtain ⟨z, hz, rfl⟩ := List.mem_map.1 h
  by_cases hid : z.id = t.id
  · exact .inl (if_pos hid)
  · exact .inr ((if_neg hid).symm ▸ ⟨hz, hid⟩)

/-- Once trial `v` is no longer QUEUED, activation finds nothing more to do. -/
theorem Work.NextDrive.activate_eq {w u : Work} {l : Loop} {v v' : Trial} {why : HoldReasons} (h : w.NextDrive l v why)
    (hu : activateOne l w v.id = u) (hplan : u.plan = (w.setTrial v').plan) (hid : v'.id = v.id)
    (hv : v'.state ≠ .queued) : activate l w = u := by
  have hmem : v ∈ w.plan := List.mem_of_find?_eq_some h.found
  have hdone : ∀ z ∈ u.plan, z.state ≠ .queued := fun z hz hq => by
    rcases Work.mem_setTrial (hplan ▸ hz) with rfl | ⟨hz, hne⟩
    · exact hv hq
    · exact hne ((congrArg Trial.id (h.only z hz hq)).trans hid.symm)
  refine foldl_acts_once (p := fun id => id = v.id) (fun id _ hne => ?_) (fun id _ he => he ▸ hu) (fun id _ => ?_)
    ⟨v.id, List.mem_map_of_mem hmem, rfl⟩
  · refine activateOne_notQueued fun z hz hq => hne ?_
    obtain rfl := h.only z (List.mem_of_find?_eq_some hz) hq
    exact (Work.trial_id hz).symm
  · exact activateOne_notQueued fun z hz => hdone z (List.mem_of_find?_eq_some hz)

theorem Activates.activate {l : Loop} {w w' : Work} (h : Activates l w w') : activate l w = w' := by
  cases h with
  | nothing h => exact activate_nothing h
  | held h hwhy => exact h.activate_eq (h.activateOne_eq.trans (if_pos (h.others.2 hwhy))) rfl rfl (by simp)
  | @begun v h =>
    have hgo : goActive l v w = { w.setTrial { v with state := .active, reasons := .clear } with
        polls := w.polls ++ [⟨v.id, l.clock + 100⟩] } := by
      rw [goActive, beginWork, h.drive]
      rfl
    exact h.activate_eq (v' := { v with state := .active, reasons := .clear })
      ((h.activateOne_eq.trans (if_neg (by decide))).trans hgo) rfl rfl (by simp)

/-- Activation reads neither the outbox nor writes it. -/
theorem Activates.post {l : Loop} {w w' : Work} (h : Activates l w w') (k : Link) (b : Block) (n : Notice) :
    Activates l (w.post k b n) (w'.post k b n) := by
  cases h with
  | nothing h => exact .nothing h
  | held h hwhy =>
    obtain ⟨hq, hk, hf, ho, hr, hn⟩ := h
    exact Activates.held (w := w.post k b n) ⟨hq, hk, hf, ho, hr, hn⟩ hwhy
  | begun h =>
    obtain ⟨hq, hk, hf, ho, hr, hn⟩ := h
    exact Activates.begun (w := w.post k b n) ⟨hq, hk, hf, ho, hr, hn⟩

theorem Activates.frame {l : Loop} {w w' : Work} (h : Activates l w w') :
    w'.outbox = w.outbox ∧ w'.dist = w.dist := by
  cases h <;> exact ⟨rfl, rfl⟩

/-- Activation of a drive makes no chute trial ACTIVE. -/
theorem Activates.noChute {l : Loop} {w w' : Work} (h : Activates l w w')
    (hplan : ∀ u ∈ w.plan, u.kind = .chute → u.state ≠ .active) :
    ∀ u ∈ w'.plan, u.kind = .chute → u.state ≠ .active := by
  have hset {v v' : Trial} {why : HoldReasons} (h : w.NextDrive l v why) (hkind : v'.kind = v.kind) :
      ∀ u ∈ (w.setTrial v').plan, u.kind = .chute → u.state ≠ .active := fun u hu => by
    rcases Work.mem_setTrial hu with rfl | ⟨hu, -⟩
    · simp [hkind, h.drive]
    · exact hplan u hu
  cases h with
  | nothing h => exact hplan
  | held h hwhy => exact hset h rfl
  | begun h => exact hset h rfl

/-- A claim pass claims nothing where no chute trial is ACTIVE (R125). -/
theorem claimPass_noChute (l : Loop) {w : Work} (h : ∀ u ∈ w.plan, u.kind = .chute → u.state ≠ .active) :
    claimPass l w = w := by
  have hnone : w.plan.find? Trial.claims = none := List.find?_eq_none.2 fun u hu hc => by
    simp only [Trial.claims, Trial.isActive, Bool.and_eq_true, decide_eq_true_eq] at hc
    exact h u hu hc.1.1 hc.1.2
  exact List.foldl_fixed' (fun k => by simp [claimOne, hnone]) _

/-! ### Completion and cancellation -/

theorem stopPolls_eq (t : Trial) (w : Work) :
    stopPolls t w = { w with
      polls := w.polls.filter fun y => decide (y.trial ≠ t.id)
      ringA := w.ringA.withdraw (keepsQueries t.order)
      ringB := w.ringB.withdraw (keepsQueries t.order) } := by
  simp [stopPolls, Work.withdrawQuery_eq, Work.withdraw, bne, Bool.beq_eq_decide_eq]

section
variable {l : Loop} {t : Trial} {w w' : Work} {g : Work → Work}
  (hchute : ∀ u ∈ w.plan, u.id ≠ t.id → u.kind = .chute → u.state ≠ .active)
  (hspace : (∀ y ∈ w.windows, y.trial ≠ t.id) ∨ ∀ u ∈ w.plan, u.reasons.noSpace = false)
  (horder : ∀ y ∈ w.windows, ∀ z ∈ w.windows, y.trial = t.id → z.trial ≠ t.id → y.order ≠ z.order)
  (hends : EntriesEnd t w g)
include hchute hspace horder hends

/-- The trial leaves the plan with its windows and entries, TRIAL_DONE is posted, and activation is tried (R119,
R121). -/
theorem leavePlan_eq (hnext : Activates l ((g w).unplanned t.id t.order) w') (x : TrialResult) (why : Option FailReason) :
    leavePlan l t x why w = w'.post .console .trials (trialDone l t x why) := by
  have hgone : stopPolls t { g { w with windows := w.windows.filter fun y => decide (y.trial ≠ t.id) } with
      plan := (g { w with windows := w.windows.filter fun y => decide (y.trial ≠ t.id) }).plan.filter fun u =>
        u.id != t.id } = (g w).unplanned t.id t.order := by
    rw [stopPolls_eq]
    cases hends <;> simp [Work.unplanned, Work.without, Work.setEntry, bne, Bool.beq_eq_decide_eq]
  have hplan : (g w).plan = w.plan := by cases hends <;> rfl
  have hclaim := claimPass_noChute l (w := w'.post .console .trials (trialDone l t x why))
    (hnext.noChute fun u hu => by
      obtain ⟨hu, hid⟩ := List.mem_filter.1 hu
      exact hchute u (hplan ▸ hu) (of_decide_eq_true hid))
  unfold leavePlan
  dsimp only
  rw [removeWindows_eq l hspace horder]
  rw [show Work.entriesOf { w with windows := w.windows.filter fun y => decide (y.trial ≠ t.id) } t.id =
    w.entriesOf t.id from rfl, hends.foldl, hgone, (hnext.post ..).activate, hclaim, ite_self]

end

end Sys2Proof.Machine
end

section
/-! ## The ends of a trial (R43, R44, R117 to R121, R139, R142) -/

namespace Sys2Proof.Machine

/-! ### How an entry ends (R119, R120) -/

/-- The carrier state of an orphaned chute item's reply (R120). -/
def ItemReply.load : ItemReply → LoadState
  | .doneGone => .empty
  | .doneKept => .fault .beltFault
  | .fault => .fault .beltFault
  | .timeout => .fault .noReply
  | .ringRestart => .fault .noReply

theorem orphanEffect_item {e : Entry} (ho : e.origin = .chuteItem) (x : ItemReply) (w : Work) :
    orphanEffect e x w = applyLoad e.carrier x.load w := by
  unfold orphanEffect
  rw [ho]
  cases x <;> rfl

theorem LoadState.unbound_unbound (x : LoadState) : x.unbound.unbound = x.unbound := by
  cases x <;> rfl

/-- A reply leaves no load for CONSOLE, so that it acts once. -/
theorem ItemReply.load_once (x : ItemReply) (y : LoadState) :
    (x.load.whereConsole (x.load.whereConsole y).unbound).unbound = (x.load.whereConsole y).unbound := by
  rcases y with _ | ⟨_ | _, ref, dest⟩ | why <;> cases x <;> rfl

section
variable {t : Trial} {e : Entry} (u : Work)

theorem endEntry_waiting (hs : e.state = .waiting) : endEntry t u e = u.without e id := by
  rw [endEntry, hs, ← removeEntry_eq]

theorem endEntry_sent (hs : e.state = .sent) (hi : ∀ i ∈ t.items, i.carrier = e.carrier → i.reply = none) :
    endEntry t u e = u.setEntry { e with orphan := true } := by
  have hnone : (t.items.find? fun i => i.carrier == e.carrier).bind Item.reply = none := by
    cases hfind : t.items.find? fun i => i.carrier == e.carrier with
    | none => rfl
    | some i => exact hi i (List.mem_of_find?_eq_some hfind) (by simpa using List.find?_some hfind)
  simp only [endEntry, hs, hnone]

theorem endEntry_replied (hs : e.state = .sent) (ho : e.origin = .chuteItem) {i : Item} {x : ItemReply}
    (hi : t.items.find? (fun j => j.carrier == e.carrier) = some i) (hx : i.reply = some x) :
    endEntry t u e = u.without e x.load.whereConsole := by
  simp only [endEntry, hs, hi, Option.bind_some, hx]
  rw [orphanEffect_item ho, removeEntry_applyLoad]

end

section
variable {t : Trial} {w : Work} {g : Work → Work} (h : EntriesEnd t w g)
include h

/-- The end of the entries reads the fire list and the trial's items alone. -/
theorem EntriesEnd.congr {t' : Trial} {w' : Work} (hid : t'.id = t.id) (hitems : t'.items = t.items)
    (hfires : w'.fires = w.fires) : EntriesEnd t' w' g := by
  have hsame (u : Work) (e : Entry) : endEntry t' u e = endEntry t u e := by rw [endEntry, endEntry, hitems]
  cases h with
  | nothing h => exact .nothing (by rwa [hid, hfires])
  | leaves he hend hf => exact .leaves (by rwa [Work.OnlyEntry, hid, hfires]) (fun u => (hsame u _).trans (hend u)) hf
  | orphaned he hend => exact .orphaned (by rwa [Work.OnlyEntry, hid, hfires]) fun u => (hsame u _).trans (hend u)

/-- What the end of the entries leaves. -/
theorem EntriesEnd.frame (u : Work) :
    (g u).plan = u.plan ∧ (g u).points = u.points ∧ (g u).outbox = u.outbox ∧ (g u).dist = u.dist := by
  cases h <;> exact ⟨rfl, rfl, rfl, rfl⟩

theorem EntriesEnd.setPoint (u : Work) (p : Point) : g (u.setPoint p) = (g u).setPoint p := by
  cases h <;> rfl

end

/-- A change of one element by `h` and of one by `f`, where the two commute. -/
theorem modify_set_comm {α : Type} (xs : List α) (j k : Nat) {f h : α → α} (hfh : ∀ x, f (h x) = h (f x)) {x y : α}
    (hx : xs[k]? = some x) (hy : (xs.modify j f)[k]? = some y) :
    (xs.set k (h x)).modify j f = (xs.modify j f).set k (h y) := by
  have hset (zs : List α) (z : α) (hz : zs[k]? = some z) : zs.set k (h z) = zs.modify k h := by
    rw [List.modify_eq_set_getElem?, hz]
    rfl
  rw [hset xs x hx, hset _ y hy]
  refine List.ext_getElem? fun n => ?_
  simp only [List.getElem?_modify]
  by_cases hj : j = n <;> by_cases hk : k = n <;> cases xs[n]? <;> simp [hj, hk, hfh]

/-- The proof of a carrier is written before its load ends, or after. -/
theorem EntriesEnd.setCarrier {t : Trial} {w : Work} {g : Work → Work} (h : EntriesEnd t w g) {k : Nat} {c : Carrier}
    (hc : (g w).carriers[k]? = some c) :
    ∃ c₀, w.carriers[k]? = some c₀ ∧ c₀.prior = c.prior ∧ c₀.belt = c.belt ∧
      ∀ p q b, g (w.setCarrier k { c₀ with proof := p, prior := q, belt := b }) =
        (g w).setCarrier k { c with proof := p, prior := q, belt := b } := by
  cases h with
  | nothing => exact ⟨c, hc, rfl, rfl, fun _ _ _ => rfl⟩
  | orphaned => exact ⟨c, hc, rfl, rfl, fun _ _ _ => rfl⟩
  | @leaves e f =>
    obtain ⟨c₀, hc₀, hload⟩ := Option.map_eq_some_iff.1 ((List.getElem?_modify ..).symm.trans hc)
    refine ⟨c₀, hc₀, ?_, ?_, fun p q b => ?_⟩
    · split at hload <;> rw [← hload]
    · split at hload <;> rw [← hload]
    · exact congrArg (fun cs => { w.without e f with carriers := cs })
        (modify_set_comm w.carriers e.carrier k (h := fun c => { c with proof := p, prior := q, belt := b })
          (fun _ => rfl) hc₀ hc)

/-! ### The result is written (R43, R44, R142) -/

theorem writeResult_point (l : Loop) {t : Trial} {w : Work} {p : Point} (hk : t.kind ≠ .belt)
    (hp : w.point t.target = some p) (x : TrialResult) (why : Option FailReason) :
    writeResult l t x why w = w.setPoint { p with
      proof := x.proof p.prior
      prior := none
      record := if x = .cancelled then p.record else some (proofRecord l t x why) } := by
  unfold writeResult
  split
  · contradiction
  · simp only [hp]

theorem writeResult_belt (l : Loop) {t : Trial} {w : Work} {c : Carrier} (hk : t.kind = .belt)
    (hc : w.carriers[t.target]? = some c) (x : TrialResult) (why : Option FailReason) :
    writeResult l t x why w = w.setCarrier t.target { c with
      proof := x.proof c.prior
      prior := none
      belt := if x = .cancelled then c.belt else some (beltRecord t) } := by
  simp only [writeResult, hk, Work.carrier, hc]

/-! ### A trial ends (R119, R121) -/

/-- The end of `t` in `w` leaves `w'`, with TRIAL_DONE for the console, and keeps what the end of an event reads. -/
def Work.EndsTo (w : Work) (l : Loop) (t : Trial) (x : TrialResult) (why : Option FailReason) (w' : Work) : Prop :=
  finish l t x why w = w'.post .console .trials (trialDone l t x why) ∧ w'.outbox = w.outbox ∧ w'.dist = w.dist

section
variable {l : Loop} {t : Trial} {w w' : Work} {g : Work → Work} (x : TrialResult) (why : Option FailReason)
  (hchute : ∀ u ∈ w.plan, u.id ≠ t.id → u.kind = .chute → u.state ≠ .active)
  (hspace : (∀ y ∈ w.windows, y.trial ≠ t.id) ∨ ∀ u ∈ w.plan, u.reasons.noSpace = false)
  (horder : ∀ y ∈ w.windows, ∀ z ∈ w.windows, y.trial = t.id → z.trial ≠ t.id → y.order ≠ z.order)
  (hends : EntriesEnd t w g)
include hchute hspace horder hends

theorem endsTo_point (hk : t.kind ≠ .belt) {p : Point} (hp : w.point t.target = some p)
    (hnext : Activates l (((g w).setPoint { p with
      proof := x.proof p.prior
      prior := none
      record := if x = .cancelled then p.record else some (proofRecord l t x why) }).unplanned t.id t.order) w') :
    w.EndsTo l t x why w' := by
  obtain ⟨-, -, hout, hdist⟩ := hends.frame w
  refine ⟨?_, hnext.frame.1.trans hout, hnext.frame.2.trans hdist⟩
  rw [finish, writeResult_point l hk hp]
  rw [← hends.setPoint] at hnext
  exact leavePlan_eq (w := w.setPoint _) hchute hspace horder (hends.congr rfl rfl rfl) hnext x why

theorem endsTo_belt (hk : t.kind = .belt) {c : Carrier} (hc : (g w).carriers[t.target]? = some c)
    (hnext : Activates l (((g w).setCarrier t.target { c with
      proof := x.proof c.prior
      prior := none
      belt := if x = .cancelled then c.belt else some (beltRecord t) }).unplanned t.id t.order) w') :
    w.EndsTo l t x why w' := by
  obtain ⟨-, -, hout, hdist⟩ := hends.frame w
  refine ⟨?_, hnext.frame.1.trans hout, hnext.frame.2.trans hdist⟩
  obtain ⟨c₀, hc₀, hprior, hbelt, hset⟩ := hends.setCarrier hc
  rw [finish, writeResult_belt l hk hc₀, hprior, hbelt]
  rw [← hset] at hnext
  exact leavePlan_eq (w := w.setCarrier t.target _) hchute hspace horder (hends.congr rfl rfl rfl) hnext x why

end

/-! ### The events that end a trial -/

theorem exec_cancelTrial {s : State} {id rtag : Nat} {t : Trial} {w' : Work} (hs : s.Takes .console) (hr : rtag ≠ 0)
    (h1 : 1 ≤ id) (h255 : id ≤ 255) (ht : s.work.trial id = some t)
    (hend : s.work.EndsTo s.loop t .cancelled none w') :
    exec (.cancelTrial rtag id) s = .next
      (({ s with work := w' }.answered .console rtag (.cancelTrial id) .ok []).notified .console
        [trialDone s.loop t .cancelled none]) := by
  obtain ⟨hfinish, hout, hdist⟩ := hend
  have hhandle : cancelTrial id s =
      ok { s with work := w'.post .console .trials (trialDone s.loop t .cancelled none) } := by
    simp [cancelTrial, within, h1, h255, ht, State.mapWork, hfinish]
  have hquiet : ({ s with work := w' }.answered .console rtag (.cancelTrial id) .ok []).Quiet :=
    hs.1.of_work (by rw [State.answered_work]; exact hout) (by rw [State.answered_work]; exact hdist)
  refine congrArg Host.Outcome.next ?_
  rw [serve_takes hs hr, hhandle]
  exact State.settle_post hquiet .console .trials _

/-- A trial that ends at an event which is no request (R119). -/
theorem settle_endsTo {s : State} {w w' : Work} {t : Trial} {x : TrialResult} {why : Option FailReason} (hs : s.Quiet)
    (hend : w.EndsTo s.loop t x why w') (hout : w.outbox = s.work.outbox) (hdist : w.dist = s.work.dist) :
    ({ s with work := finish s.loop t x why w } : State).settle =
      { s with work := w' }.notified .console [trialDone s.loop t x why] := by
  obtain ⟨hfinish, hout', hdist'⟩ := hend
  rw [hfinish]
  exact State.settle_post (s := { s with work := w' })
    (hs.of_work (by exact hout'.trans hout) (by exact hdist'.trans hdist)) .console .trials _

theorem exec_trialTimeExpiry {s : State} {id : Nat} {t : Trial} {w' : Work} (hs : s.Quiet)
    (ht : s.work.trial id = some t) (ha : t.state = .active)
    (hend : s.work.EndsTo s.loop { t with remaining := 0 } .failed (some .timeLimit) w') :
    exec (.trialTimeExpiry id) s = .next
      ({ s with work := w' }.notified .console [trialDone s.loop t .failed (some .timeLimit)]) := by
  have hexpire : expireTrial s.loop id s.work = finish s.loop { t with remaining := 0 } .failed (some .timeLimit) s.work := by
    simp [expireTrial, ht, Trial.isActive, ha]
  refine congrArg Host.Outcome.next ?_
  rw [State.mapWork, hexpire]
  exact settle_endsTo hs hend rfl rfl

theorem exec_trialTimeExpiry_idle {s : State} {id : Nat} {t : Trial} (hs : s.Quiet) (ht : s.work.trial id = some t)
    (ha : t.state ≠ .active) : exec (.trialTimeExpiry id) s = .next s := by
  have hexpire : expireTrial s.loop id s.work = s.work := by simp [expireTrial, ht, Trial.isActive, ha]
  refine congrArg Host.Outcome.next ?_
  rw [State.mapWork, hexpire]
  exact hs.settle

/-! ### The reply that completes a drive trial (R117, R139) -/

theorem Work.trial_setTrial {w : Work} {t u : Trial} (ht : w.trial t.id = some t) (hid : u.id = t.id) :
    (w.setTrial u).trial t.id = some u := by
  unfold Work.trial Work.setTrial at *
  rw [List.find?_map]
  have hsame : ((fun z : Trial => z.id == t.id) ∘ fun z => if z.id = u.id then u else z) = fun z => z.id == t.id := by
    funext z
    by_cases hz : z.id = t.id <;> simp [hz, hid]
  rw [hsame, ht, Option.map_some, if_pos hid.symm]

section
variable {w : Work} {t : Trial} (ht : w.trial t.id = some t) (ha : t.state = .active) (l : Loop)
include ht ha

theorem count_lastHit (d : Int) (hneed : t.need ≤ t.streak + 1) :
    count l t.id (.hit d) w =
      finish l { t with streak := t.streak + 1, stats := t.stats.add d } .passed none
        (w.setTrial { t with streak := t.streak + 1, stats := t.stats.add d }) := by
  have hcount : count l t.id (.hit d) w = countHit l t d w := by simp [count, ht, Trial.isActive, ha]
  exact hcount.trans (if_pos hneed)

theorem count_lastFail (hlimit : t.limit ≤ t.fails + 1) :
    count l t.id .fail w =
      finish l { t with fails := t.fails + 1, streak := 0 } .failed (some .failLimit)
        (w.setTrial { t with fails := t.fails + 1, streak := 0 }) := by
  have hcount : count l t.id .fail w = countFail l t w := by simp [count, ht, Trial.isActive, ha]
  exact hcount.trans (if_pos hlimit)

/-- What the end of a SPEED query counts (R139). -/
def Resolution.evidence (l : Loop) (band : Option Nat) : Resolution → Evidence
  | .done value _ => if inBand band ((value : Int) - l.tracker.v) then .hit ((value : Int) - l.tracker.v) else .fail
  | _ => .fail

theorem resolveQuery_done (value : Nat) (gone : Bool) :
    resolveQuery l t.id t.order (.done value gone) w = querySample l t value w := by
  simp [resolveQuery, Work.queryTrial, ht, Trial.isActive, ha]

theorem resolveQuery_failed {x : Resolution} (hx : ∀ value gone, x ≠ .done value gone) :
    resolveQuery l t.id t.order x w = queryFailed l t w := by
  cases x with
  | done value gone => exact absurd rfl (hx value gone)
  | _ => simp [resolveQuery, Work.queryTrial, ht, Trial.isActive, ha]

/-- The end of a query of an ACTIVE trial enters its drive counts, and is counted (R139). -/
theorem resolveQuery_counts (x : Resolution) :
    ∃ drive, resolveQuery l t.id t.order x w =
      count l t.id (x.evidence l t.band) (w.setTrial { t with drive := drive }) := by
  cases x with
  | done value gone =>
    rw [resolveQuery_done ht ha, querySample, Resolution.evidence]
    by_cases hband : inBand t.band ((value : Int) - l.tracker.v) = true
    · rw [if_pos hband, if_pos hband]
      exact ⟨_, rfl⟩
    · rw [if_neg hband, if_neg hband]
      exact ⟨_, rfl⟩
  | _ => exact ⟨_, resolveQuery_failed ht ha l (by simp)⟩

end

end Sys2Proof.Machine
end

section
/-! ## TrialsEnd (R115, R117 to R121, R139) -/

namespace Sys2Proof.Machine

/-! ### The reply to a query (R139, R152) -/

/-- The branch once a transaction of a node that is not SILENT has ended. -/
theorem Ring.heardEnd_live (r : Ring) (tag node : Nat) {x : Node} (hx : x.state ≠ .silent) :
    r.heardEnd tag node x =
      { r.setNode node { x with timeouts := 0 } with table := r.table.filter fun z => decide (z.tag ≠ tag) } := by
  have hheard : x.heard = { x with timeouts := 0 } := by simp [Node.heard, hx]
  obtain ⟨htable, -, -, hdrop⟩ := r.setNode_frame node x.heard
  rw [Ring.heardEnd, ← hdrop, Ring.dropTxn_eq, htable, hheard]

theorem nodeHeard_live {w : Work} {br : Branch} {node : Nat} {x : Node} (h : (w.ring br).node node = some x)
    (hx : x.state ≠ .silent) : nodeHeard br node w = w.setRing br ((w.ring br).setNode node x.heard) := by
  rw [nodeHeard_eq h]
  simp [heardNews, heardNotices, hx, bothPosts, Work.posting_nil]

/-- A REPLY that ends a SPEED query (R139, R152). -/
theorem takeReply_query (l : Loop) {w : Work} {br : Branch} {f : ReplyFields} {x : Node} {y : Txn} {id order : Nat}
    (hx : (w.ring br).node f.node = some x) (hlive : x.state ≠ .silent)
    (hy : (w.ring br).table.find? (fun z => z.tag == f.tag && z.node == f.node) = some y)
    (hjob : y.job = .speedQuery id order) (hfinal : f.status ≠ 2 ∨ 4 ≤ y.attempts) :
    takeReply l br f w =
      resolveQuery l id order (replyResolution f) (w.setRing br ((w.ring br).heardEnd f.tag f.node x)) := by
  obtain ⟨htable, -, -, hdrop⟩ := (w.ring br).setNode_frame f.node x.heard
  have hmatch : ((w.ring br).setNode f.node x.heard).matching f = some y := by rw [Ring.matching, htable, hy]
  have htag : y.tag = f.tag := by
    have hfound := List.find?_some hy
    simp only [Bool.and_eq_true, beq_iff_eq] at hfound
    exact hfound.1
  have hends : ¬(f.status = 2 && decide (y.attempts < 4)) = true := by
    simp only [Bool.and_eq_true, decide_eq_true_eq]
    omega
  unfold takeReply
  rw [nodeHeard_live hx hlive]
  dsimp only
  rw [Work.ring_setRing, hmatch]
  dsimp only
  rw [if_neg hends, hjob, htag, hdrop, Work.setRing_setRing]
  rfl

/-- A REPLY that ends a SPEED query of an ACTIVE trial is counted (R139). -/
theorem exec_replyFrame_query {s : State} {br : Branch} {f : ReplyFields} {x : Node} {y : Txn} {t : Trial}
    (hdown : (s.work.ring br).state ≠ .down) (hf : f.passes = true) (hx : (s.work.ring br).node f.node = some x)
    (hlive : x.state ≠ .silent)
    (hy : (s.work.ring br).table.find? (fun z => z.tag == f.tag && z.node == f.node) = some y)
    (hjob : y.job = .speedQuery t.id t.order) (hfinal : f.status ≠ 2 ∨ 4 ≤ y.attempts)
    (ht : s.work.trial t.id = some t) (ha : t.state = .active) :
    ∃ drive, exec (.replyFrame br f) s = .next (s.mapWork fun w =>
      count s.loop t.id ((replyResolution f).evidence s.loop t.band)
        ((w.setRing br ((w.ring br).heardEnd f.tag f.node x)).setTrial { t with drive := drive })).settle := by
  have hfound (r : Ring) : (s.work.setRing br r).trial t.id = some t := by cases br <;> exact ht
  obtain ⟨drive, hcount⟩ := resolveQuery_counts (hfound _) ha s.loop (replyResolution f)
  refine ⟨drive, ?_⟩
  rw [exec_replyFrame hdown hf, State.mapWork, takeReply_query s.loop hx hlive hy hjob hfinal, hcount]
  rfl

/-- A DONE in band is a hit, and every other end of a query a fail (R139). -/
theorem replyResolution_hit {l : Loop} {f : ReplyFields} {o : Option Nat} {band : Nat} (ho : o = some band)
    (hs : f.status = 1) (hd : ((f.value : Int) - l.tracker.v).natAbs ≤ band) :
    (replyResolution f).evidence l o = .hit ((f.value : Int) - l.tracker.v) := by
  simp [replyResolution, hs, Resolution.evidence, inBand, ho, hd]

theorem replyResolution_fail {l : Loop} {f : ReplyFields} {o : Option Nat} {band : Nat} (ho : o = some band)
    (h : f.status ≠ 1 ∨ band < ((f.value : Int) - l.tracker.v).natAbs) : (replyResolution f).evidence l o = .fail := by
  unfold replyResolution
  split
  · next hs =>
    have hband := h.resolve_left (absurd hs)
    simp [Resolution.evidence, inBand, ho, Nat.not_le.2 hband]
  all_goals rfl

/-! ### A counted trial ends -/

theorem Work.unplanned_setTrial (w : Work) (u : Trial) (order : Nat) :
    (w.setTrial u).unplanned u.id order = w.unplanned u.id order := by
  have hplan : (w.setTrial u).plan.filter (fun z => decide (z.id ≠ u.id)) =
      w.plan.filter fun z => decide (z.id ≠ u.id) := by
    simp only [Work.setTrial, ne_eq, decide_not]
    induction w.plan with
    | nil => rfl
    | cons z zs ih => by_cases hz : z.id = u.id <;> simp [hz, ih]
  exact congrArg (fun ts => { w.unplanned u.id order with plan := ts }) hplan

/-- A drive trial that ends as a result is counted: it has no windows and no entries (R119, R139). -/
theorem endsTo_counted {l : Loop} {w w' : Work} {t u : Trial} {p : Point} (x : TrialResult) (why : Option FailReason)
    (hchute : ∀ z ∈ w.plan, z.id ≠ u.id → z.kind = .chute → z.state ≠ .active)
    (hfires : ∀ e ∈ w.fires, e.trial ≠ some u.id) (hwindows : ∀ y ∈ w.windows, y.trial ≠ u.id)
    (hid : t.id = u.id) (hk : u.kind ≠ .belt) (hp : w.point u.target = some p)
    (hnext : Activates l ((w.setPoint { p with
      proof := x.proof p.prior
      prior := none
      record := if x = .cancelled then p.record else some (proofRecord l u x why) }).unplanned u.id u.order) w') :
    ((w.setTrial t).setTrial u).EndsTo l u x why w' := by
  refine endsTo_point (g := id) x why (fun z hz hne => ?_) (.inl hwindows)
    (fun y hy _ _ hid => absurd hid (hwindows y hy))
    (.nothing fun e he hid => absurd hid (hfires e he)) hk hp ?_
  · rcases Work.mem_setTrial hz with rfl | ⟨hz, -⟩
    · exact absurd rfl hne
    · rcases Work.mem_setTrial hz with rfl | ⟨hz, -⟩
      · exact absurd hid hne
      · exact hchute z hz hne
  · have hsame (q : Point) : (((w.setTrial t).setTrial u).setPoint q).unplanned u.id u.order =
        (w.setPoint q).unplanned u.id u.order := by
      calc (((w.setTrial t).setTrial u).setPoint q).unplanned u.id u.order
          = ((((w.setPoint q).setTrial t).setTrial u).unplanned u.id u.order) := rfl
        _ = ((w.setPoint q).setTrial t).unplanned t.id u.order := by rw [Work.unplanned_setTrial, hid]
        _ = (w.setPoint q).unplanned u.id u.order := by rw [Work.unplanned_setTrial, hid]
    exact (hsame _).symm ▸ hnext

/-- The end of the event at which a reply completes a drive trial (R119, R139). -/
theorem settle_counted {s : State} {br : Branch} {r : Ring} {t u : Trial} {p : Point} {w' : Work} {x : TrialResult}
    {why : Option FailReason} (hq : s.Quiet)
    (hchute : ∀ z ∈ s.work.plan, z.id ≠ u.id → z.kind = .chute → z.state ≠ .active)
    (hfires : ∀ e ∈ s.work.fires, e.trial ≠ some u.id) (hwindows : ∀ y ∈ s.work.windows, y.trial ≠ u.id)
    (hid : t.id = u.id) (hk : u.kind = .zoneDrive) (hp : s.work.point u.target = some p)
    (hnext : Activates s.loop (((s.work.setRing br r).setPoint { p with
      proof := x.proof p.prior
      prior := none
      record := if x = .cancelled then p.record else some (proofRecord s.loop u x why) }).unplanned u.id u.order) w') :
    ({ s with work := finish s.loop u x why (((s.work.setRing br r).setTrial t).setTrial u) } : State).settle =
      { s with work := w' }.notified .console [trialDone s.loop u x why] :=
  settle_endsTo hq
    (endsTo_counted x why (by rwa [Work.setRing_plan]) (by rwa [Work.setRing_fires]) (by rwa [Work.setRing_windows]) hid
      (by simp [hk]) ((Work.point_setRing ..).trans hp) hnext)
    (Work.setRing_outbox ..) (Work.setRing_dist ..)

/-! ### The next trial -/

/-- The one QUEUED trial of the plan is next once trial `id` has left. -/
theorem Work.nextDrive_unplanned {w u : Work} {l : Loop} {id order : Nat} {v : Trial} {q : Point}
    (hplan : u.plan = w.plan) (hpoint : (u.point v.target).map (fun p => p.config) = some q.config)
    (hqueued : v.state = .queued) (hid : v.id ≠ id) (hkind : v.kind = .zoneDrive) (hfound : w.trial v.id = some v)
    (honly : ∀ z ∈ w.plan, z.id ≠ id → z.state = .queued → z = v) (hroom : (u.unplanned id order).running < 16) :
    (u.unplanned id order).NextDrive l v
      ⟨false, !l.tracker.steady, l.fences.getLsbD q.config.zone, false⟩ := by
  refine ⟨hqueued, hkind, ?_, fun z hz => ?_, hroom, ?_⟩
  · have hkept : (fun z : Trial => decide (decide (z.id ≠ id) = true ∧ (z.id == v.id) = true)) = fun z => z.id == v.id := by
      funext z
      by_cases hz : z.id = v.id <;> simp [hz, hid]
    rw [Work.trial, Work.unplanned, hplan, List.find?_filter, hkept]
    exact hfound
  · obtain ⟨hz, hne⟩ := List.mem_filter.1 hz
    exact honly z (hplan ▸ hz) (of_decide_eq_true hne)
  · obtain ⟨p, hp, hconfig⟩ := Option.map_eq_some_iff.1 hpoint
    have hzone : zoneFenced l (u.unplanned id order) v.target = l.fences.getLsbD q.config.zone := by
      rw [zoneFenced, show (u.unplanned id order).point v.target = some p from hp, ← hconfig]
      rfl
    rw [reasonsNow_drive l _ hkind, hzone]

/-- A result written into a point leaves every configuration. -/
theorem Work.config_setPoint {w u : Work} (hread : ∀ tag, u.point tag = w.point tag) {n : Nat} {p p' : Point}
    (hp : w.point n = some p) (ht : p'.tag = p.tag) (hc : p'.config = p.config) (tag : Nat) :
    ((u.setPoint p').point tag).map (fun p => p.config) = (w.point tag).map fun p => p.config := by
  rw [Work.point_setPoint, hread]
  split
  · next h => rw [h, ht, Work.point_tag hp, hp, Option.map_some, Option.map_some, Option.map_some, hc]
  · rfl

end Sys2Proof.Machine

open Sys2Proof Sys2Proof.Machine

/-- Settles O48: a trial's end writes its result, takes it out of the plan with its windows and its entry, and leaves
the plan to the one QUEUED trial. -/
theorem trialsEnd : Obligations.TrialsEnd := by
  unfold Obligations.TrialsEnd
  refine ⟨fun s rtag id hs hr => ⟨fun hid => ?_, fun h1 h255 hnone => ?_⟩, ?_⟩
  · refine congrArg Host.Outcome.next (serve_answers hs hr (.cancelTrial id) (cancelTrial id) (if_pos ?_))
    simp only [within, Bool.not_eq_true', decide_eq_false_iff_not]
    omega
  · refine congrArg Host.Outcome.next (serve_answers hs hr (.cancelTrial id) (cancelTrial id) ?_)
    simp [cancelTrial, within, h1, h255, hnone, refuse]
  intro s id t hq ht hchute hspace horder tr gone table ended without activates done record cancels expires
  obtain rfl : t.id = id := Work.trial_id ht
  have entries : ∀ w, ended w → ∃ g, EntriesEnd t s.work g ∧ w = g s.work := by
    rintro w (⟨hnone, rfl⟩ | ⟨e, he, htrial, horphan, honly, hcase⟩)
    · exact ⟨id, .nothing hnone, rfl⟩
    have hent : s.work.OnlyEntry t.id e := ⟨he, htrial, horphan, honly⟩
    rcases hcase with ⟨hs, rfl⟩ | ⟨hs, hi, rfl⟩ | ⟨i, x, hs, ho, hi, hx, rfl⟩
    · exact ⟨_, .leaves hent (fun u => endEntry_waiting u hs) LoadState.unbound_unbound, rfl⟩
    · exact ⟨_, .orphaned hent fun u => endEntry_sent u hs hi, rfl⟩
    · refine ⟨_, .leaves hent (fun u => endEntry_replied u hs ho hi hx) x.load_once, ?_⟩
      refine congrArg (fun cs => { s.work.without e x.load.whereConsole with carriers := cs }) ?_
      rw [List.modify_modify_eq]
      refine congrArg (s.work.carriers.modify e.carrier) (funext fun c => ?_)
      obtain ⟨_ | ⟨_ | _, ref, dest⟩ | why, proof, prior, belt⟩ := c <;> cases x <;> rfl
  have starts : ∀ u w', u.plan = s.work.plan →
      (∀ tag, (u.point tag).map (fun p => p.config) = (s.work.point tag).map fun p => p.config) →
      activates (without u) w' → Activates s.loop (u.unplanned t.id t.order) w' := by
    rintro u w' hplan hpoint (⟨hnone, rfl⟩ | ⟨v, q, hv, hid, hk, hfound, honly, hroom, hp, hcase⟩)
    · refine .nothing fun z hz => ?_
      obtain ⟨hz, hne⟩ := List.mem_filter.1 hz
      exact hnone z (hplan ▸ hz) (of_decide_eq_true hne)
    have hnext := Work.nextDrive_unplanned (l := s.loop) hplan ((hpoint _).trans (congrArg _ hp)) hv hid hk hfound
      honly hroom
    rcases hcase with ⟨hwhy, rfl⟩ | ⟨hwhy, rfl⟩
    · exact .held hnext hwhy
    · rw [show (⟨false, !s.loop.tracker.steady, s.loop.fences.getLsbD q.config.zone, false⟩ : HoldReasons) = .clear
        from hwhy] at hnext
      exact .begun hnext
  refine ⟨exec_trialTimeExpiry_idle hq ht, fun w p hended hk hp => ?_, fun w c hended hk hc => ?_, ?_⟩
  · obtain ⟨g, hends, rfl⟩ := entries w hended
    obtain ⟨hplan, hpoints, -, -⟩ := hends.frame s.work
    have hconfig {p' : Point} := Work.config_setPoint (p' := p')
      (fun tag => show (g s.work).point tag = s.work.point tag by rw [Work.point, hpoints, Work.point]) hp
    refine ⟨fun w' rtag hact hs hr h1 h255 => ?_, fun w' hact ha => ?_⟩
    · exact exec_cancelTrial hs hr h1 h255 ht (endsTo_point .cancelled none hchute hspace horder hends hk hp
        (starts _ w' hplan (hconfig rfl rfl) hact))
    · exact exec_trialTimeExpiry hq ht ha (endsTo_point (t := { t with remaining := 0 }) .failed (some .timeLimit) hchute
        hspace horder (hends.congr rfl rfl rfl) hk hp (starts _ w' hplan (hconfig rfl rfl) hact))
  · obtain ⟨g, hends, rfl⟩ := entries w hended
    obtain ⟨hplan, hpoints, -, -⟩ := hends.frame s.work
    have hconfig (tag : Nat) : ((g s.work).point tag).map (fun p => p.config) =
        (s.work.point tag).map fun p => p.config := by rw [Work.point, hpoints, Work.point]
    refine ⟨fun w' rtag hact hs hr h1 h255 => ?_, fun w' hact ha => ?_⟩
    · exact exec_cancelTrial hs hr h1 h255 ht (endsTo_belt .cancelled none hchute hspace horder hends hk hc
        (starts ((g s.work).setCarrier t.target _) w' hplan hconfig hact))
    · exact exec_trialTimeExpiry hq ht ha (endsTo_belt (t := { t with remaining := 0 }) .failed (some .timeLimit) hchute
        hspace horder (hends.congr rfl rfl rfl) hk hc
        (starts ((g s.work).setCarrier t.target _) w' hplan hconfig hact))
  · intro br f x y p b w' r h1 h126 hs1 hs4 hdown hx hlive hy hjob ha hk hband hp hfires hwindows heard d ends
    have hheard : r.heardEnd f.tag f.node x = heard := Ring.heardEnd_live r f.tag f.node hlive
    have hread (drive : DriveCounts) :
        ((s.work.setRing br heard).setTrial { t with drive := drive }).trial t.id = some { t with drive := drive } :=
      Work.trial_setTrial (by rw [Work.trial, Work.setRing_plan, ← Work.trial, ht]) rfl
    have hconfig {p' : Point} := Work.config_setPoint (p' := p') (s.work.point_setRing br heard) hp
    have hpasses : f.passes = true := by simp [ReplyFields.passes, within, h1, h126, hs1, hs4]
    refine ⟨fun hs hd hneed hact => ?_, fun hfail hlimit hact => ?_⟩
    · obtain ⟨drive, hexec⟩ := exec_replyFrame_query hdown hpasses hx hlive hy hjob (.inl (by omega)) ht ha
      have hcount := count_lastHit (t := { t with drive := drive }) (hread drive) ha s.loop d hneed
      rw [hexec, State.mapWork, hheard, replyResolution_hit hband hs hd]
      refine congrArg Host.Outcome.next ((congrArg (fun w => State.settle { s with work := w }) hcount).trans ?_)
      exact settle_counted hq hchute hfires hwindows rfl hk hp
        (starts _ w' (Work.setRing_plan ..) (hconfig rfl rfl) hact)
    · obtain ⟨drive, hexec⟩ := exec_replyFrame_query hdown hpasses hx hlive hy hjob (by omega) ht ha
      have hcount := count_lastFail (t := { t with drive := drive }) (hread drive) ha s.loop hlimit
      have hcounts : f.status ≠ 1 ∨ b < d.natAbs := by omega
      rw [hexec, State.mapWork, hheard, replyResolution_fail hband hcounts]
      refine congrArg Host.Outcome.next ((congrArg (fun w => State.settle { s with work := w }) hcount).trans ?_)
      exact settle_counted hq hchute hfires hwindows rfl hk hp
        (starts _ w' (Work.setRing_plan ..) (hconfig rfl rfl) hact)
end

section
/-! ## The translation of an offset (R56) -/

namespace Sys2Proof.Machine

theorem maskWidth_mask {z : Nat} (hz : z ≤ 16) : maskWidth (65536 - 2 ^ z) = 2 ^ z :=
  Nat.sub_sub_self (Nat.pow_le_pow_right (by decide) hz : 2 ^ z ≤ 2 ^ 16)

/-- The parity of the runs that an interleaved window lays out on a branch (R56). -/
def runParity : Branch → Nat
  | .a => 0
  | .b => 1

theorem runParity_lt (br : Branch) : runParity br < 2 := by cases br <;> decide

section
variable {w : Nat}

/-- The runs of `w` tags alternate between the branches. -/
theorem layOut_branch_iff {o : Nat} {br : Branch} :
    (layOut .interleaved (some w) o).1 = br ↔ o / w % 2 = runParity br := by
  cases br <;> simp [layOut, runParity]

variable (hw : 0 < w)
include hw

/-- Each branch takes every other run, and within a run the tags keep their places. -/
theorem layOut_run (o : Nat) :
    (layOut .interleaved (some w) o).2 / w = o / w / 2 ∧ (layOut .interleaved (some w) o).2 % w = o % w := by
  have hlaid : (layOut .interleaved (some w) o).2 = w * (o / w / 2) + o % w := by
    rw [Nat.div_div_eq_div_mul, Nat.mul_comm w, Nat.mul_comm w]
    rfl
  rw [hlaid, Nat.mul_add_div hw, Nat.mul_add_mod, Nat.mod_mod, Nat.div_eq_of_lt (Nat.mod_lt _ hw)]
  exact ⟨rfl, rfl⟩

/-- The first `2 * n` runs of offsets fill the first `n` runs of each branch. -/
theorem layOut_lt_iff (o n : Nat) : (layOut .interleaved (some w) o).2 < n * w ↔ o < 2 * n * w := by
  rw [← Nat.div_lt_iff_lt_mul hw, ← Nat.div_lt_iff_lt_mul hw, (layOut_run hw o).1]
  omega

/-- Each laid-out offset occurs on each branch, for one offset alone. -/
theorem layOut_eq_iff (o v : Nat) (br : Branch) :
    layOut .interleaved (some w) o = (br, v) ↔ o = w * (2 * (v / w) + runParity br) + v % w := by
  have hparity := runParity_lt br
  obtain ⟨hdiv, hmod⟩ := layOut_run hw o
  constructor
  · intro h
    have hbranch : o / w % 2 = runParity br := layOut_branch_iff.mp (congrArg Prod.fst h)
    simp only [h] at hdiv hmod
    have hrun : o / w = 2 * (v / w) + runParity br := by omega
    rw [← hrun, hmod, Nat.div_add_mod]
  · rintro rfl
    rw [Nat.mul_add_div hw, Nat.div_eq_of_lt (Nat.mod_lt _ hw)] at hdiv
    rw [Nat.mul_add_mod, Nat.mod_mod] at hmod
    refine Prod.ext (layOut_branch_iff.mpr ?_) ?_
    · rw [Nat.mul_add_div hw, Nat.div_eq_of_lt (Nat.mod_lt _ hw)]
      show _ = runParity br
      omega
    · have hhalf : (2 * (v / w) + runParity br + 0) / 2 = v / w := by omega
      rw [← Nat.div_add_mod (layOut _ _ _).2 w, hdiv, hmod, hhalf, Nat.div_add_mod]

end

end Sys2Proof.Machine

open Sys2Proof Sys2Proof.Machine

/-- Settles O36: an interleaved offset is read by its run and its place in the run (`layOut_run`). -/
theorem translationLaysOut : Obligations.TranslationLaysOut := by
  unfold Obligations.TranslationLaysOut
  refine ⟨fun w o => ⟨rfl, rfl⟩, fun y z hyz => ?_, fun x z tag hz hmask => ?_⟩
  · have hw : 0 < 2 ^ y := Nat.two_pow_pos y
    obtain ⟨d, rfl⟩ := Nat.exists_eq_add_of_lt hyz
    have hhalf : 2 ^ (y + d + 1 - 1) = 2 ^ d * 2 ^ y := by rw [Nat.add_sub_cancel, Nat.add_comm, Nat.pow_add]
    have hwhole : 2 ^ (y + d + 1) = 2 * 2 ^ d * 2 ^ y := by rw [Nat.pow_succ, Nat.pow_add]; ring
    rw [hhalf, hwhole]
    refine ⟨fun o ho => ⟨rfl, (layOut_lt_iff hw o _).mpr ho⟩, fun br v hv => ?_⟩
    have hlaid := (layOut_eq_iff hw _ v br).mpr rfl
    refine ⟨_, (layOut_lt_iff hw _ _).mp ?_, hlaid, fun o' => (layOut_eq_iff hw o' v br).mp⟩
    rwa [hlaid]
  · intro o
    rw [RouteWindow.translate, hmask, maskWidth_mask hz]
end

section
/-! ## The window that decides a route (R55, R57) -/

namespace Sys2Proof.Machine

/-! ### The tags that a window hits (R55) -/

section
variable {tag base width : Nat}

theorem hits_iff (x : RouteWindow) (tag : Nat) : x.hits tag = true ↔ tag - tag % maskWidth x.mask = x.base := by
  simp [RouteWindow.hits]

/-- A tag less its place in its block is the base of the block that starts at a multiple of the width. -/
theorem sub_mod_eq_iff (hw : 0 < width) (hb : base % width = 0) :
    tag - tag % width = base ↔ base ≤ tag ∧ tag < base + width := by
  have hplace : tag % width < width := Nat.mod_lt _ hw
  have hle : tag % width ≤ tag := Nat.mod_le ..
  constructor
  · omega
  · rintro ⟨hlow, hhigh⟩
    obtain ⟨d, rfl⟩ := Nat.exists_eq_add_of_le hlow
    have hmod : (base + d) % width = d := by
      rw [Nat.add_mod, hb, Nat.zero_add, Nat.mod_mod, Nat.mod_eq_of_lt (by omega)]
    omega

end

/-! ### The first window that hits (R57) -/

section
variable {before after : List RouteWindow} {y : RouteWindow} {tag : Nat}

theorem decidingWindow_none {ws : List RouteWindow} (h : ∀ x ∈ ws, x.enabled = true → x.hits tag = false) :
    decidingWindow ws tag = none :=
  List.findIdx?_eq_none_iff.mpr fun x hx => by simpa using h x hx

variable (hbefore : ∀ x ∈ before, x.enabled = true → x.hits tag = false) (hon : y.enabled = true)
  (hhits : y.hits tag = true)
include hbefore hon hhits

theorem decidingWindow_first : decidingWindow (before ++ y :: after) tag = some before.length := by
  have hplace : (before ++ y :: after)[before.length]? = some y := by simp
  refine (findIdx?_eq_some_iff_take hplace _).mpr ⟨by simp [hon, hhits], ?_⟩
  rw [List.take_left, List.all_eq_true]
  exact fun x hx => by simpa only [Bool.not_eq_true', Bool.and_eq_false_imp] using hbefore x hx

/-- The first enabled window that hits decides the route of a point that is not a CHUTE. -/
theorem routeOf_first {k : PointKind} (hk : k ≠ .chute) :
    routeOf (before ++ y :: after) tag k =
      if (y.translate tag).node ≤ 126 ∧ y.allows k = true then some (y.translate tag) else none := by
  have houtcome : routeOutcome (before ++ y :: after) tag k = some (before.length, y.decide tag k) := by
    rw [routeOutcome, if_neg hk, decidingWindow_first hbefore hon hhits]
    simp
  rw [routeOf, houtcome, RouteWindow.decide]
  by_cases hnode : (y.translate tag).node ≤ 126
  · cases hallows : y.allows k <;> simp [hnode, Nat.not_lt.mpr hnode]
  · simp [hnode, Nat.not_le.mp hnode]

end

end Sys2Proof.Machine

open Sys2Proof Sys2Proof.Machine

/-- Settles O35: the block of a window is `sub_mod_eq_iff`, and the first window that hits decides (`routeOf_first`). -/
theorem windowHitsItsBlock : Obligations.WindowHitsItsBlock := by
  unfold Obligations.WindowHitsItsBlock
  refine ⟨fun ws tag k => ⟨routeOf_chute rfl .., fun h => ?_, ?_⟩, fun x z hz hmask hbase => ?_⟩
  · simp [routeOf, routeOutcome, decidingWindow_none h]
  · rintro before y after rfl hbefore hon hhits hk a may
    have hmay : may = y.allows k := by cases k <;> rfl
    rw [routeOf_first hbefore hon hhits hk, ← hmay]
    refine ⟨fun hnode hallowed => if_pos ⟨hnode, hallowed⟩, fun h => if_neg ?_⟩
    rintro ⟨hnode, hallowed⟩
    rcases h with hfar | hnot
    · exact absurd hnode (Nat.not_le.mpr hfar)
    · simp [hallowed] at hnot
  · have hw : maskWidth x.mask = 2 ^ z := by rw [hmask, maskWidth_mask hz]
    have hstart (tag : Nat) : x.hits tag = true ↔ tag - tag % 2 ^ z = x.base := by rw [hits_iff, hw]
    have hblock (tag : Nat) : x.hits tag = true ↔ x.base ≤ tag ∧ tag < x.base + 2 ^ z :=
      (hstart tag).trans (sub_mod_eq_iff (Nat.two_pow_pos z) hbase)
    refine ⟨hblock, hstart, fun tag h => ⟨Nat.mod_lt _ (Nat.two_pow_pos z), ?_⟩, fun on tag => rfl, ?_⟩
    · have hle : tag % 2 ^ z ≤ tag := Nat.mod_le ..
      have heq := (hstart tag).mp h
      omega
    · rintro hzero rfl tag htag
      refine Bool.eq_false_iff.mpr fun h => ?_
      obtain ⟨-, hlt⟩ := (hblock tag).mp h
      omega
end

section
/-! ## WRITE_WINDOW (R53, R54, R59, R60) -/

namespace Sys2Proof.Machine

/-! ### The checks of R54 -/

theorem BranchMode.ofCode_eq_some {n : Nat} {m : BranchMode} : BranchMode.ofCode n = some m ↔ n = m.code := by
  unfold BranchMode.ofCode
  split <;> cases m <;> simp_all [BranchMode.code]

theorem isPowerOfTwo_iff (n : Nat) : isPowerOfTwo n = true ↔ ∃ e ≤ 16, n = 2 ^ e := by
  simp only [isPowerOfTwo, List.any_eq_true, List.mem_range, decide_eq_true_eq, Nat.lt_succ_iff, eq_comm (a := n)]

/-- A mask leaves a block of a power of two (R53). -/
theorem mask_iff (mask : Nat) :
    mask ≤ 65535 ∧ isPowerOfTwo (maskWidth mask) = true ↔ ∃ z ≤ 16, mask = 65536 - 2 ^ z := by
  rw [isPowerOfTwo_iff]
  constructor
  · rintro ⟨hle, z, hz, hwidth⟩
    exact ⟨z, hz, by unfold maskWidth at hwidth; omega⟩
  · rintro ⟨z, hz, rfl⟩
    exact ⟨by have := Nat.two_pow_pos z; omega, z, hz, maskWidth_mask hz⟩

/-- The weight that goes with a mode in a block of `width` tags, as the checks test it (R54). -/
def weightFits (m : BranchMode) (weight : Option Nat) (width : Nat) : Bool :=
  match m, weight with
  | .interleaved, some w => isPowerOfTwo w && decide (w < width)
  | .interleaved, none => false
  | _, some _ => false
  | _, none => true

theorem weightFits_iff {z : Nat} (hz : z ≤ 16) (code : Nat) (m : BranchMode) (weight : Option Nat) :
    code = m.code ∧ weightFits m weight (2 ^ z) = true ↔
      (code = 1 ∧ m = .a ∧ weight = none) ∨ (code = 2 ∧ m = .b ∧ weight = none) ∨
      (code = 3 ∧ m = .interleaved ∧ ∃ y < z, weight = some (2 ^ y)) := by
  cases m <;> cases weight
  case interleaved.some w =>
    have hrun : isPowerOfTwo w = true ∧ w < 2 ^ z ↔ ∃ y < z, w = 2 ^ y := by
      rw [isPowerOfTwo_iff]
      constructor
      · rintro ⟨⟨y, -, rfl⟩, hlt⟩
        exact ⟨y, (Nat.pow_lt_pow_iff_right (by decide)).mp hlt, rfl⟩
      · rintro ⟨y, hy, rfl⟩
        exact ⟨⟨y, by omega, rfl⟩, Nat.pow_lt_pow_right (by decide) hy⟩
    simp [weightFits, BranchMode.code, hrun]
  all_goals simp [weightFits, BranchMode.code]

/-- The fields of a WRITE_WINDOW pass the checks of R54 and carry the window `x` (R53). -/
def GivesWindow (f : WindowFields) (x : RouteWindow) : Prop :=
  f.number ≤ 7 ∧ f.enabled = (if x.enabled then 1 else 0) ∧
  (∃ z ≤ 16, f.mask = 65536 - 2 ^ z ∧ f.base ≤ 65535 ∧ f.base % 2 ^ z = 0 ∧
    ((f.mode = 1 ∧ x.mode = .a ∧ f.weight = none) ∨ (f.mode = 2 ∧ x.mode = .b ∧ f.weight = none) ∨
     (f.mode = 3 ∧ x.mode = .interleaved ∧ ∃ y < z, f.weight = some (2 ^ y)))) ∧
  1 ≤ f.nodeBase ∧ f.nodeBase ≤ 126 ∧ f.perms = (if x.observe then 1 else 0) + (if x.command then 2 else 0) ∧
  x.base = f.base ∧ x.mask = f.mask ∧ x.weight = f.weight ∧ x.nodeBase = f.nodeBase

theorem flagByte_iff {n : Nat} {on : Bool} : n ≤ 1 ∧ decide (n = 1) = on ↔ n = if on then 1 else 0 := by
  cases on <;> simp <;> omega

theorem permByte_iff {n : Nat} {observe command : Bool} :
    n ≤ 3 ∧ decide (n % 2 = 1) = observe ∧ decide (n / 2 = 1) = command ↔
      n = (if observe then 1 else 0) + (if command then 2 else 0) := by
  cases observe <;> cases command <;> simp <;> omega

theorem windowFields_check {f : WindowFields} {x : RouteWindow} : f.check = some x ↔ GivesWindow f x := by
  obtain ⟨enabled, base, mask, mode, weight, nodeBase, observe, command⟩ := x
  have hchecks : f.check = some ⟨enabled, base, mask, mode, weight, nodeBase, observe, command⟩ ↔
      f.number ≤ 7 ∧ (f.enabled ≤ 1 ∧ decide (f.enabled = 1) = enabled) ∧
      ((f.mask ≤ 65535 ∧ isPowerOfTwo (maskWidth f.mask) = true) ∧ f.base ≤ 65535 ∧
        f.base % maskWidth f.mask = 0 ∧ f.mode = mode.code ∧ weightFits mode f.weight (maskWidth f.mask) = true) ∧
      1 ≤ f.nodeBase ∧ f.nodeBase ≤ 126 ∧
      (f.perms ≤ 3 ∧ decide (f.perms % 2 = 1) = observe ∧ decide (f.perms / 2 = 1) = command) ∧
      base = f.base ∧ mask = f.mask ∧ weight = f.weight ∧ nodeBase = f.nodeBase := by
    unfold WindowFields.check
    rw [← BranchMode.ofCode_eq_some]
    cases hmode : BranchMode.ofCode f.mode with
    | none => simp
    | some m =>
      simp only [Option.ite_none_right_eq_some, Bool.and_eq_true, decide_eq_true_eq]
      cases m <;> cases f.weight <;> grind [weightFits]
  rw [hchecks, mask_iff, flagByte_iff, permByte_iff, GivesWindow]
  refine and_congr_right fun _ => and_congr_right fun _ => and_congr_left fun _ => ?_
  constructor
  · rintro ⟨⟨z, hz, hmask⟩, hbase, hblock, hweight⟩
    rw [hmask, maskWidth_mask hz] at hblock hweight
    exact ⟨z, hz, hmask, hbase, hblock, (weightFits_iff hz ..).mp hweight⟩
  · rintro ⟨z, hz, hmask, hbase, hblock, hweight⟩
    rw [hmask, maskWidth_mask hz]
    exact ⟨⟨z, hz, rfl⟩, hbase, hblock, (weightFits_iff hz ..).mpr hweight⟩

/-! ### Records in ascending tag order (R37) -/

section
variable {ps : List Point} {p : Point} (hsorted : ps.Pairwise fun p q => p.tag < q.tag) (hp : p ∈ ps)
include hsorted hp

theorem sorted_split : ∃ before after, ps = before ++ p :: after ∧ ∀ q ∈ before, q.tag < p.tag := by
  obtain ⟨before, after, rfl⟩ := List.append_of_mem hp
  exact ⟨before, after, rfl, fun q hq => (List.pairwise_append.mp hsorted).2.2 q hq p (by simp)⟩

/-- A search in tag order finds at the lowest tag at which it finds anything. -/
theorem findSome?_lowest {β : Type} {f : Point → Option β} {b : β} (hf : f p = some b)
    (hlowest : ∀ q ∈ ps, f q ≠ none → p.tag ≤ q.tag) : ps.findSome? f = some b := by
  obtain ⟨before, after, rfl, hbefore⟩ := sorted_split hsorted hp
  have hnone : before.findSome? f = none := List.findSome?_eq_none_iff.mpr fun q hq => by
    by_contra hq'
    exact Nat.not_le.mpr (hbefore q hq) (hlowest q (by simp [hq]) hq')
  simp [List.findSome?_append, hnone, hf]

theorem find?_lowest {f : Point → Bool} (hf : f p = true) (hlowest : ∀ q ∈ ps, f q = true → p.tag ≤ q.tag) :
    ps.find? f = some p := by
  obtain ⟨before, after, rfl, hbefore⟩ := sorted_split hsorted hp
  have hnone : before.find? f = none := List.find?_eq_none.mpr fun q hq hq' =>
    Nat.not_le.mpr (hbefore q hq) (hlowest q (by simp [hq]) hq')
  simp [List.find?_append, hnone, hf]

end

/-! ### Two records of one route (R59) -/

/-- `q` comes before `p` and holds its route. -/
def routeBefore (p q : Point) : Bool := decide (q.tag < p.tag) && (p.route.isSome && q.route == p.route)

theorem routeBefore_iff (p q : Point) :
    routeBefore p q = true ↔ q.tag < p.tag ∧ p.route ≠ none ∧ p.route = q.route := by
  simp [routeBefore, Option.isSome_iff_ne_none, eq_comm (a := q.route)]

/-- In tag order, the conflict is that of the first record whose route an earlier one holds. -/
theorem routeConflict_eq {seen ps : List Point} (hsorted : (seen ++ ps).Pairwise fun p q => p.tag < q.tag) :
    routeConflict seen ps =
      ps.findSome? fun p => ((seen ++ ps).find? (routeBefore p)).map fun q => (p.tag, q.tag) := by
  induction ps generalizing seen with
  | nil => rfl
  | cons p ps ih =>
    obtain ⟨-, hps, hseen⟩ := List.pairwise_append.mp hsorted
    have hbehind : (p :: ps).find? (routeBefore p) = none := List.find?_eq_none.mpr fun q hq => by
      have hle : p.tag ≤ q.tag := by
        obtain rfl | hq := List.mem_cons.mp hq
        · exact Nat.le_refl _
        · exact Nat.le_of_lt ((List.pairwise_cons.mp hps).1 q hq)
      simp [routeBefore, Nat.not_lt.mpr hle]
    have hearlier : seen.find? (fun q => p.route.isSome && q.route == p.route) = seen.find? (routeBefore p) :=
      List.find?_congr fun q hq => by simp [routeBefore, hseen q hq p (by simp)]
    rw [routeConflict, hearlier, List.findSome?_cons, List.find?_append, hbehind, Option.or_none]
    cases seen.find? (routeBefore p) with
    | some q => rfl
    | none =>
      rw [ih (by simpa using hsorted)]
      simp

/-- The record with its route under a window set (R59). -/
def rerouted (ws : List RouteWindow) (p : Point) : Point := { p with route := routeOf ws p.tag p.kind }

theorem reroute_eq (ws : List RouteWindow) (ps : List Point) : reroute ws ps = ps.map (rerouted ws) := rfl

/-- `p` would hold the route of the earlier record `q` (R59). -/
def clashes (ws : List RouteWindow) (p q : Point) : Bool := routeBefore (rerouted ws p) (rerouted ws q)

theorem clashes_iff (ws : List RouteWindow) (p q : Point) :
    clashes ws p q = true ↔
      q.tag < p.tag ∧ routeOf ws p.tag p.kind ≠ none ∧ routeOf ws p.tag p.kind = routeOf ws q.tag q.kind :=
  routeBefore_iff ..

section
variable {ws : List RouteWindow} {ps : List Point} (hsorted : ps.Pairwise fun p q => p.tag < q.tag)
include hsorted

theorem routeConflict_reroute :
    routeConflict [] (reroute ws ps) =
      ps.findSome? fun p => (ps.find? (clashes ws p)).map fun q => (p.tag, q.tag) := by
  rw [reroute_eq, routeConflict_eq (seen := []) (ps := ps.map (rerouted ws)) (List.pairwise_map.mpr hsorted)]
  simp only [List.nil_append, List.findSome?_map, List.find?_map, Option.map_map]
  rfl

theorem routeConflict_free (h : ∀ p ∈ ps, ∀ q ∈ ps, clashes ws p q = false) :
    routeConflict [] (reroute ws ps) = none := by
  rw [routeConflict_reroute hsorted, List.findSome?_eq_none_iff]
  intro p hp
  rw [List.find?_eq_none.mpr fun q hq => by simp [h p hp q hq]]
  rfl

theorem routeConflict_first {p q : Point} (hp : p ∈ ps) (hq : q ∈ ps) (hclash : clashes ws p q = true)
    (hfirst : ∀ p' ∈ ps, ∀ q' ∈ ps, clashes ws p' q' = true → p.tag ≤ p'.tag)
    (hlowest : ∀ q' ∈ ps, clashes ws p q' = true → q.tag ≤ q'.tag) :
    routeConflict [] (reroute ws ps) = some (p.tag, q.tag) := by
  rw [routeConflict_reroute hsorted]
  refine findSome?_lowest hsorted hp (by rw [find?_lowest hsorted hq hclash hlowest]; rfl) fun p' hp' hfound => ?_
  obtain ⟨q', hfind⟩ := Option.ne_none_iff_exists'.mp (mt Option.map_eq_none_iff.mpr hfound)
  exact hfirst p' hp' q' (List.mem_of_find?_eq_some hfind) (List.find?_some hfind)

end

/-! ### The records whose route changes (R59, R60) -/

theorem changedRoutes_reroute (ws : List RouteWindow) (ps : List Point) :
    changedRoutes ps (reroute ws ps) =
      (ps.filter fun p => decide (routeOf ws p.tag p.kind ≠ p.route)).map fun p => (p, rerouted ws p) := by
  have hzip : ps.zip (ps.map (rerouted ws)) = ps.map fun p => (p, rerouted ws p) := by
    simpa using List.zip_map' (f := id) (g := rerouted ws) (l := ps)
  rw [changedRoutes, reroute_eq, hzip, List.filter_map]
  congr 2
  funext p
  simp [rerouted, bne, beq_eq_decide, eq_comm (a := p.route)]

/-- What makes a change of route BUSY is the work that uses the route (R59). -/
theorem routeBusy_iff (s : State) (p : Point) : routeBusy s p = true ↔ s.RouteInUse p := by
  simp only [routeBusy, Bool.or_eq_true, Work.underTrial_iff, Work.servesTrial_iff, captured_iff, State.RouteInUse,
    or_assoc]
  simp [Option.isSome_iff_ne_none]

/-! ### WRITE_WINDOW by its checks -/

section
variable {s : State} {f : WindowFields} {x : RouteWindow}

theorem writeWindow_invalid (h : ∀ x, ¬GivesWindow f x) : writeWindow f s = refuse s .invalid := by
  have hnone : f.check = none := Option.eq_none_iff_forall_ne_some.mpr fun x hx => h x (windowFields_check.mp hx)
  rw [writeWindow, hnone]

variable (h : GivesWindow f x)
include h

theorem writeWindow_conflict {a b : Nat}
    (hconflict : routeConflict [] (reroute (s.routes.set f.number x) s.work.points) = some (a, b)) :
    writeWindow f s = ⟨s, .conflict, [.u16 a, .u16 b]⟩ := by
  simp only [writeWindow, windowFields_check.mpr h, hconflict]

variable (hfree : routeConflict [] (reroute (s.routes.set f.number x) s.work.points) = none)
include hfree

theorem writeWindow_busy {p : Point}
    (hbusy : (s.work.points.filter fun p => decide (routeOf (s.routes.set f.number x) p.tag p.kind ≠ p.route)).find?
      (routeBusy s) = some p) :
    writeWindow f s = ⟨s, .busy, [.u16 p.tag]⟩ := by
  simp only [writeWindow, windowFields_check.mpr h, hfree, changedRoutes_reroute, List.find?_map, Function.comp_def,
    hbusy, Option.map_some]

theorem writeWindow_stores
    (hidle : (s.work.points.filter fun p => decide (routeOf (s.routes.set f.number x) p.tag p.kind ≠ p.route)).find?
      (routeBusy s) = none) :
    let ws := s.routes.set f.number x
    let changed := s.work.points.filter fun p => decide (routeOf ws p.tag p.kind ≠ p.route)
    writeWindow f s =
      ⟨({ s with routes := ws, work := { s.work with points := reroute ws s.work.points } } : State).disturbed, .ok,
        [.u16 changed.length, .u16 (changed.filter fun (p : Point) => p.route.isNone).length,
         .u16 (changed.filter fun (p : Point) => (routeOf ws p.tag p.kind).isNone).length]⟩ := by
  simp only [writeWindow, windowFields_check.mpr h, hfree, changedRoutes_reroute, List.find?_map, Function.comp_def,
    hidle, Option.map_none, List.filter_map, List.length_map]
  rfl

end

end Sys2Proof.Machine

open Sys2Proof Sys2Proof.Machine

/-- Settles O34: the checks of R54 are `windowFields_check`; in tag order the first conflict and the first record in
the way are those at the lowest tags. -/
theorem writeWindowReroutes : Obligations.WriteWindowReroutes := by
  unfold Obligations.WriteWindowReroutes
  intro s rtag f ht hr gives
  refine ⟨fun h => ?_, ?_⟩
  · exact congrArg Host.Outcome.next (serve_answers ht hr (.writeWindow f) (writeWindow f) (writeWindow_invalid h))
  intro x hx hsorted ws new clash inWay ps changed
  have hgives : GivesWindow f x := hx
  have hclash {p q : Point} (hp : p ∈ s.work.points) (hq : q ∈ s.work.points) :
      clashes ws p q = true ↔ clash p q := by
    rw [clashes_iff]
    exact ⟨fun h => ⟨hp, hq, h⟩, fun h => h.2.2⟩
  have hinWay {p : Point} : p ∈ changed ∧ routeBusy s p = true ↔ inWay p := by
    rw [routeBusy_iff, List.mem_filter, decide_eq_true_eq, and_assoc]
  have hfree (hnone : ∀ p q, ¬clash p q) : routeConflict [] (reroute ws s.work.points) = none :=
    routeConflict_free hsorted fun p hp q hq => Bool.eq_false_iff.mpr fun h => hnone p q ((hclash hp hq).mp h)
  refine ⟨fun p q hpq hfirst hlowest => ?_, fun p hnone hp hlowest => ?_, fun hnone hidle => ?_⟩
  · have ⟨hp, hq, _⟩ := hpq
    have hconflict := routeConflict_first hsorted hp hq ((hclash hp hq).mpr hpq)
      (fun p' hp' q' hq' h => hfirst p' q' ((hclash hp' hq').mp h)) fun q' hq' h => hlowest q' ((hclash hp hq').mp h)
    exact congrArg Host.Outcome.next
      (serve_answers ht hr (.writeWindow f) (writeWindow f) (writeWindow_conflict hgives hconflict))
  · obtain ⟨hchanged, hbusy⟩ := hinWay.mpr hp
    have hfound : changed.find? (routeBusy s) = some p :=
      find?_lowest (hsorted.filter _) hchanged hbusy fun q hq h => hlowest q (hinWay.mp ⟨hq, h⟩)
    exact congrArg Host.Outcome.next
      (serve_answers ht hr (.writeWindow f) (writeWindow f) (writeWindow_busy hgives (hfree hnone) hfound))
  · have hnotFound : changed.find? (routeBusy s) = none :=
      List.find?_eq_none.mpr fun p hp h => hidle p (hinWay.mp ⟨hp, h⟩)
    exact congrArg Host.Outcome.next (serve_changes ht hr (.writeWindow f) (writeWindow f)
      (writeWindow_stores hgives (hfree hnone) hnotFound) rfl rfl)
end

section
/-! ## An EVENT by its sequence bit (R61, R96, R147, R155) -/

namespace Sys2Proof.Machine

/-- The core with branch `br` standing as `y`, once a frame of the node, which stood as `x`, was heard (R147). -/
def Work.hearing (w : Work) (br : Branch) (node : Nat) (x : Node) (y : Ring) : Work :=
  (w.setRing br y).posting (bothPosts (heardNews br node x))

section
variable (w : Work) (br : Branch) (node : Nat) (x : Node) (y z : Ring)

theorem Work.hearing_ring : (w.hearing br node x y).ring br = y := by
  rw [Work.hearing, Work.posting_ring, Work.ring_setRing]

theorem Work.hearing_setRing : (w.hearing br node x y).setRing br z = w.hearing br node x z := by
  rw [Work.hearing, Work.posting_setRing, Work.setRing_setRing, Work.hearing]

theorem eventPoint_hearing (other : Branch) (f : EventFields) :
    eventPoint other f (w.hearing br node x y) = eventPoint other f w :=
  eventPoint_setRing ..

end

/-- The end of an event at which nothing but the node's frame is told. -/
theorem State.settle_hearing {s : State} (hq : s.Quiet) (br : Branch) (node : Nat) (x : Node) (y : Ring) :
    ({ s with work := s.work.hearing br node x y } : State).settle =
      ({ s with work := s.work.setRing br y } : State).notifiedBoth (heardNotices br node x) := by
  have hquiet : ({ s with work := s.work.setRing br y } : State).Quiet :=
    hq.of_work (Work.setRing_outbox ..) (Work.setRing_dist ..)
  have hblock (k : Link) (p : Post) (hp : p ∈ postsTo k (bothPosts (heardNews br node x))) : p.block = .ring := by
    rw [postsTo_bothPosts, heardNews, List.map_map] at hp
    obtain ⟨n, -, rfl⟩ := List.mem_map.mp hp
    rfl
  have hnews (k : Link) :
      (postsTo k (bothPosts (heardNews br node x))).map Post.notice = heardNotices br node x := by
    rw [notices_bothPosts, heardNews, List.map_map]
    exact List.map_id _
  have hsettle := State.settle_posting_one hquiet (hblock .line) (hblock .console)
  rwa [hnews, hnews] at hsettle

/-- An EVENT that a branch takes, and that tells no more than that its node was heard. -/
theorem exec_eventFrame_heard {s : State} {br : Branch} {f : EventFields} {x : Node} {y : Ring} (hq : s.Quiet)
    (h1 : 1 ≤ f.node) (h126 : f.node ≤ 126) (hlive : (s.work.ring br).state ≠ .down)
    (htaken : takeEvent br f s = { s with work := s.work.hearing br f.node x y }) :
    exec (.eventFrame br f) s = .next
      (({ s with work := s.work.setRing br y } : State).notifiedBoth (heardNotices br f.node x)) := by
  have hhears : hears s br = true := decide_eq_true hlive
  have hpasses : f.passes = true := decide_eq_true ⟨h1, h126⟩
  show Host.Outcome.next (if hears s br then (eventArrives br f s).settle else s) = _
  rw [if_pos hhears, eventArrives, if_pos hpasses, htaken, State.settle_hearing hq]

theorem Node.heard_absent (x : Node) : x.heard.state = .absent ↔ x.state = .absent := by
  unfold Node.heard
  by_cases hs : x.state = .silent <;> simp [hs]

theorem Ring.setNode_stats (r : Ring) (n : Nat) (x : Node) : (r.setNode n x).stats = r.stats := by
  unfold Ring.setNode
  split <;> rfl

theorem eventPoint_none {br : Branch} {f : EventFields} {w : Work}
    (h : ∀ p ∈ w.points, p.route = some ⟨br, f.node, f.channel⟩ → p.kind ≠ .sensor ∧ p.kind ≠ .induct) :
    eventPoint br f w = none :=
  List.find?_eq_none.mpr fun p hp => by simpa using h p hp

/-- On a busy downlink an acknowledgement waits (R155). -/
theorem queueAck_hearing (l : Loop) (w : Work) (br : Branch) (node : Nat) (x : Node) {y : Ring} (n : Nat) (bit : Bool)
    (hbusy : y.downlink ≠ none) :
    queueAck l br n bit (w.hearing br node x y) = w.hearing br node x { y with acks := y.acks ++ [⟨n, bit⟩] } := by
  rw [queueAck, Work.hearing_ring, Work.hearing_setRing, arbitration_busy]
  rwa [Work.hearing_ring]

/-! ### The cases of R155 -/

section
variable {w : Work} {br : Branch} {f : EventFields} {x : Node} (l : Loop) (hx : (w.ring br).node f.node = some x)
include hx

theorem sequenceEvent_defers (h : (w.ring br).state ≠ .running ∨ 32 ≤ (w.ring br).acks.length) :
    sequenceEvent l br f (nodeHeard br f.node w) =
      (w.hearing br f.node x { (w.ring br).setNode f.node x.heard with
        stats := { (w.ring br).stats with deferred := bump (w.ring br).stats.deferred } }, false) := by
  obtain ⟨hstate, hacks⟩ := (w.ring br).setNode_acks f.node x.heard
  rw [nodeHeard_eq hx, ← Work.hearing]
  simp only [sequenceEvent, deferEvent, Work.hearing_ring, Work.hearing_setRing, hstate, hacks, Ring.setNode_stats]
  by_cases hrun : (w.ring br).state = .running
  · rw [if_neg (not_not_intro hrun), if_pos (h.resolve_left (not_not_intro hrun))]
  · rw [if_pos hrun]

variable (hrun : (w.ring br).state = .running) (hroom : (w.ring br).acks.length < 32)
include hrun hroom

/-- A RUNNING branch with room for an acknowledgement takes the EVENT by its node (R155). -/
theorem sequenceEvent_takes :
    sequenceEvent l br f (nodeHeard br f.node w) =
      let heard := (w.ring br).setNode f.node x.heard
      if x.state = .absent then (unmapEvent br (w.hearing br f.node x heard), false)
      else if f.seq = x.expected then
        (queueAck l br f.node f.seq
          (w.hearing br f.node x (heard.setNode f.node { x.heard with expected := !x.expected })), true)
      else
        (queueAck l br f.node f.seq (w.hearing br f.node x { heard with
          stats := { (w.ring br).stats with dup := bump (w.ring br).stats.dup } }), false) := by
  obtain ⟨hstate, hacks⟩ := (w.ring br).setNode_acks f.node x.heard
  rw [nodeHeard_eq hx, ← Work.hearing]
  simp only [sequenceEvent, Work.hearing_ring, Work.hearing_setRing, hstate, hacks, hrun, ne_eq, not_true, if_false,
    Nat.not_le.mpr hroom, Ring.node_setNode hx, Node.heard_absent, Ring.setNode_stats]
  rfl

theorem sequenceEvent_unmaps (habsent : x.state = .absent) :
    sequenceEvent l br f (nodeHeard br f.node w) =
      (w.hearing br f.node x { (w.ring br).setNode f.node x.heard with
        stats := { (w.ring br).stats with unmapped := bump (w.ring br).stats.unmapped } }, false) := by
  rw [sequenceEvent_takes l hx hrun hroom]
  simp only [habsent, if_true, unmapEvent, Work.hearing_ring, Work.hearing_setRing, Ring.setNode_stats]

variable (hpresent : x.state ≠ .absent) (hbusy : (w.ring br).downlink ≠ none)
include hpresent hbusy

theorem sequenceEvent_repeats (hseq : f.seq ≠ x.expected) :
    sequenceEvent l br f (nodeHeard br f.node w) =
      (w.hearing br f.node x { (w.ring br).setNode f.node x.heard with
        acks := (w.ring br).acks ++ [⟨f.node, f.seq⟩]
        stats := { (w.ring br).stats with dup := bump (w.ring br).stats.dup } }, false) := by
  obtain ⟨-, hacks⟩ := (w.ring br).setNode_acks f.node x.heard
  obtain ⟨-, -, hdownlink, -⟩ := (w.ring br).setNode_frame f.node x.heard
  rw [sequenceEvent_takes l hx hrun hroom]
  simp only [hpresent, hseq, if_false]
  rw [queueAck_hearing]
  · simp only [hacks]
  · exact (congrArg (· ≠ none) hdownlink).mpr hbusy

theorem sequenceEvent_turns (hseq : f.seq = x.expected) :
    sequenceEvent l br f (nodeHeard br f.node w) =
      (w.hearing br f.node x { (w.ring br).setNode f.node { x.heard with expected := !x.expected } with
        acks := (w.ring br).acks ++ [⟨f.node, f.seq⟩] }, true) := by
  let turned : Node := { x.heard with expected := !x.expected }
  obtain ⟨-, hacks⟩ := (w.ring br).setNode_acks f.node turned
  obtain ⟨-, -, hdownlink, -⟩ := (w.ring br).setNode_frame f.node turned
  rw [sequenceEvent_takes l hx hrun hroom]
  simp only [hpresent, if_false]
  rw [if_pos hseq, Ring.setNode_setNode, queueAck_hearing _ _ _ _ _ _ _ (by rwa [hdownlink]), hacks]

end

end Sys2Proof.Machine

open Sys2Proof Sys2Proof.Machine

/-- Settles O54: each case of R155 is one of `sequenceEvent`, and the rest of the event tells that the node was
heard. -/
theorem eventsTakeTheirSequence : Obligations.EventsTakeTheirSequence := by
  unfold Obligations.EventsTakeTheirSequence
  intro br s f x r hq h1 h126 hx heard bump' now queued
  have ignored {y : Ring} (hlive : r.state ≠ .down)
      (h : sequenceEvent s.loop br f (nodeHeard br f.node s.work) = (s.work.hearing br f.node x y, false)) :
      exec (.eventFrame br f) s = .next (now y) :=
    exec_eventFrame_heard hq h1 h126 hlive (by rw [takeEvent, h]; rfl)
  have live {b : BranchState} (h : r.state = b) (hb : b ≠ .down) : r.state ≠ .down := h ▸ hb
  refine ⟨fun h => ?_, fun hrun hroom habsent => ?_, fun hrun hroom hpresent hbusy hseq => ?_,
    fun hrun hroom hpresent hbusy hseq hpoint => ?_, fun hdown => ?_⟩
  · rcases h with hstate | ⟨hrun, hfull⟩
    · exact ignored (live hstate nofun) (sequenceEvent_defers s.loop hx (.inl (hstate ▸ nofun)))
    · exact ignored (live hrun nofun) (sequenceEvent_defers s.loop hx (.inr hfull))
  · exact ignored (live hrun nofun) (sequenceEvent_unmaps s.loop hx hrun hroom habsent)
  · exact ignored (live hrun nofun) (sequenceEvent_repeats s.loop hx hrun hroom hpresent hbusy hseq)
  · refine exec_eventFrame_heard hq h1 h126 (live hrun nofun) ?_
    rw [takeEvent, sequenceEvent_turns s.loop hx hrun hroom hpresent hbusy hseq]
    have hnone : eventPoint br f s.work = none := eventPoint_none hpoint
    simp only [if_true, intake, eventPoint_hearing, hnone, State.mapWork, unmapEvent, Work.hearing_ring,
      Work.hearing_setRing, Ring.setNode_stats]
    rfl
  · have hdeaf : hears s br = false := decide_eq_false (not_not_intro hdown)
    show Host.Outcome.next (if hears s br then (eventArrives br f s).settle else s) = _
    rw [hdeaf]
    rfl
end

section
/-! ## NODE_QUERY (R62, R148, R156, R157) -/

namespace Sys2Proof.Machine

/-! ### A relay put to its branch -/

section
variable {l : Loop} {w : Work} {k : Link} {rtag tag node channel : Nat} {item : QueryItem} {a : Route} {br : Branch}

theorem issue_relay_joins (hrun : (w.ring br).state = .running) (hheard : (w.ring br).nodeState node ≠ .silent)
    (hbusy : (w.ring br).downlink ≠ none) :
    issue l br (newReq (.relay k rtag tag item a) node channel) w =
      w.setRing br { w.ring br with
        relayq := (w.ring br).relayq ++ [⟨.relay k rtag tag item a, node, channel, 0, false⟩] } := by
  simp only [issue, put_busy l (q := newReq (.relay k rtag tag item a) node channel) hrun hheard hbusy]
  rfl

/-- To a branch that is not RUNNING the relay fails before its node is looked at (log 39). -/
theorem issue_relay_branchDown (hrun : (w.ring br).state ≠ .running) :
    issue l br (newReq (.relay k rtag tag item a) node channel) w =
      w.post k .relay (.nodeReply rtag tag item a .branchDown 0) := by
  simp only [issue, put, hrun, ne_eq, not_false_eq_true, if_true]
  rfl

theorem issue_relay_nodeSilent (hrun : (w.ring br).state = .running) (hmute : (w.ring br).nodeState node = .silent) :
    issue l br (newReq (.relay k rtag tag item a) node channel) w =
      w.post k .relay (.nodeReply rtag tag item a .nodeSilent 0) := by
  have hnode : (w.ring br).nodeState (newReq (.relay k rtag tag item a) node channel).node = .silent := hmute
  simp only [issue, put, hrun, hnode, ne_eq, not_true, if_false, if_true]
  rfl

end

/-! ### The request by its checks -/

theorem QueryItem.ofCode_code (i : QueryItem) : QueryItem.ofCode i.code = some i := by cases i <;> rfl

theorem QueryItem.ofCode_none {n : Nat} (h1 : n ≠ 1) (h2 : n ≠ 2) : QueryItem.ofCode n = none := by
  unfold QueryItem.ofCode
  split <;> first | rfl | contradiction

section
variable {k : Link} {rtag tag : Nat} {item : QueryItem} {s : State} {p : Point} {a : Route}
  (hp : s.work.point tag = some p) (ha : p.route = some a)
include hp ha

theorem nodeQuery_full (hfull : 4 ≤ s.work.ringA.relays k + s.work.ringB.relays k) :
    nodeQuery k rtag tag item.code s = refuse s .full := by
  simp only [nodeQuery, QueryItem.ofCode_code, hp, ha, ge_iff_le, hfull, if_true]

theorem nodeQuery_relays (hroom : s.work.ringA.relays k + s.work.ringB.relays k < 4) :
    nodeQuery k rtag tag item.code s =
      ⟨s.mapWork (issue s.loop a.branch (newReq (.relay k rtag tag item a) a.node a.channel)), .accepted, []⟩ := by
  simp only [nodeQuery, QueryItem.ofCode_code, hp, ha, ge_iff_le, Nat.not_le.mpr hroom, if_false]

end

/-- A request whose handling posts one notice: it is answered, and the notice joins its queue. -/
theorem serve_posts {s : State} {k : Link} (h : s.Takes k) {rtag : Nat} (hr : rtag ≠ 0) (q : Request)
    (handle : State → Reply) {x : Status} {b : List Field} {block : Block} {n : Notice}
    (hh : handle s = ⟨s.mapWork fun w => w.post k block n, x, b⟩) :
    serve k rtag q handle s = (s.answered k rtag q x b).notified k [n] := by
  have hquiet : (s.answered k rtag q x b).Quiet :=
    h.1.of_work (congrArg Work.outbox (State.answered_work ..)) (congrArg Work.dist (State.answered_work ..))
  have hposted : (s.mapWork fun w => w.post k block n).answered k rtag q x b =
      { s.answered k rtag q x b with work := (s.answered k rtag q x b).work.post k block n } := by
    cases k <;> rfl
  rw [serve_takes h hr, hh]
  exact (congrArg State.settle hposted).trans (State.settle_post hquiet k block n)

end Sys2Proof.Machine

open Sys2Proof Sys2Proof.Machine

/-- Settles O59: the refusals are tests in one order, and a relay past them is put to its branch. -/
theorem relaysAreAsked : Obligations.RelaysAreAsked := by
  unfold Obligations.RelaysAreAsked
  refine ⟨fun k s rtag tag item ht hr h1 h2 => ?_, ?_⟩
  · have hinvalid : nodeQuery k rtag tag item s = refuse s .invalid := by
      simp only [nodeQuery, QueryItem.ofCode_none h1 h2]
    exact congrArg Host.Outcome.next (serve_answers ht hr (.nodeQuery tag item) (nodeQuery k rtag tag item) hinvalid)
  intro k s rtag tag item ht hr q flying
  have answers {x : Status} {b : List Field} (h : nodeQuery k rtag tag item.code s = ⟨s, x, b⟩) :
      exec (.nodeQuery k rtag tag item.code) s = .next (s.answered k rtag q x b) :=
    congrArg Host.Outcome.next (serve_answers ht hr q (nodeQuery k rtag tag item.code) h)
  refine ⟨fun hp => answers ?_, fun p hp ha => answers ?_,
    fun p a hp ha hfull => answers (nodeQuery_full hp ha hfull), fun p a hp ha hroom => ?_⟩
  · simp only [nodeQuery, QueryItem.ofCode_code, hp, refuse]
  · simp only [nodeQuery, QueryItem.ofCode_code, hp, ha]
  · intro r job
    have hrelays := nodeQuery_relays (rtag := rtag) (item := item) hp ha hroom
    have fails {n : Notice}
        (h : issue s.loop a.branch (newReq job a.node a.channel) s.work = s.work.post k .relay n) :
        exec (.nodeQuery k rtag tag item.code) s = .next ((s.answered k rtag q .accepted []).notified k [n]) := by
      refine congrArg Host.Outcome.next (serve_posts ht hr q (nodeQuery k rtag tag item.code) (block := .relay) ?_)
      rw [hrelays, State.mapWork, h]
      rfl
    refine ⟨fun hrun hheard hbusy => ?_, fun hrun => fails (issue_relay_branchDown hrun),
      fun hrun hmute => fails (issue_relay_nodeSilent hrun hmute)⟩
    rw [State.mapWork, issue_relay_joins hrun hheard hbusy] at hrelays
    exact congrArg Host.Outcome.next (serve_changes ht hr q (nodeQuery k rtag tag item.code) hrelays
      (Work.setRing_outbox ..) (Work.setRing_dist ..))
end

section
/-! ## Handover and service (R66 to R72) -/

namespace Sys2Proof.Machine

/-- An answer leaves nothing else to be done. -/
theorem State.Quiet.answered {s : State} (h : s.Quiet) (k : Link) (rtag : Nat) (q : Request) (x : Status)
    (b : List Field) : (s.answered k rtag q x b).Quiet :=
  h.of_work (congrArg Work.outbox (State.answered_work ..)) (congrArg Work.dist (State.answered_work ..))

/-- A request that changes the core without posting, and then posts one notice: it is answered, and the notice joins the
queue of link `j`. -/
theorem serve_notifies {s t : State} {k : Link} (h : s.Takes k) {rtag : Nat} (hr : rtag ≠ 0) (q : Request)
    (handle : State → Reply) {j : Link} {block : Block} {n : Notice} {x : Status} {b : List Field}
    (hh : handle s = ⟨t.mapWork fun w => w.post j block n, x, b⟩) (ho : t.work.outbox = s.work.outbox)
    (hd : t.work.dist = s.work.dist) : serve k rtag q handle s = (t.answered k rtag q x b).notified j [n] := by
  have hquiet : (t.answered k rtag q x b).Quiet := (h.1.of_work ho hd).answered ..
  rw [serve_takes h hr, hh]
  exact (congrArg State.settle (posting_answered t [⟨j, block, n⟩] k rtag q x b)).trans
    (State.settle_post hquiet j block n)

/-! ### The asks and the fires that name a point -/

theorem Work.ask_isSome (w : Work) (tag : Nat) : (w.ask tag).isSome = true ↔ ∃ a ∈ w.asks, a.tag = tag := by
  simp [Work.ask]

theorem Work.closeAsk_eq (w : Work) (tag : Nat) :
    w.closeAsk tag = { w with asks := w.asks.filter fun a => decide (a.tag ≠ tag) } := by
  simp [Work.closeAsk, bne, Bool.beq_eq_decide_eq]

theorem Work.lineFires_eq (w : Work) (chute : Nat) :
    w.lineFires chute = (w.fires.filter fun e => decide (e.owner = .line ∧ e.chute = some chute)).length := by
  simp [Work.lineFires, Bool.beq_eq_decide_eq]

theorem Work.lineFires_pos (w : Work) (chute : Nat) :
    0 < w.lineFires chute ↔ ∃ e ∈ w.fires, e.owner = .line ∧ e.chute = some chute := by
  simp [Work.lineFires_eq, List.length_pos_iff_exists_mem]

theorem Work.consoleFires_iff (w : Work) (tag : Nat) :
    w.consoleFires tag = true ↔ ∃ e ∈ w.fires, e.owner = .console ∧ e.chute = some tag := by
  simp [Work.consoleFires]

/-! ### TAKE by its steps (R66) -/

section
variable {s : State} {tag : Nat} {p : Point} (hp : s.work.point tag = some p) (hline : p.custody = .line)
include hp hline

theorem takePoint_asked (h : ∃ a ∈ s.work.asks, a.tag = tag) : takePoint tag s = refuse s .busy := by
  simp [takePoint, hp, hline, (s.work.ask_isSome tag).2 h]

variable (hfree : ∀ a ∈ s.work.asks, a.tag ≠ tag)
include hfree

theorem takePoint_outOfService (hout : p.service = .outOfService) :
    takePoint tag s =
      if s.work.lineFires tag > 0 then refuse s .busy else ok (s.mapWork fun w => w.passToConsole p) := by
  have hnone : (s.work.ask tag).isSome = false := by simpa [Work.ask] using hfree
  simp [takePoint, hp, hline, hnone, hout]

theorem takePoint_inService (hin : p.service = .inService) :
    takePoint tag s = if s.work.asks.length ≥ 16 then refuse s .full else ⟨s.mapWork (openAsk p), .accepted, []⟩ := by
  have hnone : (s.work.ask tag).isSome = false := by simpa [Work.ask] using hfree
  simp [takePoint, hp, hline, hnone, hin]

end

/-! ### RELEASE (R67) -/

theorem answerAsk_release {s : State} {tag r : Nat} {p : Point} (ha : s.work.ask tag = some ⟨tag, .asked r⟩)
    (hp : s.work.point tag = some p) : answerAsk tag 1 s = releasePoint p s := by
  simp [answerAsk, ha, hp]

/-- An expiry of an ask in ASKED closes it, and the console hears of it (R69). -/
theorem exec_askTimerExpiry_asked {s : State} (hq : s.Quiet) {tag r : Nat}
    (ha : s.work.ask tag = some ⟨tag, .asked r⟩) :
    exec (.askTimerExpiry tag) s =
      .next (({ s with work := s.work.closeAsk tag } : State).notified .console
        [.custodyDone tag false (some .timeout)]) := by
  have hexpire : expireAsk tag s.work =
      (s.work.closeAsk tag).post .console .custody (.custodyDone tag false (some .timeout)) := by
    simp [expireAsk, ha]
  have hclosed : State.Quiet { s with work := s.work.closeAsk tag } := hq
  refine congrArg Host.Outcome.next (Eq.trans ?_ (State.settle_post hclosed .console .custody _))
  rw [State.mapWork, hexpire]

/-- An expiry without an ask in ASKED does nothing (log 3). -/
theorem exec_askTimerExpiry_idle {s : State} (hq : s.Quiet) {tag : Nat}
    (ha : ∀ r, s.work.ask tag ≠ some ⟨tag, .asked r⟩) : exec (.askTimerExpiry tag) s = .next s := by
  have hexpire : expireAsk tag s.work = s.work := by
    unfold expireAsk
    split
    · rfl
    · next a hask =>
      obtain rfl : a.tag = tag := by simpa using List.find?_some hask
      split
      · next r hr => exact absurd (hr ▸ hask) (ha r)
      · rfl
  refine congrArg Host.Outcome.next (Eq.trans ?_ hq.settle)
  rw [State.mapWork, hexpire]

theorem Service.ofCode_none {n : Nat} (h1 : n ≠ 1) (h2 : n ≠ 2) : Service.ofCode n = none := by
  unfold Service.ofCode
  split <;> simp_all

theorem Service.ofCode_eq {n : Nat} (h : n = 1 ∨ n = 2) :
    Service.ofCode n = some (if n = 1 then .inService else .outOfService) := by
  rcases h with rfl | rfl <;> rfl

end Sys2Proof.Machine

open Sys2Proof Sys2Proof.Machine

/-- Settles O37: the five steps of R66 are those of the model, and an ask that opens is what the line hears of. -/
theorem takeHandsOver : Obligations.TakeHandsOver := by
  unfold Obligations.TakeHandsOver
  intro s rtag tag ht hr fires
  have answers {x : Status} (h : takePoint tag s = ⟨s, x, []⟩) :
      exec (.take rtag tag) s = .next (s.answered .console rtag (.take tag) x []) :=
    congrArg Host.Outcome.next (serve_answers ht hr (.take tag) (takePoint tag) h)
  have hfires : s.work.lineFires tag > 0 ↔ fires := s.work.lineFires_pos tag
  refine ⟨fun hp => answers (by simp [takePoint, hp, refuse]), fun p hp =>
    ⟨fun hconsole => answers (by simp [takePoint, hp, hconsole, ok]), fun hline =>
      ⟨fun hask => answers (takePoint_asked hp hline hask), fun hfree => ?_⟩⟩⟩
  have hout := takePoint_outOfService hp hline hfree
  have hin := takePoint_inService hp hline hfree
  obtain rfl := Work.point_tag hp
  refine ⟨fun h hbusy => answers ((hout h).trans (if_pos (hfires.2 hbusy))), fun h hidle => ?_,
    fun h hfull => answers ((hin h).trans (if_pos hfull)), fun h hroom => ?_⟩
  · exact congrArg Host.Outcome.next (serve_changes ht hr (.take p.tag) (takePoint p.tag)
      ((hout h).trans (if_neg (mt hfires.1 hidle))) rfl rfl)
  · exact congrArg Host.Outcome.next (serve_notifies ht hr (.take p.tag) (takePoint p.tag)
      (t := { s with work := { s.work with asks := s.work.asks ++ [⟨p.tag, .asked 30000⟩] } })
      ((hin h).trans (if_neg (Nat.not_le.2 hroom))) rfl rfl)

/-- Settles O38: KEEP, RELEASE and the expiry on an ask in ASKED, and what each finds otherwise. -/
theorem asksAreAnswered : Obligations.AsksAreAnswered := by
  unfold Obligations.AsksAreAnswered
  intro s rtag tag ht hr without n q
  have hclose (w : Work) (hw : w.asks = s.work.asks) : w.closeAsk tag = { w with asks := without } := by
    rw [Work.closeAsk_eq, hw]
  have answers {x : Nat} {y : Status} (h : answerAsk tag x s = ⟨s, y, []⟩) :
      exec (.answerAsk rtag tag x) s = .next (s.answered .line rtag (q x) y []) :=
    congrArg Host.Outcome.next (serve_answers ht hr (q x) (answerAsk tag x) h)
  refine ⟨fun x h1 h2 => answers ?_, fun x hx hask => answers ?_, fun x hx hask => answers ?_,
    fun hask => exec_askTimerExpiry_idle ht.1 (by simp [hask]),
    fun hask => exec_askTimerExpiry_idle ht.1 (by simp [hask]), fun r p hask hp => ?_⟩
  · have hrange : within 1 2 x = false := by
      simp only [decide_eq_false_iff_not]
      omega
    simp [answerAsk, hrange, refuse]
  · rcases hx with rfl | rfl <;> simp [answerAsk, hask, refuse]
  · rcases hx with rfl | rfl <;> simp [answerAsk, hask, refuse]
  have hrelease := answerAsk_release hask hp
  have hn : s.work.lineFires tag = n := s.work.lineFires_eq tag
  refine ⟨?_, ?_, fun hzero => ?_, fun hfires => ?_⟩
  · rw [← hclose s.work rfl]
    exact congrArg Host.Outcome.next (serve_notifies ht hr (q 2) (answerAsk tag 2)
      (t := { s with work := s.work.closeAsk tag }) (by simp [answerAsk, hask, keepPoint]; rfl) rfl rfl)
  · rw [← hclose s.work rfl]
    exact exec_askTimerExpiry_asked ht.1 hask
  · rw [← hclose (s.work.setPoint _) rfl]
    obtain rfl := Work.point_tag hp
    exact congrArg Host.Outcome.next (serve_notifies ht hr (q 1) (answerAsk p.tag 1)
      (t := { s with work := (s.work.passToConsole p).closeAsk p.tag })
      (hrelease.trans (if_pos (hn.trans hzero))) rfl rfl)
  · intro draining
    have hdrains : (s.work.setPoint { p with service := .outOfService }).startDraining tag =
        { s.work.setPoint { p with service := .outOfService } with asks := draining } := by
      refine congrArg (fun as => { s.work.setPoint { p with service := .outOfService } with asks := as })
        (List.map_congr_left fun a _ => ?_)
      by_cases htag : a.tag = tag <;> simp [htag]
    rw [← hdrains, ← hn]
    obtain rfl := Work.point_tag hp
    exact congrArg Host.Outcome.next (serve_changes ht hr (q 1) (answerAsk p.tag 1)
      (hrelease.trans (if_neg (hn ▸ hfires))) rfl rfl)

/-- Settles O39: the checks of R71 are tests in one order. -/
theorem giveBackReturns : Obligations.GiveBackReturns := by
  unfold Obligations.GiveBackReturns
  intro s rtag tag ht hr held
  have refused {x : Status} (h : giveBack tag s = refuse s x) :
      exec (.giveBack rtag tag) s = .next (s.answered .console rtag (.giveBack tag) x []) :=
    congrArg Host.Outcome.next (serve_answers ht hr (.giveBack tag) (giveBack tag) h)
  have hheld : (s.work.underTrial tag || s.work.consoleFires tag) = true ↔ held := by
    rw [Bool.or_eq_true, Work.underTrial_iff, Work.consoleFires_iff]
  refine ⟨fun hp => refused (by simp [giveBack, hp]), fun p hp => ⟨fun hline => refused (by simp [giveBack, hp, hline]),
    fun hconsole h => refused ?_, fun hconsole h => ?_⟩⟩
  · simp only [giveBack, hp, hconsole, hheld.2 h]
    rfl
  · refine congrArg Host.Outcome.next (serve_notifies ht hr (.giveBack tag) (giveBack tag)
      (t := { s with work := s.work.setPoint { p with custody := .line, service := .outOfService } })
      (block := .custody)
      ?_ rfl rfl)
    simp only [giveBack, hp, hconsole, mt hheld.1 h]
    rfl

/-- Settles O40: the checks of R72 are tests in one order. -/
theorem serviceIsSet : Obligations.ServiceIsSet := by
  unfold Obligations.ServiceIsSet
  intro s rtag tag x ht hr answer
  have refused {y : Status} (h : setService tag x s = refuse s y) :
      exec (.setService rtag tag x) s = .next (answer y) :=
    congrArg Host.Outcome.next (serve_answers ht hr (.setService tag x) (setService tag x) h)
  refine ⟨fun ⟨h1, h2⟩ => refused (by simp [setService, Service.ofCode_none h1 h2]),
    fun hx hp => refused (by simp [setService, Service.ofCode_eq hx, hp]), fun p hx hp => ?_⟩
  have hcode := Service.ofCode_eq hx
  have hnone (hfree : ∀ a ∈ s.work.asks, a.tag ≠ tag) : (s.work.ask tag).isSome = false := by
    simpa [Work.ask] using hfree
  refine ⟨fun hconsole => refused (by simp [setService, hcode, hp, hconsole]), fun hline hask => refused ?_,
    fun hline hfree hin hproof => refused ?_, fun hline hfree hproven => ?_⟩
  · simp [setService, hcode, hp, hline, (s.work.ask_isSome tag).2 hask]
  · rw [if_pos hin] at hcode
    simp [setService, hcode, hp, hline, hnone hfree, hproof]
  · refine congrArg Host.Outcome.next (serve_changes ht hr (.setService tag x) (setService tag x) ?_ rfl rfl)
    have hpasses : ¬(x = 1 ∧ p.proof ≠ .proven) := by
      rintro ⟨rfl, hproof⟩
      exact hproven.elim (by decide) hproof
    simp [setService, hcode, hp, hline, hnone hfree, hpasses]
    rfl
end

section
/-! ## CANCEL_DISCHARGE (R93) -/

namespace Sys2Proof.Machine

/-- A discharge ends as the last LINE fire of a draining chute: custody of the chute passes on with it (R68, R94). -/
theorem endDischarge_drains (l : Loop) (outcome : DischargeOutcome) {e : Entry} {w : Work} {c : Nat} {p : Point}
    (hc : e.chute = some c) (howner : e.owner = .line) (ha : w.ask c = some ⟨c, .draining⟩) (hp : w.point c = some p)
    (hlast : ∀ f ∈ w.fires, f.owner = .line → f.chute = some c → f.seq = e.seq) :
    endDischarge l outcome e w = (((w.without e id).passToConsole p).closeAsk c).posting
      [⟨.line, .fires, .dischargeDone e.carrier c outcome e.ref e.misses l.tracker.revolution⟩,
       ⟨.console, .custody, .custodyDone c true none⟩] := by
  let ended : Work := (w.without e id).post .line .fires
    (.dischargeDone e.carrier c outcome e.ref e.misses l.tracker.revolution)
  have hask : ended.ask c = some ⟨c, .draining⟩ := ha
  have hpoint : ended.point c = some p := hp
  have hnone : ended.lineFires c = 0 := by
    refine Nat.eq_zero_of_not_pos fun h => ?_
    obtain ⟨f, hf, hline, hchute⟩ := (ended.lineFires_pos c).1 h
    obtain ⟨hmem, hseq⟩ := List.mem_filter.1 hf
    exact of_decide_eq_true hseq (hlast f hmem hline hchute)
  have hdrains : endDischarge l outcome e w = drainAsk e ended := by
    rw [endDischarge, removeEntry_eq, howner, hc]
    rfl
  rw [hdrains, drainAsk, howner, hc]
  simp only [hask, hpoint, hnone]
  exact (if_pos (by decide)).trans (Work.posting_posting (((w.without e id).passToConsole p).closeAsk c) [_] [_])

theorem Work.entryOf_carrier {w : Work} {n : Nat} {e : Entry} (h : w.entryOf n = some e) : e.carrier = n := by
  simpa using List.find?_some h

section
variable {m : Link} {s : State} {n : Nat} {g : Geometry} {e : Entry} (hg : s.loop.tracker.geometry = some g)
  (hn : n < g.carriers) (he : s.work.entryOf n = some e)
include hg hn he

/-- Past the carrier and its entry, R93 tests the origin, the owner and the state. -/
theorem cancelDischarge_listed :
    cancelDischarge m n s =
      if e.origin = .chuteItem ∨ e.origin = .beltJog then refuse s .invalid
      else if e.owner ≠ m then refuse s .custody
      else if e.state = .sent then refuse s .busy
      else ok (s.mapWork (endDischarge s.loop .cancelled e)) := by
  have hgeo : s.loop.geometry = some g := hg
  simp [cancelDischarge, hgeo, carrierOk, hn, he]

theorem cancelDischarge_ends (ho : e.origin = .lineDischarge ∨ e.origin = .consoleDischarge) (howner : e.owner = m)
    (hw : e.state = .waiting) : cancelDischarge m n s = ok (s.mapWork (endDischarge s.loop .cancelled e)) := by
  rw [cancelDischarge_listed hg hn he]
  rcases ho with ho | ho <;> simp [ho, howner, hw]

end

end Sys2Proof.Machine

open Sys2Proof Sys2Proof.Machine

/-- Settles O43: the checks of R93 are tests in one order, and past them the discharge ends, with the drain that waits
for it. -/
theorem cancelDischargeEnds : Obligations.CancelDischargeEnds := by
  unfold Obligations.CancelDischargeEnds
  refine ⟨?_, ?_⟩
  · intro m s rtag n ht hr answers
    have refused {x : Status} (h : cancelDischarge m n s = refuse s x) : answers x :=
      congrArg Host.Outcome.next (serve_answers ht hr (.cancelDischarge n) (cancelDischarge m n) h)
    refine ⟨fun hg => refused ?_, fun g hg => ?_⟩
    · have hgeo : s.loop.geometry = none := hg
      simp [cancelDischarge, hgeo]
    have hgeo : s.loop.geometry = some g := hg
    refine ⟨fun hn => refused (by simp [cancelDischarge, hgeo, carrierOk, Nat.not_lt.2 hn]), fun hn hfree => refused ?_,
      fun e hn he => ?_⟩
    · have hnone : s.work.entryOf n = none := List.find?_eq_none.2 fun e hm => by simpa using hfree e hm
      simp [cancelDischarge, hgeo, carrierOk, hn, hnone]
    intro trialEntry
    have hlisted := cancelDischarge_listed (m := m) hg hn he
    exact ⟨fun hi => refused (hlisted.trans (if_pos hi)),
      fun hi howner => refused (hlisted.trans ((if_neg hi).trans (if_pos howner))),
      fun hi howner hsent => refused
        (hlisted.trans ((if_neg hi).trans ((if_neg (not_not_intro howner)).trans (if_pos hsent))))⟩
  · intro k s rtag n c g e ht hr hg hn he hc ho howner hw others w done
    have hcarrier := Work.entryOf_carrier he
    have hends := cancelDischarge_ends hg hn he ho howner hw
    have hcarriers : (s.work.carriers.modify n fun x => { x with load := x.load.unbound }) = w.carriers := by
      refine congrArg (s.work.carriers.modify n) (funext fun x => ?_)
      cases x with
      | mk load => cases load <;> rfl
    have hwithout : s.work.without e id = w := by
      calc s.work.without e id
        _ = { w with carriers := s.work.carriers.modify e.carrier fun x => { x with load := x.load.unbound } } := rfl
        _ = w := by rw [hcarrier, hcarriers]
    refine ⟨fun hask => ?_, fun p hline hask hp hlast => ?_⟩
    · have hend := endDischarge_eq s.loop .cancelled (w := s.work) hc (hask.imp_left howner.trans)
      rw [howner, hcarrier, hwithout] at hend
      refine congrArg Host.Outcome.next (serve_notifies ht hr (.cancelDischarge n) (cancelDischarge k n)
        (t := { s with work := w }) (block := .fires) (hends.trans ?_) rfl rfl)
      rw [State.mapWork, hend]
      rfl
    · intro w'
      have hdrained : ((s.work.without e id).passToConsole p).closeAsk c = w' := by
        rw [hwithout, Work.closeAsk_eq]
        rfl
      have hend := endDischarge_drains s.loop .cancelled hc (howner.trans hline) hask hp hlast
      rw [hdrained, hcarrier] at hend
      have hquiet : State.Quiet { s with work := w' } := ht.1
      refine congrArg Host.Outcome.next ?_
      rw [serve_takes ht hr, hends, State.mapWork, hend]
      refine (congrArg State.settle (posting_answered { s with work := w' } _ k rtag _ .ok [])).trans
        ((State.settle_posting_one (hquiet.answered ..) (b := .fires) (c := .custody) ?_ ?_).trans ?_) <;>
        simp [postsTo, done]
end

section
/-! ## Breaks and port resets (R70, R168, R174) -/

namespace Sys2Proof.Machine

/-- What a port reset posts of an ask: one in ASKED is posted again, with its time remaining (R70). -/
def askNews (w : Work) (a : Ask) : Option Notice :=
  match a.state with
  | .asked r => (w.point a.tag).map fun p => .custodyAsk a.tag p.kind r
  | .draining => none

/-- The end of an event at which one block posts to one link. -/
theorem State.settle_posting_link {s : State} (h : s.Quiet) (k : Link) (b : Block) (ns : List Notice) :
    (s.posting (ns.map fun n => ⟨k, b, n⟩)).settle = s.notified k ns := by
  have hpost (j : Link) (hj : j = k ∨ j ≠ k) :
      (postsTo j (ns.map fun n => ⟨k, b, n⟩)).map Post.notice = if j = k then ns else [] := by
    rcases hj with rfl | hj
    · simp [postsTo, List.filter_map, Function.comp_def]
    · simp [postsTo, hj, hj.symm]
  rw [State.settle_posting_one (b := b) (c := b) h (by simp +contextual [postsTo]) (by simp +contextual [postsTo]),
    hpost .line (Decidable.em _), hpost .console (Decidable.em _)]
  cases k <;> simp

theorem askAgain_eq (w : Work) (ps : List Post) (a : Ask) :
    askAgain (w.posting ps) a =
      w.posting (ps ++ (askNews w a).toList.map fun n => ⟨.line, .link, n⟩) := by
  have hread : (w.posting ps).point a.tag = w.point a.tag := rfl
  unfold askAgain askNews
  cases a.state with
  | draining => simp
  | asked r =>
    rw [hread]
    cases w.point a.tag with
    | none => simp
    | some p => exact Work.posting_posting ..

theorem foldl_askAgain (as : List Ask) (w : Work) (ps : List Post) :
    as.foldl askAgain (w.posting ps) =
      w.posting (ps ++ (as.filterMap (askNews w)).map fun n => ⟨.line, .link, n⟩) := by
  induction as generalizing ps with
  | nil => simp
  | cons a as ih =>
    rw [List.foldl_cons, askAgain_eq, ih]
    cases h : askNews w a <;> simp [h]

/-- What the port reset of a link leaves before its notices (R174). -/
def State.resetPort (s : State) (k : Link) : State :=
  State.setPort { s with digest := s.digest.map fun (x : Walk) => x.setWaiter k false } k (s.port k).clear

/-- STARTED(PORT) and, to the line, the asks in ASKED, in table order (R70, R174). -/
def portResetNews (k : Link) (s : State) : List Notice :=
  .started .port s.loop.fences :: if k = .line then s.work.asks.filterMap (askNews s.work) else []

/-- The port reset posts to its own link alone, and from one block (R174). -/
theorem portReset_eq (k : Link) (s : State) :
    portReset k s = (s.resetPort k).posting ((portResetNews k s).map fun n => ⟨k, .link, n⟩) := by
  cases k with
  | console => rfl
  | line =>
    have hasks := foldl_askAgain s.work.asks s.work [⟨.line, .link, .started .port s.loop.fences⟩]
    exact congrArg (fun w => { s.resetPort .line with work := w }) hasks

theorem portReset_settle (k : Link) {s : State} (hq : s.Quiet) :
    (portReset k s).settle = (s.resetPort k).notified k (portResetNews k s) := by
  have hreset : (s.resetPort k).Quiet := by cases k <;> exact hq
  rw [portReset_eq, State.settle_posting_link hreset]

theorem Port.startBreak_eq (p : Port) :
    p.startBreak = { p with
      answers := p.answers ++ (if p.rx = [] then [] else [some ⟨0, 0, .badFrame, []⟩])
      rx := [], breakHeld := true } := by
  cases h : p.rx <;> simp [Port.startBreak, h, Port.pushAnswer, badFrameAnswer]

theorem Port.sendAnswer_held {p : Port} (h : p.breakHeld = true) : p.sendAnswer = p := if_pos h

theorem Port.sendAnswer_formed {p : Port} {a : Answer} {rest : List (Option Answer)} (h : p.answers = some a :: rest)
    (hb : p.breakHeld = false) : p.sendAnswer = { p with answers := rest, wire := a.bytes } := by
  simp [Port.sendAnswer, h, hb]

end Sys2Proof.Machine

open Sys2Proof Sys2Proof.Machine

/-- Settles O4: breaks and answers write the one port, and a port reset's notices go to its own queue. -/
theorem linkBreaksAndAnswers : Obligations.LinkBreaksAndAnswers := by
  unfold Obligations.LinkBreaksAndAnswers
  intro k s
  refine ⟨congrArg (fun p => Host.Outcome.next (s.setPort k p)) (s.port k).startBreak_eq, rfl, fun hq => ?_,
    fun a rest ha hb => congrArg (fun p => Host.Outcome.next (s.setPort k p)) (Port.sendAnswer_formed ha hb),
    fun hb => congrArg Host.Outcome.next ?_⟩
  · intro asks emptied dropped
    have hasks : asks = s.work.asks.filterMap (askNews s.work) := by
      refine List.filterMap_congr fun a _ => ?_
      unfold askNews
      cases a.state <;> cases s.work.point a.tag <;> rfl
    rw [hasks]
    exact congrArg Host.Outcome.next (portReset_settle k hq)
  · rw [Port.sendAnswer_held hb, State.setPort_port]
end

section
/-! ## A zone line changes (R73) -/

namespace Sys2Proof.Machine

/-- The loop with the fence state of one zone changed by its line (R73). -/
def Loop.refenced (l : Loop) (zone : Nat) (stop : Bool) : Loop :=
  { l with fences := if stop then l.fences ||| 1#8 <<< zone else l.fences &&& ~~~(1#8 <<< zone) }

theorem Loop.fenced_refenced (l : Loop) (z : Fin 8) (stop : Bool) : (l.refenced z.val stop).fenced z.val = stop := by
  cases stop
  · exact (fences_run l.fences z z.isLt).trans (if_pos rfl)
  · exact (fences_stop l.fences z z.isLt).trans (if_pos rfl)

theorem Loop.fenced_refenced_of_zone (l : Loop) {z : Fin 8} {p : Point} (hz : p.config.zone = z.val) (stop : Bool) :
    (l.refenced z.val stop).fenced p.config.zone = stop := by
  rw [hz, Loop.fenced_refenced]

/-- The command of a zone line's change to STOP, or to RUN. -/
def zoneLine (z : Fin 8) (stop : Bool) : Instr := if stop then .zoneFenced z else .zoneUnfenced z

/-- What the neighbours do as a zone line changes (R74 to R78). -/
def zoneWork (l : Loop) (zone : Nat) (stop : Bool) (w : Work) : Work :=
  if stop then fenceWork l zone w else unfenceDrives l zone (reevaluate l w)

/-- The state with the fence state of the zone changed, and the core as the neighbours leave it. -/
def State.zoneChanged (s : State) (zone : Nat) (stop : Bool) (w : Work) : State :=
  { s with loop := s.loop.refenced zone stop, work := w }

/-- FENCE (R73). -/
def fenceNotice (l : Loop) (zone : Nat) (stop : Bool) : Notice := .fence zone stop (l.refenced zone stop).fences

section
variable {s : State} {z : Fin 8} {stop : Bool}

/-- A line that already stands so does nothing (log 3). -/
theorem exec_zoneLine_still (hq : s.Quiet) (h : s.loop.fences.getLsbD z.val = stop) :
    exec (zoneLine z stop) s = .next s := by
  have hfenced : s.loop.fenced z.val = stop := h
  cases stop
  · have hstill : unfenceZone z.val s = s := by simp [unfenceZone, hfenced]
    exact congrArg Host.Outcome.next ((congrArg State.settle hstill).trans hq.settle)
  · have hstill : fenceZone z.val s = s := if_pos hfenced
    exact congrArg Host.Outcome.next ((congrArg State.settle hstill).trans hq.settle)

variable (h : s.loop.fences.getLsbD z.val = !stop) {w : Work}
  (hw : ∀ ps, zoneWork (s.loop.refenced z.val stop) z.val stop (s.work.posting ps) = w.posting ps)
include h hw

/-- A change of the line posts FENCE to both links, beside what the neighbours do. -/
theorem exec_zoneLine :
    exec (zoneLine z stop) s = .next
      ((s.zoneChanged z.val stop w).posting (bothPosts [(.custody, fenceNotice s.loop z.val stop)])).settle := by
  have hfenced : s.loop.fenced z.val = !stop := h
  have hchange : (setFence z.val stop s).mapWork (zoneWork (s.loop.refenced z.val stop) z.val stop) =
      (s.zoneChanged z.val stop w).posting (bothPosts [(.custody, fenceNotice s.loop z.val stop)]) := by
    have hposts : (setFence z.val stop s).work =
        s.work.posting (bothPosts [(.custody, fenceNotice s.loop z.val stop)]) := Work.postBoth_eq_posting ..
    rw [State.mapWork, hposts, hw]
    rfl
  cases stop
  · exact congrArg Host.Outcome.next (congrArg State.settle ((if_pos hfenced).trans hchange))
  · exact congrArg Host.Outcome.next (congrArg State.settle ((if_neg (by simp [hfenced])).trans hchange))

/-- A change that leaves the distribution in flight, if any, posts FENCE alone. -/
theorem exec_zoneLine_open (hq : (s.zoneChanged z.val stop w).Quiet) :
    exec (zoneLine z stop) s =
      .next ((s.zoneChanged z.val stop w).notifiedBoth [fenceNotice s.loop z.val stop]) := by
  rw [exec_zoneLine h hw, State.settle_posting_both hq]

/-- A change that settles the last row of the distribution also ends it with SPEED_SET (R137). -/
theorem exec_zoneLine_over (hout : w.outbox = []) {d : Distribution} (hd : w.dist = some d) (ho : d.over = true) :
    ∃ t, exec (zoneLine z stop) s = .next t ∧
      (s.zoneChanged z.val stop { w with dist := none }).Posted t
        [fenceNotice s.loop z.val stop, .speedSet d.value d.cause d.acked d.failed]
        [fenceNotice s.loop z.val stop] := by
  have hquiet : (s.zoneChanged z.val stop { w with dist := none }).Quiet := ⟨hout, by simp [State.zoneChanged]⟩
  have hposted := State.settle_posting hquiet (bothPosts [(.custody, fenceNotice s.loop z.val stop)] ++
    [⟨.line, .drives, .speedSet d.value d.cause d.acked d.failed⟩])
  rw [← State.posting_posting] at hposted
  refine ⟨_, exec_zoneLine h hw, ?_⟩
  rw [State.settle_over hd ho]
  exact hposted

end

/-! ### The windows and the trial of a sensor (R74, R75, R116) -/

theorem cancelWindows_others (before l : Loop) {p : Window → Bool} {w : Work} (h : ∀ y ∈ w.windows, p y = false) :
    cancelWindows before l p w = w := by
  have hnone : w.windows.filter p = [] := List.filter_eq_nil_iff.2 fun y hy => by simp [h y hy]
  simp [cancelWindows, hnone, tableOrder, sortBy]

/-- Without trials, and without windows in the zone, a fence reaches the drives alone. -/
theorem fenceWork_noPlan (l : Loop) {zone : Nat} {w : Work} (hp : w.plan = [])
    (hout : ∀ y ∈ w.windows, ∀ p, w.point y.sensor = some p → p.config.zone ≠ zone) :
    fenceWork l zone w = (w.drivesIn zone).foldl fenceRow w := by
  have hothers : ∀ y ∈ w.windows, sensorIn w zone y = false := fun y hy => by
    unfold sensorIn
    cases hs : w.point y.sensor with
    | none => rfl
    | some p => simpa using hout y hy p hs
  simp only [fenceWork, reevaluate_noPlan l hp, cancelWindows_others l l hothers]

/-- Without trials and windows, a fence reaches the one drive of the zone. -/
theorem fenceWork_drive (l : Loop) {zone tag : Nat} {w : Work} (hp : w.plan = []) (hw : w.windows = [])
    (hdrives : w.drivesIn zone = [tag]) : fenceWork l zone w = fenceRow w tag := by
  rw [fenceWork_noPlan l hp (by simp [hw]), hdrives]
  rfl

section
variable {w : Work} {t : Trial} (h : w.plan = [t]) {l : Loop} (hspace : t.reasons.noSpace = false)
include h hspace

/-- The one trial is HELD for the reasons that now apply (R116). -/
theorem reevaluate_holds (hrun : t.state ≠ .queued) {r : HoldReasons} (hr : reasonsNow l w t = r)
    (hothers : r.others = true) :
    reevaluate l w =
      stopPolls t { w with plan := [{ t with state := .held, reasons := { r with noSpace := false } }] } := by
  have hset := Work.setTrial_of_plan h (u := { t with state := .held, reasons := { r with noSpace := false } }) rfl
  simp only [reevaluate, h, List.map_cons, List.map_nil, List.foldl_cons, List.foldl_nil, reevaluateOne,
    Work.trial_of_plan h, Trial.isRunning, hrun, ne_eq, not_false_eq_true, decide_true, if_true, hr, hothers, hspace,
    goHeld, hset]

/-- The one trial, HELD, returns as the last of its reasons ceases (R116). -/
theorem reevaluate_returns (hheld : t.state = .held) (hothers : (reasonsNow l w t).others = false) :
    reevaluate l w = beginWork l t { w with plan := [{ t with state := .active, reasons := .none }] } := by
  have hset := Work.setTrial_of_plan h (u := { t with state := .active, reasons := .none }) rfl
  simp [reevaluate, h, reevaluateOne, Work.trial_of_plan h, Trial.isRunning, Trial.isActive, hheld, hothers, hspace,
    goActive, hset]

end

/-- A sensor trial without a window arms at the first carrier due as it becomes ACTIVE (R123). -/
theorem beginWork_sensor (l : Loop) {t : Trial} (hkind : t.kind = .sensor) (hn : t.armed = none) (w : Work) :
    beginWork l t w = armSensor l t.id none w := by
  simp [beginWork, hkind, hn]

/-- The core with its one trial `t` HELD for the fence, without window and polls (R74, R116, R138). -/
def Work.heldFenced (w : Work) (t : Trial) : Work :=
  { w with
    plan := [{ t with state := .held, reasons := ⟨false, false, true, false⟩, armed := none }]
    windows := []
    polls := w.polls.filter fun q => decide (q.trial ≠ t.id)
    ringA := w.ringA.withdraw (keepsQueries t.order)
    ringB := w.ringB.withdraw (keepsQueries t.order) }

theorem reasonsNow_sensor {l : Loop} {w : Work} {t : Trial} {p : Point} (hkind : t.kind = .sensor)
    (hp : w.point t.target = some p) (hl : l.tracker.lock = .locked) :
    reasonsNow l w t = ⟨false, false, l.fenced p.config.zone, false⟩ := by
  simp [reasonsNow, hkind, Loop.isLocked, hl, workFenced, zoneFenced, hp]

section
variable {w : Work} {t : Trial} (h : w.plan = [t]) {l : Loop} (hl : l.tracker.lock = .locked) {p : Point}
  (hkind : t.kind = .sensor) (hp : w.point t.target = some p)
include h hl hkind hp

/-- A fence holds the ACTIVE sensor trial of the zone, and then cancels its window (R74, R116, log 8). -/
theorem fenceWork_sensor (hf : l.fenced p.config.zone = true) (ha : t.state = .active)
    (hspace : t.reasons.noSpace = false) {y : Window} (hw : w.windows = [y]) (hs : y.sensor = t.target)
    (hy : y.trial = t.id) (hpurpose : y.purpose = .sensorPass) (hdrives : w.drivesIn p.config.zone = []) :
    fenceWork l p.config.zone w = w.heldFenced t := by
  let u : Trial := { t with state := .held, reasons := ⟨false, false, true, false⟩ }
  have hreasons : reasonsNow l w t = ⟨false, false, true, false⟩ := by rw [reasonsNow_sensor hkind hp hl, hf]
  have hheld : reevaluate l w = stopPolls t { w with plan := [u] } :=
    reevaluate_holds h hspace (by simp [ha]) hreasons rfl
  let v := stopPolls t { w with plan := [u] }
  have hin : sensorIn v p.config.zone y = true := by
    have hpoint : v.point y.sensor = some p := hs ▸ hp
    simp [sensorIn, hpoint]
  have hcancel : cancelWindows l l (sensorIn v p.config.zone) v = endWindow l .cancelled none v y.order := by
    have hwin : v.windows = [y] := hw
    simp [cancelWindows, hwin, hin, tableOrder, sortBy, insertBy]
  have hgone : endWindow l .cancelled none v y.order = w.heldFenced t := by
    rw [endWindow_sensor (by exact hw) hpurpose]
    simp only [sensorVerdict, reportOf, hy]
    rw [windowGone_of_plan (t := u) rfl, rearm_inactive (t := { u with armed := none }) rfl l nofun]
    simp only [v, stopPolls_eq]
    rfl
  rw [fenceWork, hheld, hcancel, hgone]
  exact congrArg (List.foldl fenceRow (w.heldFenced t)) hdrives

/-- As the zone is freed, the HELD sensor trial arms at the first carrier due (R78, R116, R123). -/
theorem reevaluate_sensor_arms (hf : l.fenced p.config.zone = false) {g : Geometry} (hg : l.geometry = some g)
    (hc : 0 < g.carriers) (hheld : t.state = .held) (hspace : t.reasons.noSpace = false) (hn : t.armed = none)
    (hw : w.windows = []) : reevaluate l w = w.armedAt g p t (firstDue l p) := by
  let u : Trial := { t with state := .active, reasons := .none }
  have hothers : (reasonsNow l w t).others = false := by rw [reasonsNow_sensor hkind hp hl, hf]; rfl
  have htrial : Work.trial { w with plan := [u] } t.id = some u := Work.trial_of_plan (t := u) rfl
  have hbare : (u.isActive && u.armed.isNone) = true := by simp [Trial.isActive, u, hn]
  have harms : rearm l t.id none { w with plan := [u] } = armSensor l t.id none { w with plan := [u] } := by
    rw [rearm, htrial]
    exact if_pos hbare
  rw [reevaluate_returns h hspace hheld hothers, beginWork_sensor l hkind hn, ← harms]
  exact rearm_of_plan (w := { w with plan := [u] }) (t := u) hg hl hc rfl hw hp rfl hn none

end

/-- As the zone is freed, the HELD trial of its drive returns with its poll timer (R78, R116, R138). -/
theorem reevaluate_drive_polls {l : Loop} {w : Work} {t : Trial} {p : Point} (h : w.plan = [t])
    (hkind : t.kind = .zoneDrive) (hp : w.point t.target = some p) (hf : l.fenced p.config.zone = false)
    (hsteady : l.tracker.steady = true) (hheld : t.state = .held) (hspace : t.reasons.noSpace = false) :
    reevaluate l w = { w with
      plan := [{ t with state := .active, reasons := .none }], polls := w.polls ++ [⟨t.id, l.clock + 100⟩] } := by
  have hothers : (reasonsNow l w t).others = false := by
    simp [reasonsNow, hkind, hsteady, workFenced, zoneFenced, hp, hf, HoldReasons.others]
  rw [reevaluate_returns h hspace hheld hothers, beginWork, hkind]

/-! ### The drives of the zone (R77, R136) -/

theorem unfenceDrives_inFlight (l : Loop) {zone : Nat} {w : Work} (hdrives : w.drivesIn zone = [])
    (hd : w.dist ≠ none) :
    unfenceDrives l zone w = w := by
  obtain ⟨d, hd⟩ := Option.ne_none_iff_exists'.1 hd
  simp [unfenceDrives, hdrives, hd, commandRows]

/-- Without drives and without a distribution, one over no drive begins (log 14). -/
theorem unfenceDrives_empty (l : Loop) {zone : Nat} {w : Work} (hdrives : w.drivesIn zone = []) (hd : w.dist = none) :
    unfenceDrives l zone w = { w with dist := some ⟨l.tracker.setpoint, .unfence, []⟩ } := by
  simp [unfenceDrives, hdrives, hd, commandRows]

/-- A row whose request still waits is WITHHELD, and the request withdrawn (R77). -/
theorem fenceRow_waiting {w : Work} {d : Distribution} {tag v : Nat} {again : Bool} (hd : w.dist = some d)
    (hr : d.rows.find? (fun y => y.tag == tag) = some ⟨tag, .sent v again⟩) (hwaits : w.speedWaits tag = true) :
    fenceRow w tag = { w with
      dist := some { d with rows := rowsWith d.rows tag .withheld }
      ringA := w.ringA.withdraw (keepsSpeeds tag)
      ringB := w.ringB.withdraw (keepsSpeeds tag) } := by
  have hrow : w.row tag = some ⟨tag, .sent v again⟩ := (Work.row_of_dist hd).trans hr
  simp only [fenceRow, hrow, hwaits, if_true, Work.withdrawSpeed_eq, Work.setRow_of_dist hd]
  rfl

/-- A command on the field stays at a fence (R77). -/
theorem fenceRow_onField {w : Work} {d : Distribution} {tag v : Nat} {again : Bool} (hd : w.dist = some d)
    (hr : d.rows.find? (fun y => y.tag == tag) = some ⟨tag, .sent v again⟩) (hwaits : w.speedWaits tag = false) :
    fenceRow w tag = w := by
  have hrow : w.row tag = some ⟨tag, .sent v again⟩ := (Work.row_of_dist hd).trans hr
  simp [fenceRow, hrow, hwaits]

/-- A row joins between the rows of lower tags and those of higher ones (R131). -/
theorem insertRow_between {r : Row} {before after : List Row} (hb : ∀ y ∈ before, y.tag < r.tag)
    (ha : ∀ y ∈ after, r.tag < y.tag) : insertRow r (before ++ after) = before ++ r :: after := by
  induction before with
  | nil =>
    cases after with
    | nil => rfl
    | cons y after => exact if_pos (ha y List.mem_cons_self)
  | cons y before ih =>
    obtain ⟨hy, hrest⟩ := List.forall_mem_cons.1 hb
    exact (if_neg (Nat.lt_asymm hy)).trans (congrArg (List.cons y) (ih hrest))

/-- The row of the tag between rows of other tags is found, and alone changes. -/
theorem rowsWith_between {tag : Nat} {before after : List Row} (hb : ∀ y ∈ before, y.tag ≠ tag)
    (ha : ∀ y ∈ after, y.tag ≠ tag) (x y : RowState) :
    rowsWith (before ++ ⟨tag, x⟩ :: after) tag y = before ++ ⟨tag, y⟩ :: after := by
  have hbefore : rowsWith before tag y = before :=
    (List.map_congr_left fun r hr => if_neg (hb r hr)).trans (List.map_id before)
  rw [← rowsWith_head ha x y, rowsWith, List.map_append, ← rowsWith, hbefore, ← rowsWith]

theorem find?_between {tag : Nat} {before after : List Row} (hb : ∀ y ∈ before, y.tag ≠ tag) (x : RowState) :
    (before ++ ⟨tag, x⟩ :: after).find? (fun y => y.tag == tag) = some ⟨tag, x⟩ := by
  have hbefore : before.find? (fun y => y.tag == tag) = none := List.find?_eq_none.2 fun y hy => by simpa using hb y hy
  rw [List.find?_append, hbefore]
  simp

section
variable (l : Loop) {w : Work} {tag v : Nat} {again : Bool} {d : Distribution} {zone : Nat}
  (hdrives : w.drivesIn zone = [tag])
include hdrives

theorem unfenceDrives_begins (hd : w.dist = none) :
    unfenceDrives l zone w =
      commandRow l { w with dist := some ⟨l.tracker.setpoint, .unfence, [⟨tag, .pending⟩]⟩ } tag := by
  simp [unfenceDrives, hdrives, hd, commandRows]

variable (hd : w.dist = some d)
include hd

theorem unfenceDrives_row : unfenceDrives l zone w = commandRow l (unfenceRow w tag) tag := by
  simp [unfenceDrives, hdrives, hd, commandRows]

/-- A command on the field is marked to be sent again (R136, log 12). -/
theorem unfenceDrives_onField (hr : d.rows.find? (fun y => y.tag == tag) = some ⟨tag, .sent v again⟩)
    (hwaits : w.speedWaits tag = false) :
    unfenceDrives l zone w = { w with dist := some { d with rows := rowsWith d.rows tag (.sent v true) } } := by
  have hrow : w.row tag = some ⟨tag, .sent v again⟩ := (Work.row_of_dist hd).trans hr
  have hmarks : unfenceRow w tag = { w with dist := some { d with rows := rowsWith d.rows tag (.sent v true) } } := by
    simp [unfenceRow, hd, hrow, hwaits, Work.setRow_of_dist hd]
  rw [unfenceDrives_row l hdrives hd, hmarks]
  refine commandRow_idle l fun r hr' => ?_
  have hfound := (Work.row_of_dist
    (w := { w with dist := some { d with rows := rowsWith d.rows tag (.sent v true) } }) rfl).trans
      (find?_rowsWith hr (.sent v true))
  rw [Option.some.inj (hr'.symm.trans hfound)]
  nofun

/-- A WITHHELD row is PENDING again, and is commanded (R136). -/
theorem unfenceDrives_withheld (hr : d.rows.find? (fun y => y.tag == tag) = some ⟨tag, .withheld⟩) :
    unfenceDrives l zone w =
      commandRow l { w with dist := some { d with rows := rowsWith d.rows tag .pending } } tag := by
  have hrow : w.row tag = some ⟨tag, .withheld⟩ := (Work.row_of_dist hd).trans hr
  have hpending : unfenceRow w tag = { w with dist := some { d with rows := rowsWith d.rows tag .pending } } := by
    simp [unfenceRow, hd, hrow, Work.setRow_of_dist hd]
  rw [unfenceDrives_row l hdrives hd, hpending]

/-- A drive without a row joins in tag order, and is commanded (R131, R136). -/
theorem unfenceDrives_joins {before after : List Row} (hrows : d.rows = before ++ after)
    (hb : ∀ y ∈ before, y.tag < tag) (ha : ∀ y ∈ after, tag < y.tag) :
    unfenceDrives l zone w =
      commandRow l { w with dist := some { d with rows := before ++ ⟨tag, .pending⟩ :: after } } tag := by
  have hrow : w.row tag = none := by
    rw [Work.row_of_dist hd, hrows, List.find?_eq_none]
    intro y hy
    rcases List.mem_append.1 hy with hy | hy
    · simpa using (hb y hy).ne
    · simpa using (ha y hy).ne'
  have hjoins : unfenceRow w tag =
      { w with dist := some { d with rows := before ++ ⟨tag, .pending⟩ :: after } } := by
    simp [unfenceRow, hd, hrow, hrows, insertRow_between (r := ⟨tag, .pending⟩) hb ha]
  rw [unfenceDrives_row l hdrives hd, hjoins]

end

/-- A PENDING row of a free drive becomes SENT, and its SET_SPEED waits for the busy downlink (R133). -/
theorem commandRow_orders (l : Loop) {w : Work} {d : Distribution} {p : Point} {a : Route} (hd : w.dist = some d)
    (hr : d.rows.find? (fun y => y.tag == p.tag) = some ⟨p.tag, .pending⟩) (hp : w.point p.tag = some p)
    (hf : l.fenced p.config.zone = false) (ha : p.route = some a) (hrun : (w.ring a.branch).state = .running)
    (hn : (w.ring a.branch).nodeState a.node ≠ .silent) (hb : (w.ring a.branch).downlink ≠ none) :
    commandRow l w p.tag = Work.orders
      { w with dist := some { d with rows := rowsWith d.rows p.tag (.sent d.value false) } } p.tag d.value a := by
  rw [commandRow_joins l hd ((Work.row_of_dist hd).trans hr) hp hf ha hrun hn hb, Work.setRow_of_dist hd]

end Sys2Proof.Machine
end

section
/-! ## The events of a zone line (R73 to R78, R116, R136) -/

namespace Sys2Proof.Machine

section
variable {s : State} (hq : s.Quiet) {z : Fin 8}

/-! ### A zone without drives -/

section
variable (hdrives : s.work.drivesIn z.val = [])
include hq hdrives

/-- Without trials, windows and drives in the zone, a fence posts FENCE alone. -/
theorem exec_zoneFenced_noDrives (h : s.loop.fences.getLsbD z.val = false) (hp : s.work.plan = [])
    (hout : ∀ y ∈ s.work.windows, ∀ p, s.work.point y.sensor = some p → p.config.zone ≠ z.val) :
    exec (.zoneFenced z) s =
      .next ((s.zoneChanged z.val true s.work).notifiedBoth [fenceNotice s.loop z.val true]) := by
  refine exec_zoneLine_open (stop := true) h (fun ps => ?_) hq
  refine (fenceWork_noPlan (w := s.work.posting ps) _ hp hout).trans ?_
  exact congrArg (List.foldl fenceRow (s.work.posting ps)) hdrives

/-- With a distribution in flight, the release of a zone without drives leaves what its trials leave. -/
theorem exec_zoneUnfenced_inFlight (h : s.loop.fences.getLsbD z.val = true) {w : Work} (hout : w.outbox = [])
    (hdist : w.dist = s.work.dist) (hpoints : w.points = s.work.points) (hd : s.work.dist ≠ none)
    (hw : ∀ ps, reevaluate (s.loop.refenced z.val false) (s.work.posting ps) = w.posting ps) :
    exec (.zoneUnfenced z) s =
      .next ((s.zoneChanged z.val false w).notifiedBoth [fenceNotice s.loop z.val false]) := by
  have hnone : w.drivesIn z.val = [] := by rw [Work.drivesIn, hpoints]; exact hdrives
  refine exec_zoneLine_open (stop := false) h (fun ps => ?_) ⟨hout, fun d hd => hq.2 d (hdist ▸ hd)⟩
  refine (congrArg (unfenceDrives _ z.val) (hw ps)).trans ?_
  exact unfenceDrives_inFlight (w := w.posting ps) _ hnone (hdist ▸ hd)

/-- Where nothing is in flight, the distribution over no drive ends as it begins (R137, log 14). -/
theorem exec_zoneUnfenced_empty (h : s.loop.fences.getLsbD z.val = true) (hp : s.work.plan = [])
    (hd : s.work.dist = none) :
    ∃ t, exec (.zoneUnfenced z) s = .next t ∧ (s.zoneChanged z.val false s.work).Posted t
      [fenceNotice s.loop z.val false, .speedSet s.loop.tracker.setpoint .unfence 0 0]
      [fenceNotice s.loop z.val false] := by
  let begun : Work := { s.work with dist := some ⟨s.loop.tracker.setpoint, .unfence, []⟩ }
  have hends : ({ begun with dist := none } : Work) = s.work := by rw [← hd]
  have hover := exec_zoneLine_over (s := s) (z := z) (stop := false) (w := begun) h (fun ps => ?_) hq.1 rfl rfl
  · rwa [hends] at hover
  · refine (congrArg (unfenceDrives _ z.val) (reevaluate_noPlan _ (w := s.work.posting ps) hp)).trans ?_
    exact unfenceDrives_empty (w := s.work.posting ps) _ hdrives hd

end

/-! ### A sensor under its trial -/

section
variable {g : Geometry} {p : Point} {t : Trial} (hg : s.loop.tracker.geometry = some g)
  (hl : s.loop.tracker.lock = .locked) (hdrives : s.work.drivesIn z.val = []) (hp : s.work.plan = [t])
  (hkind : t.kind = .sensor) (hpoint : s.work.point t.target = some p) (hz : p.config.zone = z.val)
include hq hl hdrives hp hkind hpoint hz

/-- At the fence the trial is HELD(FENCED), and its window cancelled (R74, R116). -/
theorem exec_zoneFenced_sensor (h : s.loop.fences.getLsbD z.val = false) (ha : t.state = .active)
    (hspace : t.reasons.noSpace = false) {y : Window} (hw : s.work.windows = [y]) (hs : y.sensor = t.target)
    (hy : y.trial = t.id) (hpurpose : y.purpose = .sensorPass) :
    exec (.zoneFenced z) s = .next
      ((s.zoneChanged z.val true (s.work.heldFenced t)).notifiedBoth [fenceNotice s.loop z.val true]) := by
  have hf : (s.loop.refenced z.val true).fenced p.config.zone = true := s.loop.fenced_refenced_of_zone hz true
  refine exec_zoneLine_open (stop := true) h (fun ps => ?_) hq
  have hheld := fenceWork_sensor (w := s.work.posting ps) hp (l := s.loop.refenced z.val true) hl hkind hpoint hf ha
    hspace hw hs hy hpurpose (by rw [hz]; exact hdrives)
  rw [hz] at hheld
  exact hheld

include hg in
/-- At the release the trial held for the fence alone arms the first carrier due (R78, R116, R123). -/
theorem exec_zoneUnfenced_sensor (h : s.loop.fences.getLsbD z.val = true) {x k : Nat} (hx : s.loop.tracker.pos = some x)
    (hlaw : g.Law) (hheld : t.state = .held) (hspace : t.reasons.noSpace = false) (hn : t.armed = none)
    (hw : s.work.windows = []) (hd : s.work.dist ≠ none) (hdue : FirstDue g p x k) :
    exec (.zoneUnfenced z) s = .next
      ((s.zoneChanged z.val false (s.work.armedAt g p t k)).notifiedBoth [fenceNotice s.loop z.val false]) := by
  obtain ⟨⟨hlength, -⟩, ⟨hcarriers, -⟩, -⟩ := hlaw
  have hf : (s.loop.refenced z.val false).fenced p.config.zone = false := s.loop.fenced_refenced_of_zone hz false
  have hfirst : firstDue (s.loop.refenced z.val false) p = k :=
    firstDue_eq hg (congrArg (Option.getD · 0) hx) (by omega) hdue
  refine exec_zoneUnfenced_inFlight hq hdrives h (w := s.work.armedAt g p t k) hq.1 rfl rfl hd fun ps => ?_
  refine (reevaluate_sensor_arms (w := s.work.posting ps) hp (l := s.loop.refenced z.val false) hl hkind hpoint hf hg
    (by omega) hheld hspace hn hw).trans ?_
  rw [hfirst]
  rfl

end

/-! ### The drive of a zone -/

/-- The drive's row is commanded as its zone is freed: its SET_SPEED waits for the busy downlink of its branch. -/
theorem exec_zoneUnfenced_orders (h : s.loop.fences.getLsbD z.val = true) {w : Work} {d : Distribution} {p : Point}
    {a : Route} {rows : List Row}
    (hcmd : ∀ ps, unfenceDrives (s.loop.refenced z.val false) z.val
      (reevaluate (s.loop.refenced z.val false) (s.work.posting ps)) =
        commandRow (s.loop.refenced z.val false) (w.posting ps) p.tag)
    (hd : w.dist = some d) (hr : d.rows.find? (fun y => y.tag == p.tag) = some ⟨p.tag, .pending⟩)
    (hrows : rowsWith d.rows p.tag (.sent d.value false) = rows) (hp : w.point p.tag = some p)
    (hz : p.config.zone = z.val) (ha : p.route = some a) {r : Ring} (hring : w.ring a.branch = r)
    (hready : r.state = .running ∧ r.nodeState a.node ≠ .silent ∧ r.downlink ≠ none) (hout : w.outbox = []) :
    exec (.zoneUnfenced z) s = .next ((s.zoneChanged z.val false
      (Work.setRing { w with dist := some ⟨d.value, d.cause, rows⟩ } a.branch
        { r with driveq := r.driveq ++ [⟨.setSpeed p.tag d.value, a.node, a.channel, 0, false⟩] })).notifiedBoth
      [fenceNotice s.loop z.val false]) := by
  obtain ⟨hrun, hn, hb⟩ := hready
  have hf : (s.loop.refenced z.val false).fenced p.config.zone = false := s.loop.fenced_refenced_of_zone hz false
  have horders : Work.orders { w with dist := some ⟨d.value, d.cause, rows⟩ } p.tag d.value a =
      Work.setRing { w with dist := some ⟨d.value, d.cause, rows⟩ } a.branch
        { r with driveq := r.driveq ++ [⟨.setSpeed p.tag d.value, a.node, a.channel, 0, false⟩] } := by
    rw [Work.orders, Work.ring_withDist, hring]
  have hsent : (⟨p.tag, .sent d.value false⟩ : Row) ∈ rows :=
    hrows ▸ List.mem_of_find?_eq_some (find?_rowsWith hr (.sent d.value false))
  rw [← horders]
  refine exec_zoneLine_open (stop := false) h (fun ps => (hcmd ps).trans ?_) ⟨?_, fun e he => ?_⟩
  · have hring' : (w.posting ps).ring a.branch = r := (w.posting_ring ps a.branch).trans hring
    rw [commandRow_orders _ (w := w.posting ps) hd hr hp hf ha (hring' ▸ hrun) (hring' ▸ hn) (hring' ▸ hb), hrows]
    exact Work.orders_posting { w with dist := some ⟨d.value, d.cause, rows⟩ } ps p.tag d.value a
  · exact (Work.orders_outbox ..).trans hout
  · have hdist : some ⟨d.value, d.cause, rows⟩ = some e := (Work.orders_dist ..).symm.trans he
    obtain rfl := Option.some.inj hdist
    exact over_of_sent hsent rfl

section
variable {p : Point} {a : Route} (hdrives : s.work.drivesIn z.val = [p.tag]) (hpoint : s.work.point p.tag = some p)
  (hz : p.config.zone = z.val) (ha : p.route = some a) (h : s.loop.fences.getLsbD z.val = true)
  (hready : (s.work.ring a.branch).state = .running ∧ (s.work.ring a.branch).nodeState a.node ≠ .silent ∧
    (s.work.ring a.branch).downlink ≠ none)
include hq hdrives hpoint hz ha h hready

/-- Where nothing is in flight, a distribution of the setpoint begins with the drive's SET_SPEED (R136). The core `w` is
the one that the trials leave. -/
theorem exec_zoneUnfenced_begins (hd : s.work.dist = none) {w : Work}
    (hw : ∀ ps, reevaluate (s.loop.refenced z.val false) (s.work.posting ps) = w.posting ps)
    (hpoints : w.points = s.work.points) (hdist : w.dist = s.work.dist)
    (hring : w.ring a.branch = s.work.ring a.branch) (hout : w.outbox = s.work.outbox) :
    exec (.zoneUnfenced z) s = .next ((s.zoneChanged z.val false
      (Work.setRing
        { w with dist := some ⟨s.loop.tracker.setpoint, .unfence, [⟨p.tag, .sent s.loop.tracker.setpoint false⟩]⟩ }
        a.branch
        { s.work.ring a.branch with
          driveq := (s.work.ring a.branch).driveq ++
            [⟨.setSpeed p.tag s.loop.tracker.setpoint, a.node, a.channel, 0, false⟩] })).notifiedBoth
      [fenceNotice s.loop z.val false]) := by
  have hone : w.drivesIn z.val = [p.tag] := by rw [Work.drivesIn, hpoints]; exact hdrives
  refine exec_zoneUnfenced_orders h
    (w := { w with dist := some ⟨s.loop.tracker.setpoint, .unfence, [⟨p.tag, .pending⟩]⟩ }) (fun ps => ?_) rfl
    (by simp) (rowsWith_head (rest := []) nofun _ _) (by simpa only [Work.point, hpoints] using hpoint) hz ha
    ((Work.ring_withDist ..).trans hring) hready (hout.trans hq.1)
  rw [hw]
  exact unfenceDrives_begins _ (w := w.posting ps) hone (hdist.trans hd)

variable (hp : s.work.plan = []) {d : Distribution} (hd : s.work.dist = some d)
include hp hd

/-- A WITHHELD drive is commanded again (R136). -/
theorem exec_zoneUnfenced_withheld (hr : d.rows.find? (fun y => y.tag == p.tag) = some ⟨p.tag, .withheld⟩) :
    exec (.zoneUnfenced z) s = .next ((s.zoneChanged z.val false
      (Work.setRing { s.work with dist := some ⟨d.value, d.cause, rowsWith d.rows p.tag (.sent d.value false)⟩ }
        a.branch
        { s.work.ring a.branch with
          driveq := (s.work.ring a.branch).driveq ++
            [⟨.setSpeed p.tag d.value, a.node, a.channel, 0, false⟩] })).notifiedBoth
      [fenceNotice s.loop z.val false]) := by
  refine exec_zoneUnfenced_orders h
    (w := { s.work with dist := some { d with rows := rowsWith d.rows p.tag .pending } }) (fun ps => ?_) rfl
    (find?_rowsWith hr .pending) (rowsWith_rowsWith ..) hpoint hz ha (Work.ring_withDist ..) hready hq.1
  rw [reevaluate_noPlan _ (by exact hp)]
  exact unfenceDrives_withheld _ (w := s.work.posting ps) hdrives hd hr

/-- A drive that the distribution does not hold joins it in tag order, and is commanded (R131, R136). -/
theorem exec_zoneUnfenced_joins {before after : List Row} (hrows : d.rows = before ++ after)
    (hb : ∀ y ∈ before, y.tag < p.tag) (hafter : ∀ y ∈ after, p.tag < y.tag) :
    exec (.zoneUnfenced z) s = .next ((s.zoneChanged z.val false
      (Work.setRing
        { s.work with dist := some ⟨d.value, d.cause, before ++ ⟨p.tag, .sent d.value false⟩ :: after⟩ } a.branch
        { s.work.ring a.branch with
          driveq := (s.work.ring a.branch).driveq ++
            [⟨.setSpeed p.tag d.value, a.node, a.channel, 0, false⟩] })).notifiedBoth
      [fenceNotice s.loop z.val false]) := by
  have hbefore : ∀ y ∈ before, y.tag ≠ p.tag := fun y hy => (hb y hy).ne
  refine exec_zoneUnfenced_orders h
    (w := { s.work with dist := some { d with rows := before ++ ⟨p.tag, .pending⟩ :: after } }) (fun ps => ?_) rfl
    (find?_between hbefore .pending) (rowsWith_between hbefore (fun y hy => (hafter y hy).ne') _ _) hpoint hz ha
    (Work.ring_withDist ..) hready hq.1
  rw [reevaluate_noPlan _ (by exact hp)]
  exact unfenceDrives_joins _ (w := s.work.posting ps) hdrives hd hrows hb hafter

end

section
variable {tag v : Nat} {again : Bool} {d : Distribution} (hdrives : s.work.drivesIn z.val = [tag])
  (hp : s.work.plan = []) (hd : s.work.dist = some d)
  (hr : d.rows.find? (fun y => y.tag == tag) = some ⟨tag, .sent v again⟩)
include hdrives hp hd hr

/-- At the fence a row whose request still waits is WITHHELD, and its requests that wait are withdrawn (R77). -/
theorem fenceWork_waiting (hw : s.work.windows = []) (hwaits : s.work.speedWaits tag = true) (ps : List Post) :
    fenceWork (s.loop.refenced z.val true) z.val (s.work.posting ps) = Work.posting { s.work with
      dist := some { d with rows := rowsWith d.rows tag .withheld }
      ringA := s.work.ringA.withdraw (keepsSpeeds tag)
      ringB := s.work.ringB.withdraw (keepsSpeeds tag) } ps :=
  (fenceWork_drive (w := s.work.posting ps) _ hp hw hdrives).trans
    (fenceRow_waiting (w := s.work.posting ps) hd hr hwaits)

include hq

/-- A command on the field stays at the fence (R77). -/
theorem exec_zoneFenced_onField (h : s.loop.fences.getLsbD z.val = false) (hw : s.work.windows = [])
    (hwaits : s.work.speedWaits tag = false) :
    exec (.zoneFenced z) s =
      .next ((s.zoneChanged z.val true s.work).notifiedBoth [fenceNotice s.loop z.val true]) := by
  refine exec_zoneLine_open (stop := true) h (fun ps => ?_) hq
  exact (fenceWork_drive (w := s.work.posting ps) _ hp hw hdrives).trans
    (fenceRow_onField (w := s.work.posting ps) hd hr hwaits)

/-- At the release a command on the field is marked to be sent again (R136, log 12). -/
theorem exec_zoneUnfenced_onField (h : s.loop.fences.getLsbD z.val = true) (hwaits : s.work.speedWaits tag = false) :
    exec (.zoneUnfenced z) s = .next ((s.zoneChanged z.val false
      { s.work with dist := some { d with rows := rowsWith d.rows tag (.sent v true) } }).notifiedBoth
      [fenceNotice s.loop z.val false]) := by
  refine exec_zoneLine_open (stop := false) h (fun ps => ?_) ⟨hq.1, fun e he => ?_⟩
  · refine (congrArg (unfenceDrives _ z.val) (reevaluate_noPlan _ (w := s.work.posting ps) hp)).trans ?_
    exact unfenceDrives_onField (w := s.work.posting ps) _ hdrives hd hr hwaits
  · have hdist : some { d with rows := rowsWith d.rows tag (.sent v true) } = some e := he
    obtain rfl := Option.some.inj hdist
    exact over_of_sent (List.mem_of_find?_eq_some (find?_rowsWith hr (.sent v true))) rfl

end

end

end Sys2Proof.Machine

open Sys2Proof Sys2Proof.Machine

/-- Settles O41: the neighbours act by the zone's bit as the line leaves it, and what they leave is what the event ends
with. -/
theorem fenceEvents : Obligations.FenceEvents := by
  unfold Obligations.FenceEvents
  intro s z hq fenced freed stop run isStop drives
  have noPlan (hp : s.work.plan = []) (l : Loop) (ps : List Post) :
      reevaluate l (s.work.posting ps) = s.work.posting ps := reevaluate_noPlan l hp
  have hnone (hd : drives = []) : s.work.drivesIn z.val = [] := congrArg (List.map Point.tag) hd
  refine ⟨fun h => exec_zoneLine_still (stop := true) hq h, fun h => exec_zoneLine_still (stop := false) hq h,
    fun hp hout hd => ⟨fun h => exec_zoneFenced_noDrives hq (hnone hd) h hp hout,
      fun h hdist => exec_zoneUnfenced_inFlight hq (hnone hd) h hq.1 rfl rfl hdist (noPlan hp _),
      fun h hdist => exec_zoneUnfenced_empty hq (hnone hd) h hp hdist⟩, ?_, ?_⟩
  · intro g p t x hg hlaw hl hx _ hd hp hkind htarget hpoint hz
    rw [← htarget] at hpoint
    refine ⟨fun y h ha hreasons hw hs hy hpurpose => ?_, fun k h hheld hreasons hn hw hdist hdue => ?_⟩
    · exact exec_zoneFenced_sensor hq hl (hnone hd) hp hkind hpoint hz h ha (by rw [hreasons]; rfl) hw
        (hs.trans htarget.symm) hy hpurpose
    · exact exec_zoneUnfenced_sensor hq hg hl (hnone hd) hp hkind hpoint hz h hx hlaw hheld (by rw [hreasons]) hn hw
        hdist hdue
  intro p a hd hpoint ha hw r order commands begins ready
  have hone : s.work.drivesIn z.val = [p.tag] := congrArg (List.map Point.tag) hd
  have hz : p.config.zone = z.val := by
    have hmem : p ∈ drives := hd ▸ List.mem_singleton_self p
    obtain ⟨-, hzone⟩ : p.kind = .zoneDrive ∧ p.config.zone = z.val := by simpa using (List.mem_filter.1 hmem).2
    exact hzone
  refine ⟨fun h hready hdist => ⟨fun hp => ?_, fun t hp hkind htarget hheld hreasons hsteady => ?_⟩,
    fun d hp hdist => ?_⟩
  · exact exec_zoneUnfenced_begins hq hone hpoint hz ha h hready hdist (noPlan hp _) rfl rfl rfl rfl
  · intro w
    have hdrive : s.work.point t.target = some p := by rw [htarget, hpoint]
    exact exec_zoneUnfenced_begins hq hone hpoint hz ha h hready hdist (w := w)
      (fun ps => reevaluate_drive_polls (w := s.work.posting ps) hp hkind hdrive
        (s.loop.fenced_refenced_of_zone hz false) hsteady hheld (by rw [hreasons]))
      rfl rfl rfl rfl
  intro put waits
  refine ⟨fun v again h hr hwaits => ?_, fun v again hr hfield => ?_,
    fun h hready hr => exec_zoneUnfenced_withheld hq hone hpoint hz ha h hready hp hdist hr,
    fun before after h hready hrows hb hafter =>
      exec_zoneUnfenced_joins hq hone hpoint hz ha h hready hp hdist hrows hb hafter⟩
  · intro settled withdrawn acked failed
    have hspeed : s.work.speedWaits p.tag = true := by
      obtain ⟨q, hmem, u, hu⟩ := hwaits
      refine (Work.speedWaits_iff ..).2 ⟨q, ?_, u, hu⟩
      rcases List.mem_append.1 hmem with hmem | hmem <;> simp [Work.waiting, Ring.waiting, hmem]
    have hwork := fenceWork_waiting hone hp hdist hr hw hspeed
    have hover := over_iff { d with rows := rowsWith d.rows p.tag .withheld }
    refine ⟨fun hopen => ?_, fun hsettled => ?_⟩
    · refine exec_zoneLine_open (stop := true) h hwork ⟨hq.1, fun e he => ?_⟩
      obtain rfl := Option.some.inj he
      exact Bool.eq_false_iff.2 (mt hover.1 hopen)
    · have hends := exec_zoneLine_over (stop := true) h hwork hq.1 rfl (hover.2 hsettled)
      obtain ⟨hacked, hfailed⟩ := counts_of_over (hover.2 hsettled)
      rw [hacked, hfailed] at hends
      exact hends
  · have hspeed : s.work.speedWaits p.tag = false := by
      refine Bool.eq_false_iff.2 fun hspeed => ?_
      obtain ⟨q, hmem, u, hu⟩ := (Work.speedWaits_iff ..).1 hspeed
      exact hfield q hmem u hu
    exact ⟨fun h => exec_zoneFenced_onField hq hone hp hdist hr h hw hspeed,
      fun h => exec_zoneUnfenced_onField hq hone hp hdist hr h hspeed⟩
end

section
/-! ## The laws of the lists, and what keeps them

The fire list, the window table and the targets of trials are kept together (R84, R90, R101, R103, R113): a claim pass
joins an entry that names its trial's target, so the law of the list rests on that of the plan. A rule for each way of
writing the lists, the plan and the register. -/

namespace Sys2Proof.Machine

/-- The law of the fire list and the window table, and that of the trials' targets. -/
structure Work.Lawful (w : Work) : Prop where
  list : w.ListLaw
  target : w.TargetLaw

theorem Work.trial_mem {w : Work} {id : Nat} {t : Trial} (h : w.trial id = some t) : t ∈ w.plan :=
  List.mem_of_find?_eq_some h

theorem Work.entryAt_mem {w : Work} {seq : Nat} {e : Entry} (h : w.entryAt seq = some e) : e ∈ w.fires :=
  List.mem_of_find?_eq_some h

/-- What an attempt arms is one window, with a slot and for a pair that were free (R102, R123). -/
theorem attempt_armed {l : Loop} {p : Point} {id n fuel k j : Nat} {w w' : Work}
    (h : attempt l p id n w fuel k = .armed j w') :
    ∃ g, w.windows.length < 512 ∧ w.pairTaken p.tag j = false ∧ w' = joinWindow g p j .sensorPass id none w := by
  induction fuel generalizing k with
  | zero => cases h
  | succ fuel ih =>
    unfold attempt at h
    split at h
    · next harm =>
      cases h
      unfold armPass at harm
      repeat' split at harm
      all_goals cases harm
      next hspace hpair => exact ⟨_, by omega, by simpa using hpair, rfl⟩
    · cases h
    · cases h
    · exact ih h

/-- The effect of a reply to an entry whose trial has left is a load, or none (R120). -/
theorem orphanEffect_cases (e : Entry) (r : ItemReply) (w : Work) :
    orphanEffect e r w = w ∨ ∃ x, orphanEffect e r w = w.setLoad e.carrier x := by
  unfold orphanEffect
  repeat' split
  all_goals first | exact .inl rfl | exact .inr ⟨_, rfl⟩

/-- An entry that joins leaves the plan. -/
theorem addEntry_plan {l : Loop} {k : Nat} {chute : Option Nat} {origin : Origin} {owner : Link} {trial : Option Nat}
    {w w' : Work} (h : addEntry l k chute origin owner trial w = some w') : w'.plan = w.plan := by
  unfold addEntry at h
  split at h
  · cases h
  · split at h
    · cases h
      cases chute <;> simp
    · cases h

/-- `f` stands in the place of the entry `e`: with its joining number, carrier, chute and owner, fewer than three
misses, and requested only while WAITING (R84). -/
structure Entry.Replaces (f e : Entry) : Prop where
  seq : f.seq = e.seq
  carrier : f.carrier = e.carrier
  chute : f.chute = e.chute
  owner : f.owner = e.owner
  misses : f.misses ≤ 2
  sent : f.state = .sent → f.requested = false

namespace Work.Lawful

variable {w v : Work}

/-- What leaves the lists, the plan and the register keeps the laws. -/
theorem rest (h : w.Lawful) (hf : v.fires = w.fires) (hn : v.fireCount = w.fireCount) (hw : v.windows = w.windows)
    (hp : v.points = w.points) (ht : v.plan = w.plan) : v.Lawful := by
  obtain ⟨hl, htarget⟩ := h
  exact ⟨by simpa only [Work.ListLaw, Work.point, hf, hn, hw, hp] using hl,
    by simpa only [Work.TargetLaw, Work.point, hp, ht] using htarget⟩

/-- The laws speak of an entry of the list. -/
theorem replaces_self (h : w.Lawful) {e : Entry} (he : e ∈ w.fires) : e.Replaces e := by
  obtain ⟨-, -, hentry, -⟩ := h.list
  obtain ⟨-, hmisses, hsent⟩ := hentry e he
  exact ⟨rfl, rfl, rfl, rfl, hmisses, hsent⟩

/-! ### The plan -/

/-- A plan whose trials each have the kind and the target of one before keeps the laws. -/
theorem replan (h : w.Lawful) (hf : v.fires = w.fires) (hn : v.fireCount = w.fireCount) (hw : v.windows = w.windows)
    (hp : v.points = w.points) (ht : ∀ t ∈ v.plan, ∃ u ∈ w.plan, t.kind = u.kind ∧ t.target = u.target) :
    v.Lawful := by
  refine ⟨by simpa only [Work.ListLaw, Work.point, hf, hn, hw, hp] using h.list, fun t hmem hbelt => ?_⟩
  obtain ⟨u, hu, hkind, htarget⟩ := ht t hmem
  rw [hkind, htarget]
  simpa only [Work.point, hp] using h.target u hu (hkind ▸ hbelt)

theorem setTrial_of_mem (h : w.Lawful) {t u : Trial} (ht : t ∈ w.plan) (hkind : u.kind = t.kind := by rfl)
    (htarget : u.target = t.target := by rfl) : (w.setTrial u).Lawful := by
  refine h.replan rfl rfl rfl rfl fun x hx => ?_
  obtain ⟨y, hy, rfl⟩ := List.mem_map.mp hx
  split
  · exact ⟨t, ht, hkind, htarget⟩
  · exact ⟨y, hy, rfl, rfl⟩

theorem setTrial (h : w.Lawful) {id : Nat} {t u : Trial} (ht : w.trial id = some t) (hkind : u.kind = t.kind := by rfl)
    (htarget : u.target = t.target := by rfl) : (w.setTrial u).Lawful :=
  h.setTrial_of_mem (Work.trial_mem ht) hkind htarget

theorem dropTrials (h : w.Lawful) (p : Trial → Bool) : Work.Lawful { w with plan := w.plan.filter p } :=
  h.replan (v := { w with plan := w.plan.filter p }) rfl rfl rfl rfl fun t ht =>
    ⟨t, List.mem_of_mem_filter ht, rfl, rfl⟩

/-- The target of a trial of the plan (R113). -/
theorem chute_target (h : w.Lawful) {t : Trial} (ht : t ∈ w.plan) (hkind : t.kind = .chute) :
    ∃ p, w.point t.target = some p ∧ p.kind = .chute ∧ p.custody = .console := by
  obtain ⟨p, hp, hcustody, hpoint⟩ := h.target t ht (by simp [hkind])
  exact ⟨p, hp, by rw [hpoint, hkind]; rfl, hcustody⟩

/-! ### The fire list -/

/-- Entries that leave keep the laws of the others. -/
theorem fewerFires (h : w.Lawful) (hf : v.fires.Sublist w.fires) (hn : v.fireCount = w.fireCount)
    (hw : v.windows = w.windows) (hp : v.points = w.points) (ht : v.plan = w.plan) : v.Lawful := by
  obtain ⟨⟨hlen, hpairs, hentry, hchute, hwindows⟩, htarget⟩ := h
  refine ⟨⟨hf.length_le.trans hlen, hpairs.sublist hf, fun e he => hn ▸ hentry e (hf.subset he), fun e he c hc => ?_,
    by rwa [hw]⟩, by simpa only [Work.TargetLaw, Work.point, hp, ht] using htarget⟩
  simpa only [Work.point, hp] using hchute e (hf.subset he) c hc

/-- Entries replaced in their places keep the laws. -/
theorem mapFires (h : w.Lawful) {f : Entry → Entry} (hf : ∀ e ∈ w.fires, (f e).Replaces e) :
    Work.Lawful { w with fires := w.fires.map f } := by
  obtain ⟨⟨hlen, hpairs, hentry, hchute, hwindows⟩, htarget⟩ := h
  refine ⟨⟨by simpa using hlen, ?_, fun x hx => ?_, fun x hx c hc => ?_, hwindows⟩, htarget⟩
  · refine List.pairwise_map.mpr (hpairs.imp_of_mem fun {a b} ha hb hab => ?_)
    rw [(hf a ha).carrier, (hf b hb).carrier, (hf a ha).seq, (hf b hb).seq]
    exact hab
  · obtain ⟨e, he, rfl⟩ := List.mem_map.mp hx
    exact ⟨(hf e he).seq ▸ (hentry e he).1, (hf e he).misses, (hf e he).sent⟩
  · obtain ⟨e, he, rfl⟩ := List.mem_map.mp hx
    rw [(hf e he).owner]
    exact hchute e he c ((hf e he).chute ▸ hc)

/-- The entries of one joining number are one entry. -/
theorem eq_of_seq (h : w.Lawful) {e f : Entry} (he : e ∈ w.fires) (hf : f ∈ w.fires) (hseq : e.seq = f.seq) :
    e = f := by
  obtain ⟨-, hpairs, -⟩ := h.list
  exact List.inj_on_of_nodup_map (List.pairwise_map.mpr (hpairs.imp And.right)) he hf hseq

theorem setEntry (h : w.Lawful) {e f : Entry} (he : e ∈ w.fires) (hf : f.Replaces e) : (w.setEntry f).Lawful := by
  refine h.mapFires (f := fun x => if x.seq = f.seq then f else x) fun x hx => ?_
  split
  · next hseq => rwa [h.eq_of_seq hx he (hseq.trans hf.seq)]
  · exact h.replaces_self hx

theorem addEntry {l : Loop} {k : Nat} {chute : Option Nat} {origin : Origin} {owner : Link} {trial : Option Nat}
    {w' : Work} (h : w.Lawful)
    (hchute : ∀ c, chute = some c → ∃ p, w.point c = some p ∧ p.kind = .chute ∧ p.custody = owner)
    (hw : Machine.addEntry l k chute origin owner trial w = some w') : w'.Lawful := by
  unfold Machine.addEntry at hw
  split at hw
  · cases hw
  · split at hw
    · next g _ hroom =>
      simp only [Bool.and_eq_true, decide_eq_true_eq, Option.isNone_iff_eq_none] at hroom
      obtain ⟨hlen, hnone⟩ := hroom
      have hfree : ∀ e ∈ w.fires, e.carrier ≠ k := fun e he => by simpa using List.find?_eq_none.mp hnone e he
      obtain ⟨⟨-, hpairs, hentry, hchutes, hwindows⟩, htarget⟩ := h
      have hjoined : Work.Lawful { w with
          fires := w.fires ++ [newEntry l w g k chute origin owner trial], fireCount := w.fireCount + 1 } := by
        refine ⟨⟨by simpa using hlen, ?_, fun e he => ?_, fun e he => ?_, hwindows⟩, htarget⟩
        · refine List.pairwise_append.mpr ⟨hpairs, by simp, fun e he f hf => ?_⟩
          obtain rfl := List.mem_singleton.mp hf
          exact ⟨hfree e he, (hentry e he).1.ne⟩
        · obtain he | he := List.mem_append.mp he
          · exact ⟨(hentry e he).1.trans (Nat.lt_succ_self _), (hentry e he).2⟩
          · obtain rfl := List.mem_singleton.mp he
            exact ⟨Nat.lt_succ_self _, Nat.zero_le _, fun _ => rfl⟩
        · obtain he | he := List.mem_append.mp he
          · exact hchutes e he
          · obtain rfl := List.mem_singleton.mp he
            exact hchute
      cases hw
      cases chute with
      | none => exact hjoined
      | some c => exact hjoined.rest (by simp) (by simp) (by simp) (by simp) (by simp)
    · cases hw

theorem removeEntry (e : Entry) (h : w.Lawful) : (removeEntry e w).Lawful :=
  h.fewerFires (by simp [Machine.removeEntry]) (by simp [Machine.removeEntry])
    (by simp [Machine.removeEntry]) (by simp [Machine.removeEntry]) (by simp [Machine.removeEntry])

/-! ### The window table -/

theorem fewerWindows (h : w.Lawful) {ws : List Window} (hs : ws.Sublist w.windows) :
    Work.Lawful { w with windows := ws } := by
  obtain ⟨⟨hlen, hpairs, hentry, hchute, hspace, hwindows⟩, htarget⟩ := h
  exact ⟨⟨hlen, hpairs, hentry, hchute, hs.length_le.trans hspace, hwindows.sublist hs⟩, htarget⟩

theorem dropWindow (n : Nat) (h : w.Lawful) : (w.dropWindow n).Lawful := h.fewerWindows List.filter_sublist

theorem markCoasted (h : w.Lawful) : (markCoasted w).Lawful := by
  obtain ⟨⟨hlen, hpairs, hentry, hchute, hspace, hwindows⟩, htarget⟩ := h
  exact ⟨⟨hlen, hpairs, hentry, hchute, by simpa [Machine.markCoasted] using hspace, List.pairwise_map.mpr hwindows⟩,
    htarget⟩

/-- A window joins while the table has a slot and none for its pair (R102, R103). -/
theorem joinWindow (h : w.Lawful) (g : Geometry) {p : Point} {k : Nat} (purpose : Purpose) (id : Nat)
    (item : Option Nat) (hspace : w.windows.length < 512) (hpair : w.pairTaken p.tag k = false) :
    (joinWindow g p k purpose id item w).Lawful := by
  obtain ⟨⟨hlen, hpairs, hentry, hchute, -, hwindows⟩, htarget⟩ := h
  refine ⟨⟨hlen, hpairs, hentry, hchute, by simpa [Machine.joinWindow] using hspace,
    List.pairwise_append.mpr ⟨hwindows, by simp, fun x hx y hy => ?_⟩⟩, htarget⟩
  obtain rfl := List.mem_singleton.mp hy
  rintro ⟨hsensor, hcarrier⟩
  refine Bool.false_ne_true (hpair.symm.trans (List.any_eq_true.mpr ⟨x, hx, ?_⟩))
  simpa [formWindow] using And.intro hsensor hcarrier

/-! ### The register -/

/-- The records that entries and trials name keep their kind, and the custody in which they are named. -/
theorem reregister (h : w.Lawful) (hf : v.fires = w.fires) (hn : v.fireCount = w.fireCount)
    (hw : v.windows = w.windows) (ht : v.plan = w.plan)
    (hfire : ∀ e ∈ w.fires, ∀ c p, e.chute = some c → w.point c = some p → p.custody = e.owner →
      ∃ q, v.point c = some q ∧ q.kind = p.kind ∧ q.custody = p.custody)
    (htrial : ∀ t ∈ w.plan, t.kind ≠ .belt → ∀ p, w.point t.target = some p → p.custody = .console →
      ∃ q, v.point t.target = some q ∧ q.kind = p.kind ∧ q.custody = p.custody) : v.Lawful := by
  obtain ⟨⟨hlen, hpairs, hentry, hchute, hwindows⟩, htarget⟩ := h
  refine ⟨⟨by rwa [hf], by rwa [hf], by rwa [hf, hn], fun e he c hc => ?_, by rwa [hw]⟩, fun t hmem hbelt => ?_⟩
  · rw [hf] at he
    obtain ⟨p, hp, hkind, hcustody⟩ := hchute e he c hc
    obtain ⟨q, hq, hk, hcu⟩ := hfire e he c p hc hp hcustody
    exact ⟨q, hq, hk.trans hkind, hcu.trans hcustody⟩
  · rw [ht] at hmem
    obtain ⟨p, hp, hcustody, hkind⟩ := htarget t hmem hbelt
    obtain ⟨q, hq, hk, hcu⟩ := htrial t hmem hbelt p hp hcustody
    exact ⟨q, hq, hcu.trans hcustody, hk.trans hkind⟩

/-- A replaced record keeps its kind, and its custody unless no entry and no trial names it in that custody. -/
theorem setPoint (h : w.Lawful) {tag : Nat} {p q : Point} (hq : w.point tag = some q) (htag : p.tag = q.tag)
    (hkind : p.kind = q.kind)
    (hcustody : p.custody = q.custody ∨ (∀ e ∈ w.fires, e.chute = some tag → e.owner ≠ q.custody) ∧
      (q.custody = .console → ∀ t ∈ w.plan, t.kind ≠ .belt → t.target ≠ tag)) : (w.setPoint p).Lawful := by
  obtain rfl : p.tag = tag := htag.trans (Work.point_tag hq)
  have hread (c : Nat) (r : Point) (hr : w.point c = some r) (hkeep : c = p.tag → p.custody = q.custody) :
      ∃ x, (w.setPoint p).point c = some x ∧ x.kind = r.kind ∧ x.custody = r.custody := by
    rw [w.point_setPoint]
    split
    · next hc =>
      subst hc
      rw [hq, Option.some.injEq] at hr
      subst hr
      exact ⟨p, by simp [hq], hkind, hkeep rfl⟩
    · exact ⟨r, hr, rfl, rfl⟩
  refine h.reregister rfl rfl rfl rfl (fun e he c r hc hr how => hread c r hr fun hcp => ?_)
    fun t ht hbelt r hr how => hread _ r hr fun hcp => ?_
  · subst hcp
    rw [hq, Option.some.injEq] at hr
    subst hr
    exact hcustody.resolve_right fun hno => hno.1 e he hc how.symm
  · rw [hcp, hq, Option.some.injEq] at hr
    subst hr
    exact hcustody.resolve_right fun hno => hno.2 how t ht hbelt hcp

/-- A point that no LINE fire names passes to the console (R64, R68). -/
theorem passToConsole (h : w.Lawful) {tag : Nat} {p : Point} (hp : w.point tag = some p)
    (hfires : w.lineFires tag = 0) : (w.passToConsole p).Lawful := by
  refine h.setPoint hp rfl rfl ?_
  cases hc : p.custody with
  | console => exact .inl rfl
  | line =>
    refine .inr ⟨fun e he hchute howner => ?_, nofun⟩
    have hmem : e ∈ w.fires.filter fun e => e.owner == .line && e.chute == some tag :=
      List.mem_filter.mpr ⟨he, by simp [howner, hchute]⟩
    rw [List.eq_nil_of_length_eq_zero hfires] at hmem
    cases hmem

end Work.Lawful

end Sys2Proof.Machine
end

section
/-! ## The cascades keep the laws of the lists

Entries join through `addEntry` alone, for a carrier without one and naming a chute of the entry's owner; windows through
`joinWindow` alone, for a pair without one; a chute changes hands only as its last LINE fire leaves. -/

namespace Sys2Proof.Machine

namespace Work.Lawful

variable {w : Work}

theorem foldl {α : Type} {f : Work → α → Work} (hf : ∀ {w} x, w.Lawful → (f w x).Lawful) (xs : List α)
    (h : w.Lawful) : (xs.foldl f w).Lawful := by
  induction xs generalizing w with
  | nil => exact h
  | cons x xs ih => exact ih (hf x h)

/-! ### Updates outside the lists -/

theorem setRing (br : Branch) (r : Ring) (h : w.Lawful) : (w.setRing br r).Lawful :=
  h.rest (by simp) (by simp) (by simp) (by simp) (by simp)

theorem post (k : Link) (b : Block) (n : Notice) (h : w.Lawful) : (w.post k b n).Lawful := h.rest rfl rfl rfl rfl rfl

theorem postBoth (b : Block) (n : Notice) (h : w.Lawful) : (w.postBoth b n).Lawful := h.rest rfl rfl rfl rfl rfl

theorem setLoad (k : Nat) (x : LoadState) (h : w.Lawful) : (w.setLoad k x).Lawful := h.rest rfl rfl rfl rfl rfl

theorem setCarrier (k : Nat) (c : Carrier) (h : w.Lawful) : (w.setCarrier k c).Lawful := h.rest rfl rfl rfl rfl rfl

theorem setRow (tag : Nat) (x : RowState) (h : w.Lawful) : (w.setRow tag x).Lawful := h.rest rfl rfl rfl rfl rfl

theorem withdraw (keep : Job → Bool) (h : w.Lawful) : (w.withdraw keep).Lawful := h.rest rfl rfl rfl rfl rfl

theorem stopPolls (t : Trial) (h : w.Lawful) : (stopPolls t w).Lawful := h.rest rfl rfl rfl rfl rfl

/-! ### Discharges and windows -/

/-- The chute of the last LINE fire passes to the console (R68). -/
theorem drainAsk (e : Entry) (h : w.Lawful) : (drainAsk e w).Lawful := by
  unfold Machine.drainAsk
  split
  · split
    · next hp =>
      split
      · next hdrained =>
        simp only [Bool.and_eq_true, beq_iff_eq] at hdrained
        obtain ⟨-, hnone⟩ := hdrained
        exact (h.passToConsole hp hnone).rest rfl rfl rfl rfl rfl
      · exact h
    · exact h
  · exact h

theorem endDischarge (l : Loop) (o : DischargeOutcome) (e : Entry) (h : w.Lawful) :
    (endDischarge l o e w).Lawful :=
  ((h.removeEntry e).post ..).drainAsk e

/-- The slot of an item was free at the grant of its fire (R103). -/
theorem armEntry {l : Loop} {chute k : Nat} (id index : Nat) (h : w.Lawful) (hslot : slotFree l w chute k = true) :
    (armEntry l chute k id index w).Lawful := by
  unfold Machine.armEntry
  unfold slotFree at hslot
  split
  · next hsensor =>
    simp only [hsensor, Bool.and_eq_true, decide_eq_true_eq, Bool.not_eq_true'] at hslot
    obtain ⟨⟨hspace, hpair⟩, -⟩ := hslot
    split
    · next hp => exact h.joinWindow _ _ _ _ hspace (Work.point_tag hp ▸ hpair)
    · exact h
  · exact h

/-! ### Trials -/

theorem armSensor (l : Loop) (id : Nat) (start : Option Nat) (h : w.Lawful) : (armSensor l id start w).Lawful := by
  unfold Machine.armSensor
  split
  · exact h
  · next ht =>
    split
    · exact h
    · dsimp only
      split
      · next ha =>
        obtain ⟨g, hspace, hpair, rfl⟩ := attempt_armed ha
        exact (h.joinWindow _ _ _ _ hspace hpair).setTrial ht
      · exact h.setTrial ht
      · exact h.setTrial ht


theorem claimOne (l : Loop) (k : Nat) (h : w.Lawful) : (claimOne l w k).Lawful := by
  unfold Machine.claimOne
  split
  · split
    · exact h
    · next t hclaims =>
      have ht := List.mem_of_find?_eq_some hclaims
      obtain ⟨⟨hkind, -⟩, -⟩ := by simpa [Trial.claims] using List.find?_some hclaims
      split
      · exact h
      · next ha =>
        refine (h.addEntry (fun c hc => ?_) ha).setTrial_of_mem (t := t) (addEntry_plan ha ▸ ht)
        exact Option.some.inj hc ▸ h.chute_target ht hkind
  · exact h

theorem claimPass (l : Loop) (h : w.Lawful) : (claimPass l w).Lawful := h.foldl (fun k h => h.claimOne l k) _

theorem jogAdd (l : Loop) (id : Nat) (h : w.Lawful) : (jogAdd l id w).Lawful := by
  unfold Machine.jogAdd
  split
  · exact h
  · next ht =>
    split
    · exact h.setTrial ht
    · next ha =>
      exact (h.addEntry (by simp) ha).setTrial_of_mem (addEntry_plan ha ▸ Work.trial_mem ht)

theorem beginWork (l : Loop) (t : Trial) (h : w.Lawful) : (beginWork l t w).Lawful := by
  unfold Machine.beginWork
  cases t.kind with
  | sensor =>
    dsimp only
    split
    · exact h.armSensor ..
    · exact h
  | chute => exact h.claimPass l
  | zoneDrive => exact h.rest rfl rfl rfl rfl rfl
  | belt =>
    dsimp only
    split
    · exact h
    · exact h.jogAdd ..

theorem goActive (l : Loop) {id : Nat} {t : Trial} (ht : w.trial id = some t) (h : w.Lawful) :
    (goActive l t w).Lawful :=
  (h.setTrial ht).beginWork l t

theorem goHeld {id : Nat} {t : Trial} (ht : w.trial id = some t) (r : HoldReasons) (h : w.Lawful) :
    (goHeld t r w).Lawful :=
  (h.setTrial ht).stopPolls t

theorem reevaluateOne (l : Loop) (id : Nat) (h : w.Lawful) : (reevaluateOne l w id).Lawful := by
  unfold Machine.reevaluateOne
  split
  · exact h
  · next ht =>
    dsimp only
    repeat' split
    · exact h.goHeld ht _
    · exact h.armSensor ..
    · exact h
    · exact h
    · exact h.goActive l ht
    · exact h

theorem reevaluate (l : Loop) (h : w.Lawful) : (reevaluate l w).Lawful :=
  h.foldl (fun id h => h.reevaluateOne l id) _

theorem retryOne (l : Loop) (p : Trial → Bool) (id : Nat) (h : w.Lawful) : (retryOne l p w id).Lawful := by
  unfold Machine.retryOne
  split
  · exact h
  · split
    · exact h.armSensor ..
    · exact h

theorem retry (l : Loop) (p : Trial → Bool) (h : w.Lawful) : (retry l p w).Lawful :=
  h.foldl (fun id h => h.retryOne l p id) _

theorem announceSpace (l : Loop) (before : Nat) (x : Window) (h : w.Lawful) :
    (announceSpace l before x w).Lawful := by
  have hfull : (if before = 512 then Machine.retry l (fun _ => true) w else w).Lawful := by
    split
    · exact h.retry ..
    · exact h
  unfold Machine.announceSpace
  cases x.purpose with
  | chuteEntry => exact hfull.retry ..
  | sensorPass => exact hfull

theorem removeWindow (l : Loop) (x : Window) (h : w.Lawful) : (removeWindow l x w).Lawful :=
  (h.dropWindow _).announceSpace ..

theorem removeItemWindow (l : Loop) (id index : Nat) (h : w.Lawful) : (removeItemWindow l id index w).Lawful := by
  unfold Machine.removeItemWindow
  split
  · exact h.removeWindow ..
  · exact h

theorem activateOne (l : Loop) (id : Nat) (h : w.Lawful) : (activateOne l w id).Lawful := by
  unfold Machine.activateOne
  split
  · exact h
  · next ht =>
    dsimp only
    repeat' split
    · exact h.setTrial ht
    · exact h.goActive l ht
    · exact h

theorem activate (l : Loop) (h : w.Lawful) : (activate l w).Lawful := h.foldl (fun id h => h.activateOne l id) _

/-! ### The end of a trial -/

theorem orphanEffect (e : Entry) (r : ItemReply) (h : w.Lawful) : (orphanEffect e r w).Lawful := by
  obtain heq | ⟨x, heq⟩ := orphanEffect_cases e r w
  · rwa [heq]
  · exact heq ▸ h.setLoad ..

/-- The entry of a trial that leaves stays in its place, or leaves the list (R119, R120). -/
theorem endEntry (t : Trial) {e : Entry} (he : e ∈ w.fires) (h : w.Lawful) :
    (endEntry t w e).Lawful ∧ ∀ f ∈ w.fires, f.seq ≠ e.seq → f ∈ (endEntry t w e).fires := by
  have hremoved (u : Work) (hu : u.fires = w.fires) (f : Entry) (hf : f ∈ w.fires) (hne : f.seq ≠ e.seq) :
      f ∈ (Machine.removeEntry e u).fires := by
    simp [Machine.removeEntry, hu, hf, hne]
  unfold Machine.endEntry
  split
  · exact ⟨h.removeEntry e, hremoved w rfl⟩
  · split
    · refine ⟨(h.orphanEffect ..).removeEntry e, hremoved _ ?_⟩
      obtain heq | ⟨x, heq⟩ := orphanEffect_cases e _ w <;> rw [heq]
      rfl
    · have hself := h.replaces_self he
      refine ⟨h.setEntry he ⟨rfl, rfl, rfl, rfl, hself.misses, hself.sent⟩, fun f hf hne => ?_⟩
      exact List.mem_map.mpr ⟨f, hf, if_neg hne⟩

theorem endEntries (t : Trial) (es : List Entry) (h : w.Lawful) (hes : ∀ e ∈ es, e ∈ w.fires)
    (hseq : es.Pairwise fun e f => e.carrier ≠ f.carrier ∧ e.seq ≠ f.seq) : (es.foldl (Machine.endEntry t) w).Lawful := by
  induction es generalizing w with
  | nil => exact h
  | cons e es ih =>
    obtain ⟨hfirst, hrest⟩ := List.pairwise_cons.mp hseq
    obtain ⟨hlaw, hstay⟩ := h.endEntry t (hes e (by simp))
    exact ih hlaw (fun f hf => hstay f (hes f (by simp [hf])) (hfirst f hf).2.symm) hrest

theorem leavePlan (l : Loop) (t : Trial) (x : TrialResult) (why : Option FailReason) (h : w.Lawful) :
    (leavePlan l t x why w).Lawful := by
  have hwindows := h.foldl (f := fun w y => Machine.removeWindow l y w) (fun y h => h.removeWindow l y)
    (w.windows.filter fun y => y.trial == t.id)
  obtain ⟨-, hseq, -⟩ := hwindows.list
  have hentries := hwindows.endEntries t _ (fun e he => List.mem_of_mem_filter he)
    (hseq.filter fun e => e.trial == some t.id && !e.orphan)
  unfold Machine.leavePlan
  dsimp only
  split
  · exact claimPass l (activate l (post _ _ _ (stopPolls t (hentries.dropTrials _))))
  · exact activate l (post _ _ _ (stopPolls t (hentries.dropTrials _)))

theorem writeResult (l : Loop) (t : Trial) (x : TrialResult) (why : Option FailReason) (h : w.Lawful) :
    (writeResult l t x why w).Lawful := by
  unfold Machine.writeResult
  split
  · split
    · exact h
    · exact h.setCarrier ..
  · split
    · exact h
    · next hp => exact h.setPoint hp rfl rfl (.inl rfl)

theorem finish (l : Loop) (t : Trial) (x : TrialResult) (why : Option FailReason) (h : w.Lawful) :
    (finish l t x why w).Lawful :=
  (h.writeResult ..).leavePlan ..

theorem count (l : Loop) (id : Nat) (x : Evidence) (h : w.Lawful) : (count l id x w).Lawful := by
  unfold Machine.count
  split
  · exact h
  · next ht =>
    split
    · cases x with
      | hit d =>
        unfold countHit
        dsimp only
        split
        · exact (h.setTrial ht).finish ..
        · exact h.setTrial ht
      | fail =>
        unfold countFail
        dsimp only
        split
        · exact (h.setTrial ht).finish ..
        · exact h.setTrial ht
      | nothing => exact h
    · exact h

/-! ### Chute items and verdicts -/

theorem itemLeaves (l : Loop) (id index : Nat) (o : ItemOutcome) (h : w.Lawful) :
    (itemLeaves l id index o w).Lawful := by
  unfold Machine.itemLeaves
  split
  · split
    · exact h.claimPass l
    · exact h
  · next ht =>
    dsimp only
    split
    · exact (h.setTrial ht).claimPass l
    · exact h.setTrial ht

theorem itemEnds (l : Loop) (id index : Nat) (o : ItemOutcome) (d : Int) (h : w.Lawful) :
    (itemEnds l id index o d w).Lawful := by
  unfold Machine.itemEnds
  split
  · exact h
  · next ht => exact ((h.setTrial ht).count ..).itemLeaves ..

theorem decideItem (l : Loop) (id : Nat) (i : Item) (o : ItemOutcome) (x : LoadState) (d : Int) (h : w.Lawful) :
    (decideItem l id i o x d w).Lawful := by
  have hload : (applyLoad i.carrier x w).Lawful := by
    unfold applyLoad
    split
    · exact h.setLoad ..
    · exact h
  unfold Machine.decideItem
  dsimp only
  refine itemEnds l id i.index o d ?_
  split
  · exact hload.removeEntry _
  · exact hload

theorem tryDecide (l : Loop) (id : Nat) (i : Item) (h : w.Lawful) : (tryDecide l id i w).Lawful := by
  unfold Machine.tryDecide
  split
  · exact h.decideItem ..
  · exact h

theorem entryVerdict (l : Loop) (r : VerdictReport) (h : w.Lawful) : (entryVerdict l r w).Lawful := by
  unfold Machine.entryVerdict
  split
  · exact h
  · next ht =>
    split
    · exact h
    · dsimp only
      refine tryDecide _ _ _ ?_
      split
      · exact (h.setTrial ht).removeItemWindow ..
      · exact h.setTrial ht

theorem itemReply (l : Loop) {id : Nat} {t : Trial} (ht : w.trial id = some t) (i : Item) (r : ItemReply)
    (h : w.Lawful) : (itemReply l t i r w).Lawful := by
  have hset : (w.setTrial (t.setItem { i with reply := some r })).Lawful := h.setTrial ht
  unfold Machine.itemReply
  dsimp only
  split
  · exact (hset.removeItemWindow ..).decideItem ..
  · exact hset.tryDecide ..

theorem itemReturns (l : Loop) (id k : Nat) (h : w.Lawful) : (itemReturns l id k w).Lawful := by
  unfold Machine.itemReturns
  split
  · exact h
  · next ht =>
    split
    · exact h
    · exact (h.setTrial ht).removeItemWindow ..

theorem itemGone (l : Loop) (e : Entry) (o : ItemOutcome) (h : w.Lawful) : (itemGone l e o w).Lawful := by
  unfold Machine.itemGone
  split
  · exact h
  · split
    · exact h
    · exact (h.removeItemWindow ..).itemEnds ..

theorem windowGone (id : Nat) (h : w.Lawful) : (windowGone id w).Lawful := by
  unfold Machine.windowGone
  split
  · exact h
  · next ht => exact h.setTrial ht

theorem rearm (l : Loop) (id : Nat) (start : Option Nat) (h : w.Lawful) : (rearm l id start w).Lawful := by
  unfold Machine.rearm
  split
  · exact h
  · split
    · exact h.armSensor ..
    · exact h

theorem handVerdict (l : Loop) (r : VerdictReport) (h : w.Lawful) : (handVerdict l r w).Lawful := by
  unfold Machine.handVerdict
  cases r.purpose with
  | chuteEntry => exact h.entryVerdict ..
  | sensorPass =>
    unfold sensorVerdict
    cases r.verdict with
    | hit d => exact ((h.windowGone _).count ..).rearm ..
    | late d => exact ((h.windowGone _).count ..).rearm ..
    | miss => exact ((h.windowGone _).count ..).rearm ..
    | early d => exact h.count ..
    | cancelled => exact (h.windowGone _).rearm ..

theorem endWindow (l : Loop) (v : Verdict) (xc : Option Nat) (n : Nat) (h : w.Lawful) :
    (endWindow l v xc w n).Lawful := by
  unfold Machine.endWindow
  split
  · exact h
  · exact ((h.dropWindow n).handVerdict ..).announceSpace ..

theorem expireOne (l : Loop) (n : Nat) (h : w.Lawful) : (expireOne l w n).Lawful := by
  unfold Machine.expireOne
  split
  · exact h
  · exact h.endWindow ..

theorem cancelWindows (before l : Loop) (p : Window → Bool) (h : w.Lawful) : (cancelWindows before l p w).Lawful :=
  h.foldl (fun n h => h.endWindow l _ _ n) _

theorem judge (l : Loop) (g : Geometry) (sensor xc : Nat) (h : w.Lawful) : (judge l g sensor xc w).Lawful := by
  unfold Machine.judge
  repeat' split
  · exact h
  · exact h
  · exact h.handVerdict ..
  · exact h.endWindow ..

end Work.Lawful

end Sys2Proof.Machine
end

section
/-! ### What leaves the fire list -/

namespace Sys2Proof.Machine

@[simp] theorem armSensor_fires (l : Loop) (id : Nat) (start : Option Nat) (w : Work) :
    (armSensor l id start w).fires = w.fires := by
  unfold armSensor
  split
  · rfl
  · split
    · rfl
    · dsimp only
      split
      · next ha =>
        obtain ⟨g, -, -, rfl⟩ := attempt_armed ha
        rfl
      · rfl
      · rfl

@[simp] theorem retry_fires (l : Loop) (p : Trial → Bool) (w : Work) : (retry l p w).fires = w.fires := by
  unfold retry
  generalize w.plan.map Trial.id = ids
  induction ids generalizing w with
  | nil => rfl
  | cons id ids ih =>
    refine (ih _).trans ?_
    unfold retryOne
    repeat' split
    · rfl
    · exact armSensor_fires ..
    · rfl

@[simp] theorem announceSpace_fires (l : Loop) (before : Nat) (x : Window) (w : Work) :
    (announceSpace l before x w).fires = w.fires := by
  unfold announceSpace
  dsimp only
  repeat' split
  all_goals simp

@[simp] theorem removeItemWindow_fires (l : Loop) (id index : Nat) (w : Work) :
    (removeItemWindow l id index w).fires = w.fires := by
  unfold removeItemWindow removeWindow
  split <;> simp

theorem entryReturns_fires (l : Loop) (e : Entry) (w : Work) : (entryReturns l e w).fires = w.fires := by
  unfold entryReturns itemReturns
  repeat' split
  all_goals simp

end Sys2Proof.Machine
end

section
namespace Sys2Proof.Machine
namespace Work.Lawful

variable {w : Work}

/-! ### Fires and the arbiter -/

theorem jogMissed (l : Loop) (e : Entry) (h : w.Lawful) : (jogMissed l e w).Lawful := by
  unfold Machine.jogMissed
  split
  · exact h
  · split
    · exact h
    · next ht => exact (h.setTrial ht).jogAdd ..

theorem missEntry (l : Loop) {e : Entry} (he : e ∈ w.fires) (h : w.Lawful) : (missEntry l e w).Lawful := by
  unfold Machine.missEntry
  dsimp only
  split
  · next hmisses => exact h.setEntry he ⟨rfl, rfl, rfl, rfl, by simpa using Nat.le_of_lt_succ hmisses, nofun⟩
  · cases e.origin with
    | lineDischarge => exact h.endDischarge ..
    | consoleDischarge => exact h.endDischarge ..
    | chuteItem => exact (h.removeEntry _).itemGone ..
    | beltJog => exact (h.removeEntry _).jogMissed ..

/-- A grant that is not declined finds the slot of an item free (R89, R90, R103). -/
theorem fireSent (l : Loop) {e : Entry} (h : w.Lawful)
    (hslot : ∀ c, e.origin = .chuteItem → e.chute = some c → slotFree l w c e.carrier = true) :
    (fireSent l e w).Lawful := by
  unfold Machine.fireSent
  split
  · exact h
  · next t ht =>
    obtain ⟨id, -, ht⟩ := Option.bind_eq_some_iff.mp ht
    split
    · next ho =>
      split
      · next i c _ hc => exact (h.setTrial ht : (w.setTrial (t.setItem _)).Lawful).armEntry _ _ (hslot c ho hc)
      · exact h
    · exact h.setTrial ht
    · exact h

theorem grantFire (l : Loop) (seq : Nat) (h : w.Lawful) : (grantFire l seq w).1.Lawful := by
  unfold Machine.grantFire
  split
  · exact h
  · next e hat =>
    have he := Work.entryAt_mem hat
    have hself := h.replaces_self he
    repeat' split
    · exact h
    · exact h.setEntry he ⟨rfl, rfl, rfl, rfl, hself.misses, fun _ => rfl⟩
    · next hskips _ =>
      have hsent : (w.setEntry { e with state := .sent, requested := false }).Lawful :=
        h.setEntry he ⟨rfl, rfl, rfl, rfl, hself.misses, fun _ => rfl⟩
      refine hsent.fireSent l fun c ho hc => ?_
      simp only [skips, ho, hc, Bool.or_eq_true, not_or, Bool.not_eq_true', Bool.not_eq_false] at hskips
      obtain ⟨-, -, hslot⟩ := hskips
      exact hslot
    · exact h.missEntry l he

theorem sendFrame (l : Loop) (br : Branch) (q : Req) (k : FrameKind) (f : Nat → DownFrame) (h : w.Lawful) :
    (sendFrame l br q k f w).Lawful := by
  unfold Machine.sendFrame
  split
  · exact h
  · exact h.setRing ..

theorem querySent (id order : Nat) (h : w.Lawful) : (querySent id order w).Lawful := by
  unfold Machine.querySent
  repeat' split
  · exact h
  · next ht _ => exact h.setTrial ht
  · exact h

theorem offer (l : Loop) (br : Branch) (q : Req) (h : w.Lawful) : (offer l br q w).1.Lawful := by
  unfold Machine.offer
  split
  · next seq _ =>
    have hfire := h.grantFire l seq
    split
    · next hg => rwa [hg] at hfire
    · next hg => rw [hg] at hfire; exact hfire.sendFrame ..
  · exact h.sendFrame ..
  · exact (h.querySent ..).sendFrame ..
  · exact h.sendFrame ..

theorem of_offer {l : Loop} {br : Branch} {q : Req} {w' : Work} {used : Bool} (ho : Machine.offer l br q w = (w', used))
    (h : w.Lawful) : w'.Lawful := by
  have hoffer := h.offer l br q
  rwa [ho] at hoffer

theorem arbitrate (l : Loop) (br : Branch) (fuel : Nat) (h : w.Lawful) :
    (arbitrate l br fuel w).Lawful := by
  induction fuel generalizing w with
  | zero => exact h
  | succ fuel ih =>
    unfold Machine.arbitrate
    dsimp only
    split
    · exact h
    · split
      · exact h
      · split
        · exact h.setRing ..
        · split
          · exact h
          · next q _ =>
            split
            · next ho => exact of_offer ho (h.setRing ..)
            · next ho => exact ih (of_offer ho (h.setRing ..))

theorem arbitration (l : Loop) (br : Branch) (h : w.Lawful) : (arbitration l br w).Lawful :=
  h.arbitrate ..

theorem of_put {l : Loop} {br : Branch} {q : Req} {w' : Work} {x : Option Resolution}
    (hp : put l br q w = (w', x)) (h : w.Lawful) : w'.Lawful := by
  unfold put at hp
  repeat' split at hp
  all_goals cases hp
  · exact h
  · exact h
  · exact (h.setRing ..).arbitration ..

/-! ### The ends of requests -/

theorem dischargeResult (l : Loop) (e : Entry) (r : ItemReply) (h : w.Lawful) :
    (dischargeResult l e r w).Lawful := by
  have hload (x : LoadState) : (settleLoad e.carrier x w).Lawful := by
    unfold settleLoad
    repeat' split
    · exact h
    · exact h
    · exact h.setLoad ..
  cases r <;> exact (hload _).endDischarge ..

theorem jogCounted (l : Loop) (id : Nat) (f : BeltCounts → BeltCounts) (x : Evidence) (h : w.Lawful) :
    (jogCounted l id f x w).Lawful := by
  have hnote : (noteJog id f w).Lawful := by
    unfold noteJog
    repeat' split
    · exact h
    · next ht _ => exact h.setTrial ht
    · exact h
  exact (hnote.count ..).jogAdd ..

theorem jogDone (l : Loop) (id value : Nat) (h : w.Lawful) : (jogDone l id value w).Lawful := by
  have hkeep : (keepAchieved id value w).Lawful := by
    unfold keepAchieved
    split
    · exact h
    · next ht => exact h.setTrial ht
  unfold Machine.jogDone
  split
  · exact h
  · dsimp only
    split <;> exact hkeep.jogCounted ..

theorem jogResult (l : Loop) (e : Entry) (id : Nat) (r : ItemReply) (value : Nat) (h : w.Lawful) :
    (jogResult l e id r value w).Lawful := by
  have hgone := h.removeEntry e
  unfold Machine.jogResult
  cases r with
  | doneGone => exact hgone.jogDone ..
  | doneKept => exact hgone.jogDone ..
  | fault =>
    refine jogCounted _ _ _ _ ?_
    split
    · exact hgone.setLoad ..
    · exact hgone
  | timeout => exact hgone.jogCounted ..
  | ringRestart => exact hgone.jogCounted ..

theorem entryResult (l : Loop) (e : Entry) (r : ItemReply) (value : Nat) (h : w.Lawful) :
    (entryResult l e r value w).Lawful := by
  have horphan := (h.orphanEffect e r).removeEntry e
  unfold Machine.entryResult
  split
  · exact horphan
  · cases e.origin with
    | lineDischarge => exact h.dischargeResult ..
    | consoleDischarge => exact h.dischargeResult ..
    | chuteItem =>
      dsimp only
      repeat' split
      · exact horphan
      · exact horphan
      · next ht _ _ _ =>
        obtain ⟨id, -, ht⟩ := Option.bind_eq_some_iff.mp ht
        exact h.itemReply l ht ..
    | beltJog => exact h.jogResult ..

theorem doubleLoadEnd (l : Loop) (e : Entry) (h : w.Lawful) : (doubleLoadEnd l e w).Lawful := by
  unfold Machine.doubleLoadEnd
  cases e.origin with
  | lineDischarge => exact h.endDischarge ..
  | consoleDischarge => exact h.endDischarge ..
  | chuteItem => exact (h.removeEntry e).itemGone ..
  | beltJog => exact h

theorem entryReturns (l : Loop) (e : Entry) (h : w.Lawful) : (entryReturns l e w).Lawful := by
  unfold Machine.entryReturns
  split
  · exact h.itemReturns ..
  · exact h

theorem entryRefused (l : Loop) {e : Entry} (he : e ∈ w.fires) (h : w.Lawful) : (entryRefused l e w).Lawful := by
  unfold Machine.entryRefused
  repeat' split
  · exact h.removeEntry e
  · exact h.doubleLoadEnd ..
  · exact (h.entryReturns ..).missEntry l (by rwa [entryReturns_fires])

theorem entryBusy (l : Loop) {e : Entry} (he : e ∈ w.fires) (h : w.Lawful) : (entryBusy l e w).Lawful := by
  unfold Machine.entryBusy
  repeat' split
  · exact h.removeEntry e
  · exact h.doubleLoadEnd ..
  · exact entryReturns _ _ (h.setEntry he ⟨rfl, rfl, rfl, rfl, (h.replaces_self he).misses, nofun⟩)

theorem resolveFire (l : Loop) (seq : Nat) (x : Resolution) (h : w.Lawful) :
    (resolveFire l seq x w).Lawful := by
  unfold Machine.resolveFire
  split
  · exact h
  · next hat =>
    have he := Work.entryAt_mem hat
    cases x with
    | done value gone => exact h.entryResult ..
    | fault value => exact h.entryResult ..
    | timeout => exact h.entryResult ..
    | ringRestart => exact h.entryResult ..
    | refused value => exact h.entryRefused l he
    | busy => exact h.entryRefused l he
    | branchDown => exact h.missEntry l he
    | nodeSilent => exact h.missEntry l he

theorem commandRow (l : Loop) (tag : Nat) (h : w.Lawful) : (commandRow l w tag).Lawful := by
  unfold Machine.commandRow
  split
  · split
    · split
      · exact h.setRow ..
      · split
        · exact h.setRow ..
        · split
          · next hp => exact of_put hp (h.setRow ..)
          · next hp => exact setRow _ _ (of_put hp (h.setRow ..))
    · exact h
  · exact h

theorem commandRows (l : Loop) (tags : List Nat) (h : w.Lawful) : (commandRows l tags w).Lawful :=
  h.foldl (fun tag h => h.commandRow l tag) _

theorem resolveSpeed (l : Loop) (tag : Nat) (acked : Bool) (h : w.Lawful) :
    (resolveSpeed l tag acked w).Lawful := by
  unfold Machine.resolveSpeed
  split
  · split
    · split
      · exact h.setRow ..
      · exact (h.setRow ..).commandRow ..
    · exact h
  · exact h

theorem speedBusy (l : Loop) (tag : Nat) (h : w.Lawful) : (speedBusy l tag w).Lawful := by
  unfold Machine.speedBusy
  split
  · exact (h.setRow ..).withdraw _
  · exact h

theorem resolveQuery (l : Loop) (id order : Nat) (x : Resolution) (h : w.Lawful) :
    (resolveQuery l id order x w).Lawful := by
  unfold Machine.resolveQuery
  split
  · exact h
  · next t hquery =>
    have ht : t ∈ w.plan := by
      unfold Work.queryTrial at hquery
      repeat' split at hquery
      all_goals cases hquery
      next ht _ => exact Work.trial_mem ht
    repeat' split
    · unfold querySample
      dsimp only
      split <;> exact (h.setTrial_of_mem ht).count ..
    · exact (h.setTrial_of_mem ht).count ..
    · exact h

theorem queryBusy (id order : Nat) (h : w.Lawful) : (queryBusy id order w).Lawful := by
  unfold Machine.queryBusy
  repeat' split
  · exact h.withdraw _
  · exact h
  · exact h.withdraw _

theorem resolve (l : Loop) (j : Job) (x : Resolution) (h : w.Lawful) : (resolve l j x w).Lawful := by
  cases j with
  | fire seq => exact h.resolveFire ..
  | setSpeed tag value => exact h.resolveSpeed ..
  | speedQuery id order => exact h.resolveQuery ..
  | relay link rtag tag item route => exact h.post ..

theorem returned (l : Loop) (j : Job) (h : w.Lawful) : (returned l j w).Lawful := by
  cases j with
  | fire seq =>
    unfold Machine.returned
    dsimp only
    split
    · exact h.withdraw _
    · next hat => exact h.entryBusy l (Work.entryAt_mem hat)
  | setSpeed tag value => exact h.speedBusy ..
  | speedQuery id order => exact h.queryBusy ..
  | relay link rtag tag item route => exact h

theorem issue (l : Loop) (br : Branch) (q : Req) (h : w.Lawful) : (issue l br q w).Lawful := by
  unfold Machine.issue
  split
  · next hp => exact h.of_put hp
  · next hp => exact (h.of_put hp).resolve ..

theorem foundDue (l : Loop) (pass : Int) (seq : Nat) (h : w.Lawful) : (foundDue l pass seq w).Lawful := by
  unfold Machine.foundDue
  split
  · exact h
  · next e hat =>
    have he := Work.entryAt_mem hat
    have hself := h.replaces_self he
    split
    · exact h
    · next hdue =>
      obtain ⟨⟨hwaiting, -⟩, -⟩ : (e.state ≠ .sent ∧ e.requested = false) ∧ e.lastPassed ≠ some pass := by
        simpa using hdue
      have hpassed : (w.setEntry { e with lastPassed := some pass }).Lawful :=
        h.setEntry he ⟨rfl, rfl, rfl, rfl, hself.misses, hself.sent⟩
      have hmem : { e with lastPassed := some pass } ∈ (w.setEntry { e with lastPassed := some pass }).fires :=
        List.mem_map.mpr ⟨e, he, if_pos rfl⟩
      dsimp only
      split
      · exact hpassed
      · unfold requestFire
        split
        · exact hpassed
        · exact issue _ _ _ (hpassed.setEntry hmem
            ⟨rfl, rfl, rfl, rfl, hself.misses, fun hsent => absurd hsent hwaiting⟩)

/-! ### The branches -/

theorem failWaiting (l : Loop) (br : Branch) (x : Resolution) (p : Req → Bool) (h : w.Lawful) :
    (failWaiting l br x p w).Lawful :=
  (h.setRing br _).foldl (fun q h => h.resolve l q.job x) _

theorem enumerate (l : Loop) (br : Branch) (h : w.Lawful) : (enumerate l br w).Lawful :=
  (((h.setRing br _).foldl (fun y h => h.resolve l y.job _) _).failWaiting ..).setRing ..

theorem nodeNotices (br : Branch) (n : Nat) (was now : List NodeState) (h : w.Lawful) :
    (nodeNotices br n was now w).Lawful := by
  induction was generalizing n now w with
  | nil => exact h
  | cons a was ih =>
    cases now with
    | nil => exact h
    | cons b now =>
      refine ih _ _ ?_
      split
      · exact h.postBoth ..
      · exact h

theorem endAnnounce (l : Loop) (br : Branch) (h : w.Lawful) : (endAnnounce l br w).Lawful := by
  unfold Machine.endAnnounce
  dsimp only
  split
  · exact ((h.setRing ..).postBoth ..).nodeNotices ..
  · exact h

theorem signalReturned (l : Loop) (br : Branch) (h : w.Lawful) : (signalReturned l br w).Lawful := by
  unfold Machine.signalReturned
  split
  · exact h
  · exact ((h.setRing ..).enumerate ..).postBoth ..

theorem signalLost (l : Loop) (br : Branch) (h : w.Lawful) : (signalLost l br w).Lawful := by
  unfold Machine.signalLost
  dsimp only
  split
  · exact ((h.setRing ..).failWaiting ..).postBoth ..
  · exact h

theorem nodeHeard (br : Branch) (node : Nat) (h : w.Lawful) : (nodeHeard br node w).Lawful := by
  unfold Machine.nodeHeard
  repeat' split
  · exact h
  · exact (h.setRing ..).postBoth ..
  · exact h.setRing ..

theorem takeAnnounce (br : Branch) (f : AnnounceFields) (h : w.Lawful) :
    (takeAnnounce br f w).Lawful := by
  have hnode := (h.nodeHeard br f.node).setRing br
    (((Machine.nodeHeard br f.node w).ring br).setNode f.node (announcedNode f))
  unfold Machine.takeAnnounce
  dsimp only
  split
  · exact hnode.postBoth ..
  · exact hnode

theorem takeReply (l : Loop) (br : Branch) (f : ReplyFields) (h : w.Lawful) :
    (takeReply l br f w).Lawful := by
  have hheard := h.nodeHeard br f.node
  unfold Machine.takeReply
  dsimp only
  repeat' split
  · exact hheard.setRing ..
  · exact ((hheard.setRing ..).returned ..).arbitration ..
  · exact (hheard.setRing ..).resolve ..

theorem countTimeout (l : Loop) (br : Branch) (node : Nat) (h : w.Lawful) :
    (countTimeout l br node w).Lawful := by
  unfold Machine.countTimeout
  repeat' split
  · exact h
  · exact h.setRing ..
  · exact h.setRing ..
  · exact ((h.setRing ..).postBoth ..).failWaiting ..

theorem expireTxn (l : Loop) (br : Branch) (tag : Nat) (h : w.Lawful) : (expireTxn l br tag w).Lawful := by
  unfold Machine.expireTxn
  split
  · exact h
  · exact ((h.setRing ..).resolve ..).countTimeout ..

theorem frameEnd (l : Loop) (br : Branch) (h : w.Lawful) : (frameEnd l br w).Lawful := by
  unfold Machine.frameEnd
  dsimp only
  split
  · exact (h.setRing ..).arbitration ..
  · exact h

theorem sequenceEvent (l : Loop) (br : Branch) (f : EventFields) (h : w.Lawful) :
    (sequenceEvent l br f w).1.Lawful := by
  unfold Machine.sequenceEvent
  dsimp only
  repeat' split
  · exact h.setRing ..
  · exact h.setRing ..
  · exact h.setRing ..
  · exact h.setRing ..
  · exact ((h.setRing ..).setRing ..).arbitration ..
  · exact ((h.setRing ..).setRing ..).arbitration ..

/-! ### The event intake -/

theorem doubleLoadEntry (l : Loop) (k : Nat) (h : w.Lawful) : (doubleLoadEntry l k w).Lawful := by
  unfold Machine.doubleLoadEntry
  split
  · exact h
  · next e _ =>
    split
    · cases e.origin with
      | lineDischarge => exact h.endDischarge ..
      | consoleDischarge => exact h.endDischarge ..
      | chuteItem => exact (h.removeEntry e).itemGone ..
      | beltJog => exact h
    · exact h

theorem placeLoad (l : Loop) (p : Point) (k : Nat) (d : Int) (ref : BitVec 32) (h : w.Lawful) :
    (placeLoad l p k d ref w).Lawful := by
  unfold Machine.placeLoad
  split
  · exact h
  · split
    · dsimp only
      split
      · exact ((h.setLoad ..).post ..).claimPass l
      · exact (h.setLoad ..).post ..
    · exact ((h.setLoad ..).postBoth ..).doubleLoadEntry ..
    · exact h.postBoth ..

theorem dispatch (l : Loop) (p : Point) (m : Measure) (f : EventFields) (h : w.Lawful) :
    (dispatch l p m f w).Lawful := by
  unfold Machine.dispatch
  split
  · unfold sensorEvent
    repeat' split
    · exact h.judge ..
    · exact h
    · exact h
  · unfold inductEvent
    repeat' split
    · exact h
    · exact h.placeLoad ..
    · exact h.post ..
    · exact h.post ..
  · exact h

/-! ### The loop's events and the fences -/

theorem lockWork (before l : Loop) (h : w.Lawful) : (lockWork before l w).Lawful := by
  have hre := h.reevaluate l
  unfold Machine.lockWork
  dsimp only
  repeat' split
  · exact hre.cancelWindows ..
  · exact hre.markCoasted
  · exact hre

theorem present (l : Loop) (x : Nat) (a : Int) (d : Nat) (h : w.Lawful) : (present l x a d w).Lawful :=
  (h.foldl (fun n h => h.expireOne l n) _).foldl (fun e h => h.foundDue l _ e.seq) _

theorem recomputeFires (l : Loop) (h : w.Lawful) : (recomputeFires l w).Lawful :=
  foldl (fun e h => h.foundDue l _ e.seq) _ (foldl (fun _ h => h.withdraw _) _ (h.mapFires fun e he => by
    have hself := h.replaces_self he
    unfold recomputeEntry
    dsimp only
    repeat' split
    · exact hself
    · exact ⟨rfl, rfl, rfl, rfl, hself.misses, fun _ => rfl⟩
    · exact ⟨rfl, rfl, rfl, rfl, hself.misses, hself.sent⟩))

theorem jogsAgain (l : Loop) (h : w.Lawful) : (jogsAgain l w).Lawful := by
  refine h.foldl (fun {w} id h => ?_) _
  unfold jogAgain
  repeat' split
  · exact h
  · exact h.jogAdd ..
  · exact h

theorem fenceRow (tag : Nat) (h : w.Lawful) : (fenceRow w tag).Lawful := by
  unfold Machine.fenceRow
  split
  · exact h
  · split
    · exact h.setRow ..
    · split
      · exact (h.setRow ..).withdraw _
      · exact h
    · exact h

theorem fenceWork (l : Loop) (zone : Nat) (h : w.Lawful) : (fenceWork l zone w).Lawful :=
  ((h.reevaluate l).cancelWindows ..).foldl (fun tag h => h.fenceRow tag) _

theorem unfenceRow (tag : Nat) (h : w.Lawful) : (unfenceRow w tag).Lawful := by
  unfold Machine.unfenceRow
  split
  · exact h.rest rfl rfl rfl rfl rfl
  · split
    · split
      · exact (h.setRow ..).withdraw _
      · exact h.setRow ..
    · exact h.setRow ..
  · exact h

theorem unfenceDrives (l : Loop) (zone : Nat) (h : w.Lawful) : (unfenceDrives l zone w).Lawful := by
  unfold Machine.unfenceDrives
  dsimp only
  split
  · exact (h.foldl (fun tag h => h.unfenceRow tag) _).commandRows ..
  · exact commandRows l _ (h.rest rfl rfl rfl rfl rfl)

/-! ### Requests -/

theorem clearEntry (l : Loop) (k : Nat) (h : w.Lawful) : (clearEntry l k w).Lawful := by
  unfold Machine.clearEntry
  split
  · exact h
  · next e _ =>
    cases e.origin with
    | lineDischarge => exact h.endDischarge ..
    | consoleDischarge => exact h.endDischarge ..
    | chuteItem => exact ((h.setLoad ..).removeEntry e).itemGone ..
    | beltJog => exact h.removeEntry e

theorem enterTrial (k : TrialKind) (target : Nat) (h : w.Lawful) : (enterTrial k target w).Lawful := by
  unfold Machine.enterTrial
  split
  · split
    · exact h
    · exact h.setCarrier ..
  · split
    · exact h
    · next hp => exact h.setPoint hp rfl rfl (.inl rfl)

theorem expireTrial (l : Loop) (id : Nat) (h : w.Lawful) : (expireTrial l id w).Lawful := by
  unfold Machine.expireTrial
  repeat' split
  · exact h
  · exact h.finish ..
  · exact h

theorem poll (l : Loop) (id : Nat) (h : w.Lawful) : (poll l id w).Lawful := by
  unfold Machine.poll
  split
  · dsimp only
    repeat' split
    · exact h.rest rfl rfl rfl rfl rfl
    · exact h.rest rfl rfl rfl rfl rfl
    · exact issue l _ _ (h.rest rfl rfl rfl rfl rfl)
  · exact h

theorem distribute (l : Loop) (value : Nat) (h : w.Lawful) : (distribute l value w).Lawful := by
  unfold Machine.distribute
  split
  · split
    · exact h
    · unfold supersede
      exact commandRows l _ (foldl (fun _ h => h.withdraw _) _ (h.rest rfl rfl rfl rfl rfl))
  · exact commandRows l _ (h.rest rfl rfl rfl rfl rfl)

end Work.Lawful

end Sys2Proof.Machine
end

section
/-! ## Every command keeps the laws of the lists -/

namespace Sys2Proof.Machine

namespace Work.Lawful

variable {s : State}

/-! ### The events -/

theorem mapWork {f : Work → Work} (hf : ∀ {w : Work}, w.Lawful → (f w).Lawful) (h : s.work.Lawful) :
    (s.mapWork f).work.Lawful := hf h

theorem settle (h : s.work.Lawful) : s.settle.work.Lawful := by
  have hend : s.work.endDistribution.Lawful := by
    obtain ⟨heq, -⟩ | ⟨d, -, -, heq⟩ := s.work.endDistribution_cases
    · rwa [heq]
    · exact heq ▸ h.rest rfl rfl rfl rfl rfl
  exact hend.rest rfl rfl rfl rfl rfl

theorem lockChanged (before : Loop) (c : LockCause) (h : s.work.Lawful) :
    (lockChanged before c s).work.Lawful := by
  unfold Machine.lockChanged
  dsimp only
  refine lockWork _ _ ?_
  split
  · exact (h.postBoth ..).postBoth ..
  · exact h.postBoth ..

theorem loseLock (x : Lock) (c : LockCause) (h : s.work.Lawful) : (loseLock x c s).work.Lawful :=
  lockChanged _ _ (by exact h)

theorem checkHome (g : Geometry) (h : s.work.Lawful) : (checkHome g s).work.Lawful := by
  unfold Machine.checkHome
  dsimp only
  repeat' split
  · exact lockChanged _ _ (by exact h)
  · exact h
  · exact h.loseLock ..
  · exact h

theorem applyCount (g : Geometry) (delta : Int) (h : s.work.Lawful) : (applyCount g delta s).work.Lawful := by
  unfold Machine.applyCount moveBy
  dsimp only
  split
  · refine checkHome g ?_
    split
    · exact h
    · exact Work.Lawful.present _ _ _ _ (by exact h)
  · exact h

theorem encoderChange (a b : Bool) (h : s.work.Lawful) : (encoderChange a b s).work.Lawful := by
  unfold Machine.encoderChange
  dsimp only
  split
  · exact h
  · exact h
  · exact applyCount _ _ (by exact h)
  · exact applyCount _ _ (by exact h)
  · unfold illegalMove
    split
    · exact loseLock _ _ (by exact h)
    · exact loseLock _ _ (by exact h)
    · exact loseLock _ _ (by exact h)
    · exact h

theorem acceptedHome (g : Geometry) (h : s.work.Lawful) : (acceptedHome g s).work.Lawful := by
  have hsnap : (snapHome g s).work.Lawful := by
    unfold snapHome
    dsimp only
    repeat' split
    · exact h
    · exact Work.Lawful.present _ _ _ _ (by exact h)
    · exact h
  unfold Machine.acceptedHome
  dsimp only
  split
  · exact lockChanged _ _ (by exact hsnap)
  · exact hsnap

theorem rejectedHome (h : s.work.Lawful) : (rejectedHome s).work.Lawful := by
  unfold Machine.rejectedHome
  dsimp only
  split
  · exact h.loseLock ..
  · exact h

theorem homeSeen (h : s.work.Lawful) : (homeSeen s).work.Lawful := by
  unfold Machine.homeSeen
  dsimp only
  repeat' split
  · exact h
  · exact h
  · exact lockChanged _ _ (by exact h)
  · exact lockChanged _ _ (by exact h)
  · exact h
  · exact h.acceptedHome _
  · exact h.rejectedHome
  · exact h.acceptedHome _
  · exact h.rejectedHome

theorem reverseLoss (h : s.work.Lawful) : (reverseLoss s).work.Lawful := by
  unfold Machine.reverseLoss
  repeat' split
  all_goals first | exact h | exact h.loseLock ..

theorem steadyTest (h : s.work.Lawful) : (steadyTest s).work.Lawful := by
  unfold Machine.steadyTest
  dsimp only
  split
  · exact h
  · exact reevaluate _ (postBoth _ _ (by exact h))

theorem takeEvent (br : Branch) (f : EventFields) (h : s.work.Lawful) : (takeEvent br f s).work.Lawful := by
  have hseq := (h.nodeHeard br f.node).sequenceEvent s.loop br f
  have hoffer {t : State} (tag : Nat) (x : CaptureRecord) (ht : t.work.Lawful) :
      (offerCapture tag x t).work.Lawful := by
    unfold offerCapture
    split
    · exact ht
    · split
      · dsimp only
        split
        · exact ht
        · exact ht.post ..
      · exact ht
  unfold Machine.takeEvent intake
  dsimp only
  split
  · split
    · exact hseq.setRing ..
    · exact hoffer _ _ (hseq.dispatch ..)
  · exact hseq

theorem badFrame (br : Branch) (h : s.work.Lawful) : (s.mapWork (badFrame br)).work.Lawful := h.setRing ..

theorem uplinkArrives (br : Branch) (f : UplinkFrame) (h : s.work.Lawful) :
    (uplinkArrives br f s).work.Lawful := by
  cases f with
  | event e =>
    unfold Machine.uplinkArrives eventArrives
    dsimp only
    split
    · exact h.takeEvent ..
    · exact h.badFrame br
  | reply e =>
    unfold Machine.uplinkArrives replyArrives
    dsimp only
    split
    · exact h.takeReply ..
    · exact h.badFrame br
  | announce e =>
    unfold Machine.uplinkArrives announceArrives
    dsimp only
    split
    · exact h.takeAnnounce ..
    · exact h.badFrame br

theorem uplinkFrames (br : Branch) (fuel : Nat) (bs : List Byte) (h : s.work.Lawful) :
    (uplinkFrames br fuel bs s).work.Lawful := by
  induction fuel generalizing bs s with
  | zero => exact h.setRing ..
  | succ fuel ih =>
    unfold Machine.uplinkFrames
    split
    · exact h.setRing ..
    · exact ih _ h
    · dsimp only
      repeat' split
      · exact (h.badFrame br).setRing ..
      · exact ih _ (h.badFrame br)
      · exact ih _ (h.badFrame br)
    · exact ih _ (h.uplinkArrives ..).settle

theorem uplinkBytes (br : Branch) (bs : List Byte) (h : s.work.Lawful) : (uplinkBytes br bs s).work.Lawful := by
  unfold Machine.uplinkBytes
  dsimp only
  generalize (if (s.work.ring br).hunting = true then _ else _ : List Byte) = bs
  split
  · exact h
  · exact h.uplinkFrames ..

/-- A frame that is taken only while its branch hears. -/
theorem heard {t : State} (ht : t.work.Lawful) (h : s.work.Lawful) (b : Bool) :
    (if b then t.settle else s).work.Lawful := by
  cases b
  · exact h
  · exact ht.settle

theorem portReset (k : Link) (h : s.work.Lawful) : (portReset k s).work.Lawful := by
  have hposts : (s.work.post k .link (.started .port s.loop.fences)).Lawful := h.post ..
  cases k with
  | console => exact hposts
  | line =>
    refine foldl (fun {w} a h => ?_) _ hposts
    unfold askAgain
    repeat' split
    · exact h.post ..
    · exact h
    · exact h

theorem endWalk (h : s.work.Lawful) : (endWalk s).work.Lawful := by
  have hnotice {w : Work} (x : Walk) (k : Link) (hw : w.Lawful) : (digestNotice x k w).Lawful := by
    unfold digestNotice
    split
    · exact hw.post ..
    · exact hw
  unfold Machine.endWalk
  split
  · exact h
  · exact hnotice _ _ (hnotice _ _ h)

theorem fenceZone (zone : Nat) (h : s.work.Lawful) : (fenceZone zone s).work.Lawful := by
  unfold Machine.fenceZone
  split
  · exact h
  · exact fenceWork _ _ (h.postBoth ..)

theorem unfenceZone (zone : Nat) (h : s.work.Lawful) : (unfenceZone zone s).work.Lawful := by
  unfold Machine.unfenceZone
  split
  · exact unfenceDrives _ _ (reevaluate _ (h.postBoth ..))
  · exact h

theorem elapse (h : s.work.Lawful) : (elapse s).work.Lawful := by
  refine h.replan rfl rfl rfl rfl fun t ht => ?_
  obtain ⟨u, hu, rfl⟩ := List.mem_map.mp ht
  refine ⟨u, hu, ?_⟩
  unfold Trial.elapse
  split <;> exact ⟨rfl, rfl⟩

theorem sampleExpiry (h : s.work.Lawful) : (sampleExpiry s).work.Lawful := by
  have hsteady : (Machine.steadyTest (Machine.reverseLoss
      (s.setTracker s.loop.tracker.closeSample.sampleMotion))).work.Lawful :=
    steadyTest (reverseLoss (by exact h))
  exact elapse (by exact (hsteady.recomputeFires _).jogsAgain _)

theorem expireAsk (tag : Nat) {w : Work} (h : w.Lawful) : (expireAsk tag w).Lawful := by
  unfold Machine.expireAsk
  repeat' split
  · exact h
  · exact h.rest rfl rfl rfl rfl rfl
  · exact h

/-- With nothing in the lists, the plan and the register there is nothing for the laws to speak of. -/
theorem empty {w : Work} (hf : w.fires = []) (hw : w.windows = []) (ht : w.plan = []) : w.Lawful := by
  constructor
  · simp [Work.ListLaw, hf, hw]
  · simp [Work.TargetLaw, ht]

end Work.Lawful

/-! ### The requests -/

/-- A request whose handling keeps the laws of the lists. -/
def KeepsLists (handle : State → Reply) : Prop := ∀ s : State, s.work.Lawful → (handle s).state.work.Lawful

theorem serve_lawful {handle : State → Reply} (hk : KeepsLists handle) {k : Link} {rtag : Nat} {q : Request}
    {s : State} (h : s.work.Lawful) : (serve k rtag q handle s).work.Lawful := by
  have hhandle (p : Port) (f : Port → Port) :
      let r := handle (s.setPort k p)
      ((r.state.setPort k (f (r.state.port k))).settle).work.Lawful := by
    refine Work.Lawful.settle ?_
    rw [State.setPort_work]
    exact hk _ (by rwa [State.setPort_work])
  unfold serve
  split
  · split
    · exact hhandle _ fun p => p.fillAnswer _
    · exact h
  · split
    · dsimp only
      split
      · simpa using h
      · exact hhandle _ fun p => p.pushAnswer _
    · exact h

theorem KeepsLists.of_work {handle : State → Reply} (h : ∀ s : State, (handle s).state.work = s.work) :
    KeepsLists handle := fun s hs => by rwa [h s]

theorem KeepsLists.of_state {handle : State → Reply} (h : ∀ s : State, (handle s).state = s) : KeepsLists handle :=
  .of_work fun s => congrArg State.work (h s)

theorem loadGeometry_keepsLists (f : GeometryFields) : KeepsLists (loadGeometry f) := by
  intro s h
  unfold loadGeometry
  repeat' split
  · exact h
  · exact h
  · exact h
  · exact Work.Lawful.lockChanged _ _
      ((h.fewerWindows (List.nil_sublist _)).rest rfl rfl rfl rfl rfl)

theorem createPoint_keepsLists {tag : Nat} (k : PointKind) (c : PointConfig) {s : State} (h : s.work.Lawful)
    (hnew : s.work.point tag = none) : (createPoint tag k c s).state.work.Lawful := by
  unfold createPoint
  split
  · exact h
  · dsimp only
    split
    · exact h
    · have hread (n : Nat) (p : Point) (hp : s.work.point n = some p) :
          (insertPoint (newPoint tag k c (routeOf s.routes tag k)) s.work.points).find? (fun p => p.tag == n) =
            some p := by
        refine (find?_insertPoint ?_ _).trans hp
        rintro rfl
        cases hnew.symm.trans hp
      exact h.reregister rfl rfl rfl rfl (fun _ _ n p _ hp _ => ⟨p, hread n p hp, rfl, rfl⟩)
        fun _ _ _ p hp _ => ⟨p, hread _ p hp, rfl, rfl⟩

theorem writePoint_keepsLists (f : PointFields) : KeepsLists (writePoint f) := by
  intro s h
  unfold writePoint
  split
  · exact h
  · split
    · split
      · next hnew => exact createPoint_keepsLists _ _ h hnew
      · next hp =>
        unfold replacePoint
        repeat' split
        · exact h
        · exact h
        · exact h
        · exact h
        · exact h.setPoint hp rfl rfl (.inl rfl)
    · exact h

/-- A point that the register loses is named by no trial and by no entry (R41). -/
theorem deletePoint_keepsLists (tag : Nat) : KeepsLists (deletePoint tag) := by
  intro s h
  unfold deletePoint
  repeat' split
  · exact h
  · exact h
  · exact h
  · next p hp _ hbusy =>
    obtain rfl := Work.point_tag hp
    simp only [editBusy, Work.underTrial, Work.fireNames, Bool.or_eq_true, not_or, List.any_eq_true, not_exists] at hbusy
    obtain ⟨⟨⟨⟨⟨htrials, -⟩, hfires⟩, -⟩, -⟩, -⟩ := hbusy
    have hread (n : Nat) (q : Point) (hn : n ≠ p.tag) (hq : s.work.point n = some q) :
        (s.work.points.filter fun r => r.tag != p.tag).find? (fun r => r.tag == n) = some q := by
      refine Eq.trans ?_ hq
      simp only [List.find?_filter, Work.point]
      refine congrArg (List.find? · _) (funext fun r => ?_)
      by_cases hr : r.tag = n <;> simp [hr, hn]
    refine h.reregister rfl rfl rfl rfl (fun e he n q hc hq _ => ⟨q, hread n q ?_ hq, rfl, rfl⟩)
      fun t ht hbelt q hq _ => ⟨q, hread _ q ?_ hq, rfl, rfl⟩
    · rintro rfl
      exact hfires e ⟨he, by simp [hc]⟩
    · intro heq
      exact htrials t ⟨ht, by simp [hbelt, heq]⟩

theorem clearRegister_keepsLists : KeepsLists clearRegister := by
  intro s h
  unfold clearRegister
  split
  · exact h
  · next hbusy =>
    have hplan : s.work.plan = [] := by simp_all
    have hfires : s.work.fires = [] := by simp_all
    refine h.reregister rfl rfl rfl rfl (fun e he => ?_) fun t ht => ?_
    · rw [hfires] at he
      cases he
    · rw [hplan] at ht
      cases ht

theorem writeWindow_keepsLists (f : WindowFields) : KeepsLists (writeWindow f) := by
  intro s h
  unfold writeWindow
  split
  · exact h
  · next x _ =>
    dsimp only
    repeat' split
    · exact h
    · exact h
    · have hread (n : Nat) (p : Point) (hp : s.work.point n = some p) :
          (reroute (s.routes.set f.number x) s.work.points).find? (fun q => q.tag == n) =
            some { p with route := routeOf (s.routes.set f.number x) p.tag p.kind } := by
        simp only [Machine.reroute, List.find?_map]
        exact congrArg (Option.map _) hp
      exact h.reregister rfl rfl rfl rfl (fun _ _ n p _ hp _ => ⟨_, hread n p hp, rfl, rfl⟩)
        fun _ _ _ p hp _ => ⟨_, hread _ p hp, rfl, rfl⟩

/-- A trial on a point finds a record of its kind in CONSOLE custody (R113). -/
theorem trialRefusal_none {w : Work} {k : TrialKind} {target : Nat} (h : trialRefusal w k target = none)
    (hk : k ≠ .belt) : ∃ p, w.point target = some p ∧ p.custody = .console ∧ p.kind = k.pointKind := by
  unfold trialRefusal at h
  split at h
  · exact absurd rfl hk
  · split at h
    · cases h
    · next p hp =>
      repeat' split at h
      all_goals try cases h
      next hkind hline _ _ =>
      refine ⟨p, hp, ?_, by simpa using hkind⟩
      cases hc : p.custody <;> simp_all

theorem submitTrial_keepsLists (f : TrialFields) : KeepsLists (submitTrial f) := by
  intro s h
  unfold submitTrial
  repeat' split
  case isFalse =>
    next k _ _ _ hrefusal _ =>
    refine Work.Lawful.activate _ (Work.Lawful.enterTrial _ _ ⟨h.list, fun t ht hbelt => ?_⟩)
    obtain ht | ht := List.mem_append.mp ht
    · exact h.target t ht hbelt
    · obtain rfl := List.mem_singleton.mp ht
      exact (trialRefusal_none hrefusal hbelt :)
  all_goals exact h

theorem cancelTrial_keepsLists (id : Nat) : KeepsLists (cancelTrial id) := by
  intro s h
  unfold cancelTrial
  repeat' split
  · exact h
  · exact h
  · exact h.finish ..

theorem takePoint_keepsLists (tag : Nat) : KeepsLists (takePoint tag) := by
  intro s h
  unfold takePoint
  repeat' split
  · exact h
  · exact h
  · exact h
  · exact h
  · next hp _ _ _ hfires => exact h.passToConsole hp (by omega)
  · exact h
  · exact h.rest rfl rfl rfl rfl rfl

theorem giveBack_keepsLists (tag : Nat) : KeepsLists (giveBack tag) := by
  intro s h
  unfold giveBack
  repeat' split
  · exact h
  · exact h
  · exact h
  · next p hp hline hbusy =>
    simp only [Work.underTrial, Work.consoleFires, Bool.or_eq_true, not_or, List.any_eq_true, not_exists] at hbusy
    obtain ⟨htrials, hfires⟩ := hbusy
    have hconsole : p.custody = .console := by cases hc : p.custody <;> simp_all
    refine (h.setPoint (p := { p with custody := .line, service := .outOfService }) hp rfl rfl
      (.inr ⟨fun e he hchute howner => ?_, fun _ t ht hbelt heq => ?_⟩)).rest rfl rfl rfl rfl rfl
    · exact hfires e ⟨he, by simp [hchute, howner, hconsole]⟩
    · exact htrials t ⟨ht, by simp [hbelt, heq]⟩

theorem restartBranch_keepsLists (code : Nat) : KeepsLists (restartBranch code) := by
  intro s h
  unfold restartBranch
  repeat' split
  · exact h
  · exact h
  · exact (h.enumerate ..).postBoth ..

theorem setLoopSpeed_keepsLists (speed : Nat) : KeepsLists (setLoopSpeed speed) := by
  intro s h
  unfold setLoopSpeed
  split
  · exact h
  · exact h.distribute ..

theorem setService_keepsLists (tag service : Nat) : KeepsLists (setService tag service) := by
  intro s h
  unfold setService
  split
  · exact h
  · split
    · exact h
    · next hp =>
      repeat' split
      · exact h
      · exact h
      · exact h
      · exact h.setPoint hp rfl rfl (.inl rfl)

theorem answerAsk_keepsLists (tag answer : Nat) : KeepsLists (answerAsk tag answer) := by
  intro s h
  unfold answerAsk
  split
  · exact h
  · split
    · exact h
    · split
      · exact h
      · split
        · exact h.rest rfl rfl rfl rfl rfl
        · split
          · exact h
          · next p hp =>
            obtain rfl := Work.point_tag hp
            unfold releasePoint
            dsimp only
            split
            · next hfires => exact (h.passToConsole hp hfires).rest rfl rfl rfl rfl rfl
            · exact (h.setPoint (p := { p with service := .outOfService }) hp rfl rfl (.inl rfl)).rest
                rfl rfl rfl rfl rfl

/-- A discharge names a chute in the custody of its owner (R85). -/
theorem discharge_keepsLists (k : Link) (n chute : Nat) : KeepsLists (discharge k n chute) := by
  intro s h
  unfold discharge
  dsimp only
  repeat' split
  case h_2 =>
    next p hp hkind _ _ hopen _ _ hadd =>
    refine h.addEntry (fun c hc => ?_) hadd
    obtain rfl := Option.some.inj hc
    refine ⟨p, hp, by simpa using hkind, ?_⟩
    cases k <;> simp_all [chuteOpen]
  all_goals exact h

theorem cancelDischarge_keepsLists (k : Link) (n : Nat) : KeepsLists (cancelDischarge k n) := by
  intro s h
  unfold cancelDischarge
  repeat' split
  all_goals first | exact h | exact h.endDischarge ..

theorem clearCarrier_keepsLists (n : Nat) : KeepsLists (clearCarrier n) := by
  intro s h
  unfold clearCarrier
  repeat' split
  all_goals first | exact h | exact (h.clearEntry ..).setLoad ..

theorem nodeQuery_keepsLists (k : Link) (rtag tag item : Nat) : KeepsLists (nodeQuery k rtag tag item) := by
  intro s h
  unfold nodeQuery
  repeat' split
  all_goals first | exact h | exact h.issue ..

/-! ### Every command -/

theorem exec_lawful {c : Instr} {s t : State} (h : s.work.Lawful) (hx : exec c s = .next t) : t.work.Lawful := by
  cases c with
  | powerOn x => cases hx; rw [restart_eq]; exact .empty rfl rfl rfl
  | resetPin x => cases hx; rw [restart_eq]; exact .empty rfl rfl rfl
  | breakBegin k => cases hx; rwa [State.setPort_work]
  | portReset k => cases hx; exact (h.portReset k).settle
  | breakEnd k => cases hx; rwa [State.setPort_work]
  | requestFrame k bs => cases hx; rwa [State.setPort_work]
  | loadGeometry rtag g => cases hx; exact serve_lawful (loadGeometry_keepsLists g) h
  | writePoint rtag p => cases hx; exact serve_lawful (writePoint_keepsLists p) h
  | deletePoint rtag tag => cases hx; exact serve_lawful (deletePoint_keepsLists tag) h
  | clearRegister rtag => cases hx; exact serve_lawful clearRegister_keepsLists h
  | writeWindow rtag w => cases hx; exact serve_lawful (writeWindow_keepsLists w) h
  | submitTrial rtag f => cases hx; exact serve_lawful (submitTrial_keepsLists f) h
  | cancelTrial rtag id => cases hx; exact serve_lawful (cancelTrial_keepsLists id) h
  | take rtag tag => cases hx; exact serve_lawful (takePoint_keepsLists tag) h
  | giveBack rtag tag => cases hx; exact serve_lawful (giveBack_keepsLists tag) h
  | restartBranch rtag code => cases hx; exact serve_lawful (restartBranch_keepsLists code) h
  | setLoopSpeed rtag speed => cases hx; exact serve_lawful (setLoopSpeed_keepsLists speed) h
  | setService rtag tag x => cases hx; exact serve_lawful (setService_keepsLists tag x) h
  | answerAsk rtag tag x => cases hx; exact serve_lawful (answerAsk_keepsLists tag x) h
  | discharge k rtag n chute => cases hx; exact serve_lawful (discharge_keepsLists k n chute) h
  | cancelDischarge k rtag n => cases hx; exact serve_lawful (cancelDischarge_keepsLists k n) h
  | clearCarrier k rtag n => cases hx; exact serve_lawful (clearCarrier_keepsLists n) h
  | readPoint k rtag tag => cases hx; exact serve_lawful (.of_state (readPoint_state tag)) h
  | listPoints k rtag q => cases hx; exact serve_lawful (.of_state (listPoints_state q)) h
  | readWindow k rtag n => cases hx; exact serve_lawful (.of_state (readWindow_state n)) h
  | readCarrier k rtag n => cases hx; exact serve_lawful (.of_state (readCarrier_state n)) h
  | readTracker k rtag => cases hx; exact serve_lawful (.of_state fun _ => rfl) h
  | readTrial k rtag id => cases hx; exact serve_lawful (.of_state (readTrial_state id)) h
  | readBranch k rtag code => cases hx; exact serve_lawful (.of_state (readBranch_state code)) h
  | nodeQuery k rtag tag item => cases hx; exact serve_lawful (nodeQuery_keepsLists k rtag tag item) h
  | digest k rtag => cases hx; exact serve_lawful (.of_work (digestRequest_work k)) h
  | captureSet k rtag f => cases hx; exact serve_lawful (.of_work (captureSet_work k f)) h
  | captureStop k rtag n => cases hx; exact serve_lawful (.of_work (captureStop_work k n)) h
  | captureOff k rtag n => cases hx; exact serve_lawful (.of_work (captureOff_work n)) h
  | captureRead k rtag n m => cases hx; exact serve_lawful (.of_work (captureRead_work k n m)) h
  | fetchNotices k rtag m => cases hx; exact serve_lawful (.of_work (fetchNotices_work k m)) h
  | encoderEvent a b => cases hx; exact (h.encoderChange a b).settle
  | homeEvent => cases hx; exact h.homeSeen.settle
  | sampleTimerExpiry => cases hx; exact h.sampleExpiry.settle
  | zoneFenced z => cases hx; exact (h.fenceZone z).settle
  | zoneUnfenced z => cases hx; exact (h.unfenceZone z).settle
  | ringSignalLost br => cases hx; exact (Work.Lawful.mapWork (·.signalLost s.loop br) h).settle
  | ringSignalReturned br => cases hx; exact (Work.Lawful.mapWork (·.signalReturned s.loop br) h).settle
  | announcePeriodEnd br => cases hx; exact (Work.Lawful.mapWork (·.endAnnounce s.loop br) h).settle
  | uplinkBadFrame br bs => cases hx; exact ((h.uplinkBytes br bs).heard h _)
  | announceFrame br f => cases hx; exact ((h.uplinkArrives br (.announce f)).heard h _)
  | eventFrame br f => cases hx; exact ((h.uplinkArrives br (.event f)).heard h _)
  | replyFrame br f => cases hx; exact ((h.uplinkArrives br (.reply f)).heard h _)
  | downlinkFrameEnd br => cases hx; exact (Work.Lawful.mapWork (·.frameEnd s.loop br) h).settle
  | replyDeadlineExpiry br tag => cases hx; exact (Work.Lawful.mapWork (·.expireTxn s.loop br tag) h).settle
  | askTimerExpiry tag => cases hx; exact (Work.Lawful.mapWork (·.expireAsk tag) h).settle
  | digestWalkComplete => cases hx; exact h.endWalk.settle
  | trialTimeExpiry id => cases hx; exact (Work.Lawful.mapWork (·.expireTrial s.loop id) h).settle
  | pollTimerExpiry id => cases hx; exact (Work.Lawful.mapWork (·.poll s.loop id) h).settle
  | answerFrameSent k => cases hx; rwa [State.setPort_work]

end Sys2Proof.Machine

open Sys2Proof Sys2Proof.Machine

/-- Settles O16: entries and windows join by `addEntry` and `joinWindow` alone, whose tests are the laws; a chute passes
to the console without LINE fires, and comes back without CONSOLE fires and trials. -/
theorem listLawKept : Obligations.ListLawKept := by
  unfold Obligations.ListLawKept
  rintro s t ⟨hlist, htarget⟩ h
  have hs : s.work.Lawful := ⟨hlist, htarget⟩
  unfold step at h
  split at h
  · cases h
    exact ⟨hlist, htarget⟩
  · next rest _ =>
    have ht := exec_lawful (s := { s with pending := rest }) hs h
    exact ⟨ht.list, ht.target⟩
end

section
/-! ## CLEAR_CARRIER (R82) -/

namespace Sys2Proof.Machine

/-- The plan holds a belt trial on the carrier exactly when `beltTrial` says so (R82). -/
theorem Work.beltTrial_iff (w : Work) (k : Nat) :
    w.beltTrial k = true ↔ ∃ t ∈ w.plan, t.kind = .belt ∧ t.target = k := by
  simp [Work.beltTrial]

/-- Whatever load the leaving of an entry gives its carrier, a clear makes it EMPTY (R82). -/
theorem Work.without_setLoad (w : Work) (e : Entry) (f : LoadState → LoadState) (x : LoadState) :
    (w.without e f).setLoad e.carrier x = { w.without e id with carriers := (w.setLoad e.carrier x).carriers } := by
  refine congrArg (fun cs => { w.without e id with carriers := cs }) ?_
  exact List.modify_modify_eq ..

section
variable {s : State} {n : Nat} {g : Geometry} {c : Carrier} (hg : s.loop.tracker.geometry = some g)
  (hn : n < g.carriers) (hc : s.work.carriers[n]? = some c)
include hg hn hc

theorem clearCarrier_busy
    (hbusy : (∃ e, s.work.entryOf n = some e ∧ e.state = .sent) ∨ ∃ t ∈ s.work.plan, t.kind = .belt ∧ t.target = n) :
    clearCarrier n s = refuse s .busy := by
  have hgeo : s.loop.geometry = some g := hg
  have hcar : s.work.carrier n = some c := hc
  have htest : ((s.work.entryOf n).any (fun e => decide (e.state = .sent)) || s.work.beltTrial n) = true := by
    rw [Bool.or_eq_true, Work.beltTrial_iff]
    exact hbusy.imp_left fun ⟨e, he, hsent⟩ => by simp [he, hsent]
  simp only [clearCarrier, hgeo, hcar, carrierOk, hn, htest, decide_true, Bool.not_true]
  rfl

/-- Past its tests a clear removes the entry and empties the carrier. -/
theorem clearCarrier_clears (hsent : ∀ e, s.work.entryOf n = some e → e.state ≠ .sent)
    (hbelt : ¬∃ t ∈ s.work.plan, t.kind = .belt ∧ t.target = n) :
    clearCarrier n s = ok (s.mapWork fun w => (clearEntry s.loop n w).setLoad n .empty)
      (.u8 c.load.code :: optField (fun r => [.u8 r.code]) c.load.reason) := by
  have hgeo : s.loop.geometry = some g := hg
  have hcar : s.work.carrier n = some c := hc
  have htest : ((s.work.entryOf n).any (fun e => decide (e.state = .sent)) || s.work.beltTrial n) = false := by
    refine Bool.or_eq_false_iff.2 ⟨?_, Bool.eq_false_iff.2 (mt (Work.beltTrial_iff ..).1 hbelt)⟩
    cases he : s.work.entryOf n with
    | none => rfl
    | some e => simpa using hsent e he
  simp only [clearCarrier, hgeo, hcar, carrierOk, hn, htest, decide_true, Bool.not_true]
  rfl

end

/-- A waiting discharge of a carrier that is cleared ends CANCELLED (R82, R94). -/
theorem clearEntry_discharge (l : Loop) {k : Nat} {w : Work} {e : Entry} (he : w.entryOf k = some e)
    (ho : e.origin = .lineDischarge ∨ e.origin = .consoleDischarge) :
    clearEntry l k w = endDischarge l .cancelled e w := by
  unfold clearEntry
  rw [he]
  rcases ho with ho | ho <;> simp [ho]

end Sys2Proof.Machine

open Sys2Proof Sys2Proof.Machine

/-- Settles O44: the checks of R82 are tests in one order, and past them the entry leaves and the carrier is emptied. -/
theorem carrierIsCleared : Obligations.CarrierIsCleared := by
  unfold Obligations.CarrierIsCleared
  refine ⟨?_, ?_⟩
  · intro k s rtag n ht hr answers
    have refused {x : Status} (h : clearCarrier n s = refuse s x) : answers x :=
      congrArg Host.Outcome.next (serve_answers ht hr (.clearCarrier n) (clearCarrier n) h)
    refine ⟨fun hg => refused ?_, fun g hg hn => refused ?_⟩
    · have hgeo : s.loop.geometry = none := hg
      simp [clearCarrier, hgeo]
    · have hgeo : s.loop.geometry = some g := hg
      cases hc : s.work.carrier n <;> simp [clearCarrier, hgeo, hc, carrierOk, Nat.not_lt.2 hn]
  · intro k s rtag n g c ht hr hg hn hc belt
    refine ⟨fun hbusy => congrArg Host.Outcome.next (serve_answers ht hr (.clearCarrier n) (clearCarrier n)
      (clearCarrier_busy hg hn hc hbusy)), ?_⟩
    intro was cleared
    have hwas : .u8 c.load.code :: optField (fun r => [.u8 r.code]) c.load.reason = was := by
      simp only [was]
      cases c.load <;> rfl
    have hempty : s.work.setLoad n .empty = cleared := Work.setLoad_of_carrier hc .empty
    refine ⟨fun hbelt hnone => ?_, fun e d hbelt he hwaits hd ho hask => ?_⟩
    · have hfree : s.work.entryOf n = none := List.find?_eq_none.2 fun e hm => by simpa using hnone e hm
      have hclears := clearCarrier_clears hg hn hc (by simp [hfree]) hbelt
      have hwork : (clearEntry s.loop n s.work).setLoad n .empty = cleared := by
        rw [clearEntry, hfree]
        exact hempty
      refine congrArg Host.Outcome.next ((serve_takes ht hr (.clearCarrier n) (clearCarrier n)).trans ?_)
      rw [hclears, hwas, ok, State.mapWork, hwork]
      have hquiet : State.Quiet { s with work := cleared } := ht.1
      exact (hquiet.answered ..).settle
    · intro w
      have hcarrier := Work.entryOf_carrier he
      have hclears := clearCarrier_clears hg hn hc (by simp [he, hwaits]) hbelt
      have hwithout : (s.work.without e id).setLoad n .empty = w := by
        rw [← hcarrier, Work.without_setLoad, hcarrier, hempty]
        rfl
      have hwork : (clearEntry s.loop n s.work).setLoad n .empty =
          w.post e.owner .fires (.dischargeDone n d .cancelled e.ref e.misses s.loop.tracker.revolution) := by
        rw [clearEntry_discharge s.loop he ho, endDischarge_eq s.loop .cancelled hd hask, hcarrier, ← hwithout]
        rfl
      refine congrArg Host.Outcome.next (serve_notifies ht hr (.clearCarrier n) (clearCarrier n)
        (t := { s with work := w }) (block := .fires) (hclears.trans ?_) rfl rfl)
      rw [hwas, State.mapWork, hwork]
      rfl
end

section
/-! ## Requests that end at a branch (R145, R154, R157)

A branch that is enumerated or goes DOWN tells the requesters of what it held, and changes further before the event
ends. -/

namespace Sys2Proof.Machine

/-! ### What an event ends with -/

/-- The notices that the posts bring to a link. -/
def noticesTo (k : Link) (ps : List Post) : List Notice := (postsTo k ps).map Post.notice

theorem noticesTo_append (k : Link) (ps qs : List Post) :
    noticesTo k (ps ++ qs) = noticesTo k ps ++ noticesTo k qs := by
  simp [noticesTo, postsTo]

theorem noticesTo_one (j k : Link) (b : Block) (n : Notice) :
    noticesTo j [⟨k, b, n⟩] = if k = j then [n] else [] := by
  by_cases h : k = j <;> simp [noticesTo, postsTo, h]

theorem noticesTo_both (k : Link) (b : Block) (n : Notice) : noticesTo k (bothPosts [(b, n)]) = [n] :=
  notices_bothPosts k [(b, n)]

/-- The end of the event leaves the core `u` as `w` and brings the notices `n` to the links (R137, R170). -/
structure Work.Ends (u w : Work) (n : Link → List Notice) : Prop where
  outbox : w.outbox = []
  unfinished : ∀ d, w.dist = some d → d.over = false
  posts : ∃ ps, u.endDistribution = w.posting ps ∧ ∀ k, (noticesTo k ps).Perm (n k)

theorem Work.endDistribution_unfinished {w : Work} (h : ∀ d, w.dist = some d → d.over = false) :
    w.endDistribution = w := by
  rcases w.endDistribution_cases with ⟨h', -⟩ | ⟨d, hd, ho, -⟩
  · exact h'
  · simp [h d hd] at ho

/-- A distribution that is not over goes on, and what was posted is what the links hear. -/
theorem Work.Ends.of_posting {w : Work} (ho : w.outbox = []) (hd : ∀ d, w.dist = some d → d.over = false)
    (ps : List Post) {n : Link → List Notice} (hn : ∀ k, noticesTo k ps = n k) : (w.posting ps).Ends w n :=
  ⟨ho, hd, ps, Work.endDistribution_unfinished hd, fun k => .of_eq (hn k)⟩

/-- Nothing was posted, and no distribution is over. -/
theorem Work.Ends.of_quiet {w : Work} (ho : w.outbox = []) (hd : ∀ d, w.dist = some d → d.over = false) :
    w.Ends w fun _ => [] := by
  have h := Work.Ends.of_posting ho hd [] (n := fun _ => []) fun _ => rfl
  rwa [Work.posting_nil] at h

/-- A distribution that is over ends, and the line hears of it (R137). -/
theorem Work.Ends.of_over {w : Work} {d : Distribution} (ho : w.outbox = []) (hd : w.dist = some d)
    (hover : d.over = true) : w.Ends { w with dist := none } fun k =>
      if .line = k then [.speedSet d.value d.cause d.acked d.failed] else [] := by
  refine ⟨ho, by simp, [⟨.line, .drives, .speedSet d.value d.cause d.acked d.failed⟩], ?_,
    fun k => .of_eq (noticesTo_one ..)⟩
  simp only [Work.endDistribution, hd, hover, if_true]
  rfl

section
variable {u w : Work} {n : Link → List Notice} (h : u.Ends w n)
include h

theorem Work.Ends.congr {m : Link → List Notice} (hm : ∀ k, n k = m k) : u.Ends w m := by
  obtain rfl : n = m := funext hm
  exact h

/-- More posts bring their notices to the links. -/
theorem Work.Ends.posting (qs : List Post) : (u.posting qs).Ends w fun k => noticesTo k qs ++ n k := by
  obtain ⟨ho, hd, ps, hps, hn⟩ := h
  rcases u.endDistribution_cases with ⟨hu, hopen⟩ | ⟨d, hdist, hover, hu⟩
  · obtain rfl : u = w.posting ps := hu.symm.trans hps
    refine ⟨ho, hd, ps ++ qs, ?_, fun k => ?_⟩
    · rw [Work.posting_posting]
      exact Work.endDistribution_unfinished hd
    · rw [noticesTo_append]
      exact List.perm_append_comm.trans ((hn k).append_left _)
  · let done : Post := ⟨.line, .drives, .speedSet d.value d.cause d.acked d.failed⟩
    have hw : ({ u with dist := none } : Work).posting [done] = w.posting ps := hu.symm.trans hps
    have hout : ps = u.outbox ++ [done] := by
      have := congrArg Work.outbox hw
      simp only [Work.posting, ho, List.nil_append] at this
      exact this.symm
    refine ⟨ho, hd, u.outbox ++ qs ++ [done], ?_, fun k => ?_⟩
    · have hend : (u.posting qs).endDistribution = ({ u with dist := none } : Work).posting (qs ++ [done]) := by
        rw [← Work.posting_posting]
        simp only [Work.endDistribution, show (u.posting qs).dist = some d from hdist, hover, if_true]
        rfl
      have hfields := congrArg (fun x : Work => { x with outbox := u.outbox ++ (qs ++ [done]) }) hw
      rw [hend]
      simpa [Work.posting, ho] using hfields
    · refine .trans ?_ ((hn k).append_left _)
      rw [hout]
      simp only [noticesTo_append, List.append_assoc]
      exact List.perm_append_comm_assoc ..

/-- A branch may change before the end. -/
theorem Work.Ends.setRing (br : Branch) (y : Ring) : (u.setRing br y).Ends (w.setRing br y) n := by
  obtain ⟨ho, hd, ps, hps, hn⟩ := h
  refine ⟨by simpa using ho, by simpa using hd, ps, ?_, hn⟩
  rw [← Work.posting_setRing, ← hps]
  simp only [Work.endDistribution, Work.setRing_dist]
  cases u.dist with
  | none => rfl
  | some d => by_cases hover : d.over = true <;> simp only [hover, if_true] <;> cases br <;> rfl

theorem Work.Ends.ring (br : Branch) : u.ring br = w.ring br := by
  obtain ⟨-, -, ps, hps, -⟩ := h
  have hring : u.endDistribution.ring br = u.ring br := by
    rcases u.endDistribution_cases with ⟨hu, -⟩ | ⟨d, -, -, hu⟩ <;> rw [hu]
    cases br <;> rfl
  rw [← hring, hps, Work.posting_ring]

/-- The notices of the event join the queues. -/
theorem Work.Ends.settle (s : State) :
    State.Posted { s with work := w } ({ s with work := u } : State).settle (n .line) (n .console) := by
  obtain ⟨ho, hd, ps, hps, hn⟩ := h
  have hsettle : ({ s with work := u } : State).settle = ({ s with work := w.posting ps } : State).flush := by
    rw [State.settle, State.mapWork, hps]
  have hp := ({ s with work := w.posting ps } : State).flush_posted
  have hout : (w.posting ps).outbox = ps := by simp [Work.posting, ho]
  have hempty : ({ w.posting ps with outbox := [] } : Work) = w := by
    rw [Work.posting, ← ho]
  dsimp only at hp
  rw [hout, hempty] at hp
  rw [hsettle]
  exact hp.perm (hn .line) (hn .console)

end

/-! ### What passes a change of the branch -/

/-- `F` does no more to branch `br` than to withdraw waiting requests, and looks at nothing of it. -/
def Passes (br : Branch) (F : Work → Work) : Prop :=
  ∃ keep : Job → Bool, (∀ v, (F v).ring br = (v.ring br).withdraw keep) ∧
    ∀ v y, F (v.setRing br y) = (F v).setRing br (y.withdraw keep)

theorem Ring.withdraw_all (r : Ring) : r.withdraw (fun _ => true) = r := by
  simp [Ring.withdraw]

theorem Ring.withdraw_withdraw (r : Ring) (p q : Job → Bool) :
    (r.withdraw p).withdraw q = r.withdraw fun j => q j && p j := by
  simp [Ring.withdraw, List.filter_filter]

section
variable {br : Branch}

theorem Passes.of_stays {F : Work → Work} (h : ∀ v, (F v).ring br = v.ring br)
    (hset : ∀ v y, F (v.setRing br y) = (F v).setRing br y) : Passes br F :=
  ⟨fun _ => true, fun v => by rw [h, Ring.withdraw_all], fun v y => by rw [hset, Ring.withdraw_all]⟩

theorem Passes.comp {F G : Work → Work} (hG : Passes br G) (hF : Passes br F) : Passes br fun v => G (F v) := by
  obtain ⟨p, hp, hpset⟩ := hF
  obtain ⟨q, hq, hqset⟩ := hG
  refine ⟨fun j => q j && p j, fun v => ?_, fun v y => ?_⟩ <;> dsimp only
  · rw [hq, hp, Ring.withdraw_withdraw]
  · rw [hpset, hqset, Ring.withdraw_withdraw]

theorem Passes.same : Passes br id := .of_stays (fun _ => rfl) fun _ _ => rfl

theorem Passes.setTrial (t : Trial) : Passes br fun v => v.setTrial t :=
  .of_stays (fun v => by cases br <;> rfl) fun v y => by cases br <;> rfl

theorem Passes.setEntry (e : Entry) : Passes br fun v => v.setEntry e :=
  .of_stays (fun v => by cases br <;> rfl) fun v y => by cases br <;> rfl

theorem Passes.withDist (o : Option Distribution) : Passes br fun v => { v with dist := o } :=
  .of_stays (fun v => by cases br <;> rfl) fun v y => by cases br <;> rfl

theorem Passes.without (e : Entry) (f : LoadState → LoadState) : Passes br fun v => v.without e f :=
  ⟨fun j => decide (j ≠ .fire e.seq), fun v => by cases br <;> rfl, fun v y => by cases br <;> rfl⟩

theorem Passes.jogsAnew (g : Geometry) (v : Nat) (t : Trial) : Passes br fun w => w.jogsAnew g v t :=
  .of_stays (fun w => by cases br <;> rfl) fun w y => by cases br <;> rfl

variable {F : Work → Work} (h : Passes br F)
include h

/-- A change of the branch that does not turn on its queues comes to the same before and after. -/
theorem Passes.change {φ : Ring → Ring} (hφ : ∀ r keep, φ (Ring.withdraw r keep) = (φ r).withdraw keep) (v : Work) :
    (F v).setRing br (φ ((F v).ring br)) = F (v.setRing br (φ (v.ring br))) := by
  obtain ⟨keep, hring, hset⟩ := h
  rw [hring, hφ, hset]

theorem Passes.nodes (v : Work) : ((F v).ring br).nodes = (v.ring br).nodes := by
  obtain ⟨keep, hring, -⟩ := h
  rw [hring]
  rfl

theorem Passes.waiting {v : Work} (hv : (v.ring br).waiting = []) : ((F v).ring br).waiting = [] := by
  obtain ⟨keep, hring, -⟩ := h
  simp only [Ring.waiting, List.append_eq_nil_iff] at hv
  obtain ⟨⟨hf, hd⟩, hr⟩ := hv
  rw [hring]
  simp [Ring.waiting, Ring.withdraw, hf, hd, hr]

end

end Sys2Proof.Machine
end

section
/-! ## How requesters take the end of a request (R90 to R92, R117, R126 to R128, R134, R139 to R141) -/

namespace Sys2Proof.Machine

/-! ### Trials -/

theorem Work.setTrial_setTrial (w : Work) {t u : Trial} (h : t.id = u.id) :
    (w.setTrial t).setTrial u = w.setTrial u := by
  simp only [Work.setTrial, List.map_map]
  refine congrArg (fun ts => { w with plan := ts }) (List.map_congr_left fun z _ => ?_)
  by_cases hz : z.id = u.id <;> simp [hz, h]

section
variable {w : Work} {t : Trial} {z : Trial} (hz : w.trial t.id = some z)
include hz

theorem Work.trial_setTrial_same : (w.setTrial t).trial t.id = some t :=
  (Work.trial_id hz) ▸ Work.trial_setTrial (t := z) (by rw [Work.trial_id hz, hz]) (Work.trial_id hz).symm

/-- Short of its limits a trial that is set and counted for is set as counted (R117). -/
theorem count_setTrial (l : Loop) {x : Evidence} (hgo : x = .nothing ∨ t.GoesOn) :
    count l t.id x (w.setTrial t) = w.setTrial (t.counted x) := by
  have ht := Work.trial_setTrial_same hz
  by_cases ha : t.state = .active
  · cases x with
    | nothing => simp [count, ht, Trial.isActive, ha, Trial.counted]
    | hit d =>
      obtain ⟨hneed, -⟩ := hgo.resolve_left (by simp)
      rw [count_hit l ht ha hneed, Work.setTrial_setTrial _ (by rfl), Trial.counted, Trial.hit, if_pos ha]
    | fail =>
      obtain ⟨-, hlim⟩ := hgo.resolve_left (by simp)
      rw [count_fail l ht ha hlim, Work.setTrial_setTrial _ (by rfl), Trial.counted, Trial.failed, if_pos ha]
  · rw [count_inactive l ht ha]
    cases x <;> simp only [Trial.counted, Trial.hit, Trial.failed, if_neg ha]

end

/-! ### Chute items -/

/-- Where the claim pass finds nothing, the end of an item changes its trial alone (R128). -/
theorem itemEnds_eq (l : Loop) {w : Work} {t : Trial} (ht : w.trial t.id = some t) (i : Item) {o : ItemOutcome}
    {d : Int} (hgo : o.evidence d = .nothing ∨ t.GoesOn)
    (hclaim : claimPass l (w.setTrial (t.ended i o d)) = w.setTrial (t.ended i o d)) :
    itemEnds l t.id i.index o d w = w.setTrial (t.ended i o d) := by
  let noted : Trial := { t with outcomes := t.outcomes.add o }
  have hcount : count l t.id (o.evidence d) (w.setTrial noted) = w.setTrial (noted.counted (o.evidence d)) :=
    count_setTrial (t := noted) ht l hgo
  have hid : (noted.counted (o.evidence d)).id = t.id := Trial.counted_id ..
  have htrial : (w.setTrial (noted.counted (o.evidence d))).trial t.id = some (noted.counted (o.evidence d)) :=
    Work.trial_setTrial ht hid
  have hended : { noted.counted (o.evidence d) with
      items := (noted.counted (o.evidence d)).items.filter fun j => j.index != i.index } = t.ended i o d := by
    rw [Trial.ended_eq, Trial.counted_items]
    simp only [noted, bne, Bool.beq_eq_decide_eq, decide_not]
  rw [itemEnds, ht]
  dsimp only
  rw [hcount, itemLeaves, htrial]
  dsimp only
  rw [hended, Work.setTrial_setTrial _ (by rw [hid, Trial.ended_eq]; exact hid.symm), hclaim, ite_self]

/-- The item that replaces another is found by their carrier. -/
theorem Trial.item_setItem {t : Trial} {i j : Item} {n : Nat} (h : t.item n = some i) (hindex : j.index = i.index)
    (hcarrier : j.carrier = i.carrier) : (t.setItem j).item n = some j := by
  have hn : j.carrier = n := hcarrier.trans (by simpa [Trial.item] using List.find?_some h)
  unfold Trial.item Trial.setItem at *
  generalize t.items = items at h
  induction items with
  | nil => simp at h
  | cons k items ih =>
    by_cases hk : k.index = j.index
    · simp [hk, hn]
    · have hne : k.carrier ≠ n := fun hc => by
        have : k = i := by simpa [hc] using h
        exact hk (by rw [this, hindex])
      rw [List.map_cons, if_neg hk, List.find?_cons_of_neg (by simpa using hne)]
      rw [List.find?_cons_of_neg (by simpa using hne)] at h
      exact ih h

/-- The core without the entry window of an item. -/
def Work.unwatched (w : Work) (id index : Nat) : Work :=
  { w with windows := w.windows.filter fun z => !(z.trial == id && z.item == some index) }

theorem Work.unwatched_none {w : Work} {id index : Nat}
    (h : ∀ z ∈ w.windows, ¬(z.trial = id ∧ z.item = some index)) : w.unwatched id index = w := by
  have hall : w.windows.filter (fun z => !(z.trial == id && z.item == some index)) = w.windows :=
    List.filter_eq_self.2 fun z hz => by simpa [imp_iff_not_or] using h z hz
  rw [Work.unwatched, hall]

theorem removeItemWindow_none (l : Loop) {id index : Nat} {w : Work}
    (h : ∀ z ∈ w.windows, ¬(z.trial = id ∧ z.item = some index)) : removeItemWindow l id index w = w := by
  have hnone : w.itemWindow id index = none := List.find?_eq_none.2 fun z hz => by simpa using h z hz
  rw [removeItemWindow, hnone]

/-- Where no trial waits for window space, an item's entry window only leaves the table (R104, R111). -/
theorem removeItemWindow_eq (l : Loop) {id index : Nat} {w : Work} (hspace : ∀ u ∈ w.plan, u.reasons.noSpace = false)
    (hone : ∀ z ∈ w.windows, ∀ z' ∈ w.windows, z.trial = id → z.item = some index →
      z'.order = z.order ∨ (z'.trial = id ∧ z'.item = some index) → z' = z) :
    removeItemWindow l id index w = w.unwatched id index := by
  by_cases h : ∀ z ∈ w.windows, ¬(z.trial = id ∧ z.item = some index)
  · rw [removeItemWindow_none l h, Work.unwatched_none h]
  · obtain ⟨x, hx⟩ : ∃ x, w.itemWindow id index = some x := by
      refine Option.isSome_iff_exists.1 (List.find?_isSome.2 ?_)
      simpa using h
    obtain ⟨htrial, hitem⟩ : x.trial = id ∧ x.item = some index := by simpa using List.find?_some hx
    have hmem : x ∈ w.windows := List.mem_of_find?_eq_some hx
    simp only [removeItemWindow, hx, removeWindow_noSpace l x hspace, Work.dropWindow, Work.unwatched]
    refine congrArg (fun ws => { w with windows := ws }) (List.filter_congr fun z hz => ?_)
    by_cases hzx : z = x
    · simp [hzx, htrial, hitem]
    · have horder : z.order ≠ x.order := fun ho => hzx (hone x hmem z hz htrial hitem (.inl ho))
      have hother : ¬(z.trial = id ∧ z.item = some index) := fun ho => hzx (hone x hmem z hz htrial hitem (.inr ho))
      simpa [bne_iff_ne.2 horder, imp_iff_not_or] using hother

/-- No announcement reaches a trial in place of another that does not wait either. -/
theorem Work.noSpace_setTrial {w : Work} {t u : Trial} (ht : w.trial t.id = some t) (hu : u.reasons = t.reasons)
    (hspace : ∀ z ∈ w.plan, z.reasons.noSpace = false) : ∀ z ∈ (w.setTrial u).plan, z.reasons.noSpace = false := by
  intro z hz
  rcases Work.mem_setTrial hz with rfl | ⟨hz, -⟩
  · rw [hu]
    exact hspace t (List.mem_of_find?_eq_some ht)
  · exact hspace z hz

/-- A decided item: its entry leaves with the carrier state of the outcome, and the item ends (R128). -/
theorem decideItem_eq (l : Loop) {w : Work} {t : Trial} {i : Item} {e : Entry} (ht : w.trial t.id = some t)
    (he : w.entryOf i.carrier = some e) (hgo : t.GoesOn) (hn : w.NoClaimBut e) (o : ItemOutcome) {x : LoadState}
    (hx : ∀ k ref dest, x ≠ .loaded k ref dest) (d : Int) :
    decideItem l t.id i o x d w = (w.without e x.whereConsole).setTrial (t.ended i o d) := by
  have hcarrier : e.carrier = i.carrier := Work.entryOf_carrier he
  have hentry : (applyLoad i.carrier x w).entryOf i.carrier = some e := by
    rw [applyLoad_eq]
    exact he
  have hremoved : removeEntry e (applyLoad i.carrier x w) = w.without e x.whereConsole :=
    hcarrier ▸ removeEntry_applyLoad w e x
  simp only [decideItem, hentry, hremoved]
  exact itemEnds_eq l (w := w.without e x.whereConsole) ht i (.inr hgo)
    (claimPass_unclaimable l fun k => Work.without_unclaimable hn hx k)

/-- The item of an entry that leaves the list ends without being counted (R126). -/
theorem itemGone_eq (l : Loop) {w : Work} {t : Trial} {i : Item} {e : Entry} (ht : w.trial t.id = some t)
    (he : e.trial = some t.id) (hi : t.item e.carrier = some i) {o : ItemOutcome} (ho : o.evidence 0 = .nothing)
    {v : Work} (hv : removeItemWindow l t.id i.index w = v) (hplan : v.plan = w.plan)
    (hclaim : claimPass l (v.setTrial (t.ended i o 0)) = v.setTrial (t.ended i o 0)) :
    itemGone l e o w = v.setTrial (t.ended i o 0) := by
  have htrial : v.trial t.id = some t := by rw [Work.trial, hplan]; exact ht
  simp only [itemGone, he, ht, Option.bind_some, hi, hv]
  exact itemEnds_eq l htrial i (.inl ho) hclaim

/-- An item that returns is ASSIGNED again, without reply, verdict and window (R126). -/
def Item.returned (i : Item) : Item := { i with stage := .assigned, verdict := none, reply := none }

theorem itemReturns_eq (l : Loop) {w : Work} {t : Trial} {i : Item} {n : Nat} (ht : w.trial t.id = some t)
    (hi : t.item n = some i) (hspace : ∀ u ∈ w.plan, u.reasons.noSpace = false)
    (hone : ∀ z ∈ w.windows, ∀ z' ∈ w.windows, z.trial = t.id → z.item = some i.index →
      z'.order = z.order ∨ (z'.trial = t.id ∧ z'.item = some i.index) → z' = z) :
    itemReturns l t.id n w = (w.setTrial (t.setItem i.returned)).unwatched t.id i.index := by
  simp only [itemReturns, ht, hi]
  exact removeItemWindow_eq l (Work.noSpace_setTrial ht rfl hspace) hone

/-! ### Jogs -/

/-- A belt trial's jog entry joins (R84, R140). -/
theorem jogAdd_eq {l : Loop} {g : Geometry} (hg : l.geometry = some g) {w : Work} {t : Trial}
    (ht : w.trial t.id = some t) (hroom : w.fires.length < 256) (hfree : ∀ z ∈ w.fires, z.carrier ≠ t.target) :
    jogAdd l t.id w = w.jogsAnew g l.tracker.v t := by
  have hnone : w.entryOf t.target = none := List.find?_eq_none.2 fun z hz => by simpa using hfree z hz
  have hnominal : nominalPos g g.jog t.target = (g.jog + t.target * g.pitch) % g.length := by
    rw [nominalPos, ← modL_natCast]
    push_cast
    rfl
  have href : w.refOf t.target =
      match w.carriers[t.target]? with | some ⟨.loaded _ ref _, _, _, _⟩ => ref | _ => 0 := by
    unfold Work.refOf Work.carrier
    rcases w.carriers[t.target]? with _ | ⟨_ | _ | _, _, _, _⟩ <;> rfl
  simp only [jogAdd, ht, addEntry, hg, hnone, decide_eq_true hroom, Option.isNone_none, Bool.and_self, if_true]
  simp only [newEntry, Work.placeOf, Work.throwOf, href, hnominal, firePointOf, Nat.zero_add]
  rfl

theorem Work.jogsAnew_setTrial (w : Work) (g : Geometry) (v : Nat) {t u : Trial} (h : t.id = u.id) :
    (w.setTrial t).jogsAnew g v u = w.jogsAnew g v u := by
  have hset : (w.setTrial t).setTrial { u with begun := true, jogDeclined := false } =
      w.setTrial { u with begun := true, jogDeclined := false } := Work.setTrial_setTrial w h
  unfold Work.jogsAnew
  rw [hset]
  rfl

theorem Trial.counted_target (t : Trial) (x : Evidence) : (t.counted x).target = t.target := by
  cases x <;> simp only [Trial.counted, Trial.hit, Trial.failed] <;> split <;> rfl

theorem Trial.counted_idle {t : Trial} (h : t.state ≠ .active) (x : Evidence) : t.counted x = t := by
  cases x <;> simp [Trial.counted, Trial.hit, Trial.failed, h]

/-- What READ_TRIAL reports of a jog's result, where it is counted (R141). -/
def Trial.noted (t : Trial) (f : BeltCounts → BeltCounts) : Trial :=
  if t.state = .active then { t with belt := f t.belt } else t

section
variable {l : Loop} {g : Geometry} (hg : l.geometry = some g) {w : Work} {t : Trial}
  (ht : w.trial t.id = some t) (hroom : w.fires.length < 256) (hfree : ∀ z ∈ w.fires, z.carrier ≠ t.target)
include hg ht hroom hfree

/-- The trial changes, and asks for a jog anew. -/
theorem jogAdd_setTrial {u : Trial} (hid : u.id = t.id) (htarget : u.target = t.target) :
    jogAdd l t.id (w.setTrial u) = w.jogsAnew g l.tracker.v u := by
  rw [← hid, jogAdd_eq hg (w := w.setTrial u) (Work.trial_setTrial_same (hid ▸ ht)) hroom (htarget ▸ hfree),
    Work.jogsAnew_setTrial _ _ _ rfl]

/-- A jog's result is counted, and the jog asked for anew (R140, R141). -/
theorem jogCounted_eq (hgo : t.GoesOn) (f : BeltCounts → BeltCounts) (x : Evidence) :
    jogCounted l t.id f x w = w.jogsAnew g l.tracker.v ((t.noted f).counted x) := by
  by_cases ha : t.state = .active
  · let u : Trial := { t with belt := f t.belt }
    have hnoted : noteJog t.id f w = w.setTrial u := by simp [noteJog, ht, Trial.isActive, ha, u]
    have hcount : count l t.id x (w.setTrial u) = w.setTrial (u.counted x) :=
      count_setTrial (t := u) ht l (.inr hgo)
    rw [jogCounted, hnoted, hcount, jogAdd_setTrial hg ht hroom hfree (u.counted_id x) (u.counted_target x),
      Trial.noted, if_pos ha]
  · have hnoted : noteJog t.id f w = w := by simp [noteJog, ht, Trial.isActive, ha]
    rw [jogCounted, hnoted, count_inactive l ht ha, jogAdd_eq hg ht hroom hfree, Trial.noted, if_neg ha,
      Trial.counted_idle ha]

end

/-! ### Entries that leave -/

section
variable {w : Work} {e : Entry} (he : w.entryAt e.seq = some e)
include he

theorem Work.without_room (hroom : w.fires.length ≤ 256) (f : LoadState → LoadState) :
    (w.without e f).fires.length < 256 := by
  have hless : ((w.without e f).fires).length < w.fires.length :=
    List.length_filter_lt_length_iff_exists.2 ⟨e, List.mem_of_find?_eq_some he, by simp⟩
  omega

omit he in
theorem Work.without_free (hone : ∀ z ∈ w.fires, z.carrier = e.carrier → z.seq = e.seq) (f : LoadState → LoadState) :
    ∀ z ∈ (w.without e f).fires, z.carrier ≠ e.carrier := by
  intro z hz hc
  obtain ⟨hz, hne⟩ := List.mem_filter.1 hz
  exact of_decide_eq_true hne (hone z hz hc)

end

/-- The core with the load of carrier `k` changed by `f`. -/
def Work.loads (w : Work) (k : Nat) (f : LoadState → LoadState) : Work :=
  { w with carriers := w.carriers.modify k fun c => { c with load := f c.load } }

theorem Work.loads_none {w : Work} {k : Nat} (hk : w.carriers[k]? = none) (f : LoadState → LoadState) :
    w.loads k f = w := by
  have hid : w.carriers.modify k (fun c => { c with load := f c.load }) = w.carriers.modify k id :=
    modify_congr_at (by simp [hk])
  rw [Work.loads, hid, List.modify_id]

theorem Work.loads_stay {w : Work} {k : Nat} {c : Carrier} (hk : w.carriers[k]? = some c) {f : LoadState → LoadState}
    (h : f c.load = c.load) : w.loads k f = w := by
  have hid : w.carriers.modify k (fun c => { c with load := f c.load }) = w.carriers.modify k id :=
    modify_congr_at fun d hd => by rw [Option.some.inj (hd.symm.trans hk), h]; rfl
  rw [Work.loads, hid, List.modify_id]

theorem Work.loads_eq_setLoad {w : Work} {k : Nat} {c : Carrier} (hk : w.carriers[k]? = some c)
    {f : LoadState → LoadState} {x : LoadState} (h : f c.load = x) : w.loads k f = w.setLoad k x :=
  congrArg (fun cs => { w with carriers := cs })
    (modify_congr_at fun d hd => by rw [Option.some.inj (hd.symm.trans hk), h])

/-- A changed load keeps no destination as its carrier's entry leaves. -/
theorem Work.without_loads (w : Work) (e : Entry) (f : LoadState → LoadState) :
    (w.loads e.carrier f).without e id = w.without e f := by
  simp [Work.loads, Work.without, List.modify_modify_eq, Function.comp_def]

/-- A discharge's carrier takes a load, unless it is in FAULT (R91, R92). -/
theorem settleLoad_eq (k : Nat) (x : LoadState) (w : Work) : settleLoad k x w = w.loads k x.unlessFaulted := by
  unfold settleLoad Work.carrier
  cases hc : w.carriers[k]? with
  | none => exact (Work.loads_none hc _).symm
  | some c =>
    cases hl : c.load with
    | fault why => simp only [hl]; exact (Work.loads_stay hc (f := x.unlessFaulted) (by rw [hl]; rfl)).symm
    | _ => simp only [hl]; exact (Work.loads_eq_setLoad hc (by rw [hl]; rfl)).symm

/-- A jog's FAULT finds the carrier EMPTY or leaves it (R120, R141). -/
theorem loads_whereEmpty (w : Work) (k : Nat) :
    (if w.isEmptyCarrier k then w.setLoad k (.fault .beltFault) else w) = w.loads k LoadState.whereEmpty := by
  unfold Work.isEmptyCarrier Work.carrier
  cases hc : w.carriers[k]? with
  | none => exact (Work.loads_none hc _).symm
  | some c =>
    cases hl : c.load with
    | empty => simp only [hl, decide_true, if_true]; exact (Work.loads_eq_setLoad hc (by rw [hl]; rfl)).symm
    | _ => simp [hl, Work.loads_stay hc (f := LoadState.whereEmpty) (by rw [hl]; rfl)]

/-- The DISCHARGE_DONE of an entry (R94). -/
def dischargeDone (l : Loop) (e : Entry) (c : Nat) (outcome : DischargeOutcome) (misses : Nat) : Notice :=
  .dischargeDone e.carrier c outcome e.ref misses l.tracker.revolution

section
variable (l : Loop) {w : Work} {e : Entry} {c : Nat} (hc : e.chute = some c)
  (hask : e.owner = .console ∨ w.ask c = none)
include hc hask

theorem endDischarge_posting (outcome : DischargeOutcome) :
    endDischarge l outcome e w =
      (w.without e id).posting [⟨e.owner, .fires, dischargeDone l e c outcome e.misses⟩] :=
  endDischarge_eq l outcome hc hask

/-- A discharge that ends with a load for its carrier (R91, R92). -/
theorem endDischarge_settled (outcome : DischargeOutcome) (x : LoadState) :
    endDischarge l outcome e (settleLoad e.carrier x w) =
      (w.without e x.unlessFaulted).posting [⟨e.owner, .fires, dischargeDone l e c outcome e.misses⟩] := by
  rw [settleLoad_eq, endDischarge_posting l (w := w.loads e.carrier x.unlessFaulted) hc hask, Work.without_loads]

end

/-! ### Misses (R90) -/

/-- The entry with one more miss, WAITING (R90). -/
def Entry.missed (e : Entry) : Entry := { e with misses := e.misses + 1, state := .waiting, requested := false }

section
variable (l : Loop) {w : Work} {e : Entry}

theorem missEntry_stays (hm : e.misses < 2) : missEntry l e w = w.setEntry e.missed := by
  simp only [missEntry, show e.misses + 1 < 3 by omega, if_true]
  rfl

variable (hm : 2 ≤ e.misses)
include hm

theorem missEntry_discharge (ho : e.origin = .lineDischarge ∨ e.origin = .consoleDischarge) {c : Nat}
    (hc : e.chute = some c) (hask : e.owner = .console ∨ w.ask c = none) :
    missEntry l e w =
      (w.without e id).posting [⟨e.owner, .fires, dischargeDone l e c .recirculated (e.misses + 1)⟩] := by
  have hthird : missEntry l e w = endDischarge l .recirculated e.missed w := by
    rcases ho with ho | ho <;> simp [missEntry, Nat.not_lt.2 (show 3 ≤ e.misses + 1 by omega), ho, Entry.missed]
  rw [hthird]
  exact endDischarge_posting l (e := e.missed) hc hask _

/-- The third miss of an item ends it with FIRE_MISSED (R126). -/
theorem missEntry_item (ho : e.origin = .chuteItem) {t : Trial} {i : Item} (hid : e.trial = some t.id)
    (ht : w.trial t.id = some t) (hi : t.item e.carrier = some i)
    (hwin : ∀ z ∈ w.windows, ¬(z.trial = t.id ∧ z.item = some i.index))
    (hchute : ∀ u ∈ w.plan, u.kind = .chute → u.state ≠ .active) :
    missEntry l e w = (w.without e id).setTrial (t.ended i .fireMissed 0) := by
  have hthird : missEntry l e w = itemGone l e.missed .fireMissed (removeEntry e.missed w) := by
    simp [missEntry, Nat.not_lt.2 (show 3 ≤ e.misses + 1 by omega), ho, Entry.missed]
  rw [hthird, removeEntry_eq]
  refine itemGone_eq l (w := w.without e id) (e := e.missed) ht hid hi rfl (removeItemWindow_none l hwin) rfl
    (claimPass_noChute l fun u hu => ?_)
  rcases Work.mem_setTrial hu with rfl | ⟨hu, -⟩
  · exact hchute t (List.mem_of_find?_eq_some ht)
  · exact hchute u hu

/-- The third miss of a jog is a miss of its trial, which asks for another (R140, R141). -/
theorem missEntry_jog {g : Geometry} (hg : l.geometry = some g) (ho : e.origin = .beltJog) {t : Trial}
    (he : w.entryAt e.seq = some e) (hid : e.trial = some t.id) (ht : w.trial t.id = some t)
    (htarget : t.target = e.carrier) (hroom : w.fires.length ≤ 256)
    (hone : ∀ z ∈ w.fires, z.carrier = e.carrier → z.seq = e.seq) :
    missEntry l e w = (w.without e id).jogsAnew g l.tracker.v
      { t with belt := { t.belt with misses := t.belt.misses + 1 } } := by
  have hthird : missEntry l e w = jogMissed l e.missed (removeEntry e.missed w) := by
    simp [missEntry, Nat.not_lt.2 (show 3 ≤ e.misses + 1 by omega), ho, Entry.missed]
  have htrial : (w.without e id).trial t.id = some t := ht
  have hgone : removeEntry e.missed w = w.without e id := removeEntry_eq ..
  rw [hthird, hgone]
  simp only [jogMissed, show e.missed.trial = some t.id from hid, htrial]
  exact jogAdd_setTrial hg htrial (Work.without_room he hroom id) (htarget ▸ Work.without_free hone id) rfl rfl

end

end Sys2Proof.Machine
end

section
/-! ## A waiting request fails (R157) -/

namespace Sys2Proof.Machine

/-- The core with the two branches as given. -/
def Work.withRings (w : Work) (a b : Ring) : Work := { w with ringA := a, ringB := b }

theorem resolve_fire (l : Loop) (x : Resolution) {w : Work} {e : Entry} {j : Job} (hj : j = .fire e.seq)
    (he : w.entryAt e.seq = some e) (hx : x = .branchDown ∨ x = .nodeSilent) : resolve l j x w = missEntry l e w := by
  subst hj
  rcases hx with rfl | rfl <;> simp [resolve, resolveFire, he]

/-- A resolved row goes on with its distribution, or ends it (R137). -/
theorem Work.Ends.of_setRow {w : Work} (ho : w.outbox = []) {d : Distribution} (hd : w.dist = some d) (tag : Nat)
    (x : RowState) :
    let rows := rowsWith d.rows tag x
    let settled : Prop := ∀ z ∈ rows, z.state = .withheld ∨ z.state = .acked d.value ∨ z.state = .failed d.value
    let number (y : RowState) : Nat := (rows.filter fun z => decide (z.state = y)).length
    (¬settled → (w.setRow tag x).Ends { w with dist := some { d with rows := rows } } fun _ => []) ∧
    (settled → (w.setRow tag x).Ends { w with dist := none } fun k =>
      if .line = k then [.speedSet d.value d.cause (number (.acked d.value)) (number (.failed d.value))] else []) := by
  intro rows settled number
  rw [Work.setRow_of_dist hd]
  have hover : Distribution.over { d with rows := rows } = true ↔ settled := over_iff _
  refine ⟨fun h => .of_quiet ho ?_, fun h => ?_⟩
  · rintro _ ⟨rfl⟩
    exact Bool.eq_false_iff.2 (mt hover.1 h)
  · obtain ⟨hacked, hfailed⟩ := counts_of_over (hover.2 h)
    have hends := Work.Ends.of_over (w := { w with dist := some { d with rows := rows } }) ho rfl (hover.2 h)
    rw [hacked, hfailed] at hends
    exact hends

/-- A row that is to be commanded again fails with the branch of its drive (R134, R136, R157). -/
theorem resolveSpeed_unasked (l : Loop) {w : Work} {d : Distribution} {tag v : Nat} {m : Bool} (hd : w.dist = some d)
    (hr : d.rows.find? (fun z => z.tag == tag) = some ⟨tag, .sent v m⟩) (h : v ≠ d.value ∨ m = true) {p : Point}
    (hp : w.point tag = some p) (acked : Bool) (hf : l.fenced p.config.zone = false)
    (hroute : ∀ a, p.route = some a → (w.ring a.branch).state ≠ .running) :
    resolveSpeed l tag acked w = w.setRow tag (.failed d.value) := by
  obtain ⟨hd', hr'⟩ := setRow_pending hd hr
  rw [resolveSpeed_stale l hd hr h, commandRow_failed l hd' hr' hp hf fun a ha => .inl ?_, Work.setRow_setRow]
  rw [Work.setRow_ring]
  exact hroute a ha

/-- A failed query of an ACTIVE trial short of its limit is counted (R139). -/
theorem resolveQuery_fails (l : Loop) {w : Work} {t : Trial} (ht : w.trial t.id = some t) (ha : t.state = .active)
    (hlim : t.fails + 1 < t.limit) {x : Resolution} (hx : ∀ value gone, x ≠ .done value gone) :
    resolveQuery l t.id t.order x w = w.setTrial
      { t with drive := { t.drive with failed := t.drive.failed + 1 }, fails := t.fails + 1, streak := 0 } := by
  let u : Trial := { t with drive := { t.drive with failed := t.drive.failed + 1 } }
  have hu : (w.setTrial u).trial u.id = some u := Work.trial_setTrial_same (t := u) ht
  rw [resolveQuery_failed ht ha l hx]
  exact (count_fail l hu ha hlim).trans (Work.setTrial_setTrial w rfl)

/-- A query's result for a trial that is not ACTIVE, or gone, is discarded (R139). -/
theorem resolveQuery_discarded (l : Loop) {w : Work} {id order : Nat}
    (h : ∀ t, w.trial id = some t → t.order = order → t.state ≠ .active) (x : Resolution) :
    resolveQuery l id order x w = w := by
  unfold resolveQuery Work.queryTrial
  cases ht : w.trial id with
  | none => rfl
  | some t =>
    by_cases ho : t.order = order
    · simp [ho, Trial.isActive, h t ht ho]
    · simp [ho]

section
variable {s : State} {br : Branch} {q : Req} {ends : (Work → Work) → (Link → List Notice) → Prop} {a b : Ring}

/-- What the failure of a request on a branch that takes none leads to, of an event that ends with whatever a
requester's change and notices are (R157). -/
theorem State.requestFails_of (hq : s.Quiet)
    (hrun : ((s.work.withRings a b).ring br).state ≠ .running)
    (hends : ∀ (F : Work → Work) (n : Link → List Notice), Passes br F →
      (resolve s.loop q.job .branchDown (s.work.withRings a b)).Ends (F (s.work.withRings a b)) n → ends F n) :
    s.RequestFails br q .branchDown ends := by
  obtain ⟨ho, hd⟩ := hq
  refine ⟨fun k rtag ptag item route hj => ?_, fun e hj he => ?_, fun n v hj => ?_, fun n o hj => ?_⟩
  · refine hends id _ .same ?_
    rw [hj]
    exact .of_posting (w := s.work.withRings a b) ho hd
      [⟨k, .relay, .nodeReply rtag ptag item route .branchDown 0⟩] fun j => noticesTo_one ..
  · rw [resolve_fire s.loop _ hj (by exact he) (.inl rfl)] at hends
    refine ⟨fun hm => ?_, fun c hm hc horigin hask => ?_, fun t i hm horigin hid ht hi hwin hchute => ?_,
      fun t g hm horigin hc hid ht htarget hg hroom hone => ?_⟩
    · refine hends _ _ (.setEntry e.missed) ?_
      rw [missEntry_stays s.loop hm]
      exact .of_quiet ho hd
    · refine hends _ _ (.without e id) ?_
      rw [missEntry_discharge s.loop hm horigin hc (by exact hask)]
      exact .of_posting (by exact ho) (by exact hd) _ fun j => noticesTo_one ..
    · refine hends _ _ ((Passes.setTrial _).comp (.without e id)) ?_
      rw [missEntry_item s.loop hm horigin hid (by exact ht) hi (by exact hwin) (by exact hchute)]
      exact .of_quiet ho hd
    · refine hends _ _ ((Passes.jogsAnew g s.loop.tracker.v _).comp (.without e id)) ?_
      rw [missEntry_jog s.loop hm hg horigin (by exact he) hid (by exact ht) htarget (by exact hroom) (by exact hone)]
      exact .of_quiet ho hd
  · rw [hj] at hends
    refine ⟨fun hnone => hends id _ .same ?_, fun d u m hdist hrow => ?_⟩
    · rw [resolve, resolveSpeed_none s.loop (by exact hnone)]
      exact .of_quiet ho hd
    · intro becomes
      have takes {x : RowState} (hx : resolve s.loop (.setSpeed n v) .branchDown (s.work.withRings a b) =
          (s.work.withRings a b).setRow n x) : becomes x := by
        rw [hx] at hends
        obtain ⟨hgoes, hover⟩ := Work.Ends.of_setRow (w := s.work.withRings a b) ho hdist n x
        exact ⟨fun h => hends _ _ (.withDist _) (hgoes h), fun h => hends _ _ (.withDist none) (hover h)⟩
      refine ⟨fun hu hm => takes ?_, fun p hu hp => ⟨fun hf => takes ?_, fun hf hroute => takes ?_⟩⟩
      · exact hu ▸ resolveSpeed_current s.loop (w := s.work.withRings a b) hdist hrow hu hm false
      · exact resolveSpeed_fenced s.loop (w := s.work.withRings a b) hdist hrow hu hp false hf
      · exact resolveSpeed_unasked s.loop (w := s.work.withRings a b) hdist hrow hu hp false hf fun r hr =>
          hroute r hr ▸ hrun
  · rw [hj] at hends
    refine ⟨fun t ht horder ha hlim => hends _ _ (.setTrial _) ?_, fun h => hends id _ .same ?_⟩
    · obtain rfl := Work.trial_id ht
      rw [resolve, ← horder, resolveQuery_fails s.loop (by exact ht) ha hlim (by simp)]
      exact .of_quiet ho hd
    · rw [resolve, resolveQuery_discarded s.loop (by exact h)]
      exact .of_quiet ho hd

end

end Sys2Proof.Machine
end

section
/-! ## Ring signal and enumeration (R144, R145, R154, R157, R158) -/

namespace Sys2Proof.Machine

/-! ### The parts of the two events -/

/-- What BRANCH says of the carrier link node (R144). -/
def linkOnline (l : Loop) (br : Branch) (r : Ring) : Option Bool :=
  l.tracker.geometry.bind fun (g : Geometry) =>
    if g.linkBranch = br then some (decide (r.nodeState g.linkNode = NodeState.online)) else none

theorem branchNotice_eq (l : Loop) (br : Branch) (x : BranchState) (c : BranchCause) (w : Work) :
    branchNotice l br x c w =
      w.posting (bothPosts [(.ring, .branch br x c (w.ring br).online (linkOnline l br (w.ring br)))]) := by
  rw [branchNotice, Work.postBoth_eq_posting]
  refine congrArg (fun y => w.posting (bothPosts [(.ring, .branch br x c (w.ring br).online y)])) ?_
  unfold linkOnline Loop.geometry
  cases l.tracker.geometry <;> rfl

theorem Ring.nodeState_congr {r q : Ring} (h : r.nodes = q.nodes) (n : Nat) : r.nodeState n = q.nodeState n := by
  simp only [Ring.nodeState, Ring.node, h]

/-- What BRANCH says turns on the nodes alone. -/
theorem linkOnline_congr (l : Loop) (br : Branch) {r q : Ring} (h : r.nodes = q.nodes) :
    r.online = q.online ∧ linkOnline l br r = linkOnline l br q :=
  ⟨by rw [Ring.online, h, Ring.online], by simp only [linkOnline, Ring.nodeState_congr h]⟩

/-- The branch without its waiting requests. -/
def Ring.unqueued (r : Ring) : Ring := { r with fireq := [], driveq := [], relayq := [] }

/-- All waiting requests of a branch fail (R157). -/
theorem failWaiting_all (l : Loop) (br : Branch) (x : Resolution) (w : Work) :
    failWaiting l br x (fun _ => true) w =
      (w.ring br).waiting.foldl (fun w q => resolve l q.job x w) (w.setRing br (w.ring br).unqueued) := by
  simp [failWaiting, Ring.unqueued]

section
variable {s : State} {br : Branch} {q : Req} {ends : (Work → Work) → (Link → List Notice) → Prop}

theorem State.requestFails_setRing (hq : s.Quiet) {r : Ring} (hrun : r.state ≠ .running)
    (hends : ∀ (F : Work → Work) (n : Link → List Notice), Passes br F →
      (resolve s.loop q.job .branchDown (s.work.setRing br r)).Ends (F (s.work.setRing br r)) n → ends F n) :
    s.RequestFails br q .branchDown ends := by
  cases br with
  | a => exact State.requestFails_of (a := r) (b := s.work.ringB) hq hrun hends
  | b => exact State.requestFails_of (a := s.work.ringA) (b := r) hq hrun hends

end

/-! ### The loss of ring signal (R154) -/

/-- The branch as its ring signal is lost (R143, R154). -/
def Ring.lost (r : Ring) : Ring :=
  { r with state := .down, signal := false, acks := [], rx := [], hunting := false, fireq := [], driveq := []
           relayq := []
           stats := { r.stats with bad := if r.rx = [] then r.stats.bad else min (r.stats.bad + 1) 65535 } }

theorem signalLost_eq (l : Loop) {br : Branch} {w : Work} (h : (w.ring br).signal = true) :
    signalLost l br w = branchNotice l br .down .signalLost
      ((w.ring br).waiting.foldl (fun w q => resolve l q.job .branchDown w) (w.setRing br (w.ring br).lost)) := by
  let cut : Ring := { (w.ring br).cutShort with state := .down, signal := false, hunting := false, acks := [] }
  have hlost : cut.unqueued = (w.ring br).lost := by
    simp only [cut]
    unfold Ring.cutShort
    cases hrx : (w.ring br).rx <;> simp [Ring.unqueued, Ring.lost, hrx, bump]
  have hwait : cut.waiting = (w.ring br).waiting := by
    simp only [cut]
    unfold Ring.cutShort
    split <;> rfl
  rw [signalLost, if_pos h, failWaiting_all, Work.ring_setRing, Work.setRing_setRing, hlost, hwait]

/-! ### An enumeration (R145, R158) -/

theorem Ring.clearNodes_withdraw (clock : Nat) (r : Ring) (keep : Job → Bool) :
    (r.withdraw keep).clearNodes clock = (r.clearNodes clock).withdraw keep := rfl

/-- No node of a cleared table is ONLINE (R145). -/
theorem Ring.clearNodes_online (l : Loop) (br : Branch) (r : Ring) (clock : Nat) :
    (r.clearNodes clock).online = 0 ∧ linkOnline l br (r.clearNodes clock) =
      l.tracker.geometry.bind fun (g : Geometry) => if g.linkBranch = br then some false else none := by
  have hstate (n : Nat) : (r.clearNodes clock).nodeState n = .absent := by
    have hnodes : (r.clearNodes clock).nodes = r.nodes.map fun _ => Node.initial := rfl
    unfold Ring.nodeState Ring.node
    rw [hnodes, List.getElem?_map]
    by_cases hn : n = 0
    · simp [hn]
    · cases hx : r.nodes[n - 1]? <;> simp [hn, Node.initial]
  refine ⟨?_, ?_⟩
  · simp [Ring.online, Ring.clearNodes, Ring.transmit, Node.initial]
  · simp [linkOnline, hstate]

/-- The branch held no transactions: an enumeration fails its waiting requests (R145). -/
theorem enumerate_requests (l : Loop) {br : Branch} {w : Work} (ht : (w.ring br).table = []) :
    enumerate l br w =
      let u := (w.ring br).waiting.foldl (fun w q => resolve l q.job .branchDown w)
        (w.setRing br (w.ring br).startEnumeration.unqueued)
      u.setRing br ((u.ring br).clearNodes l.clock) := by
  unfold enumerate
  rw [ht]
  dsimp only [byTag, sortBy, List.foldl_nil]
  rw [failWaiting_all, Work.ring_setRing, Work.setRing_setRing]
  rfl

/-- Neither transactions nor waiting requests: an enumeration changes the branch alone (R145). -/
theorem enumerate_nothing (l : Loop) {br : Branch} {w : Work} (ht : (w.ring br).table = [])
    (hw : (w.ring br).waiting = []) :
    enumerate l br w = w.setRing br ((w.ring br).startEnumeration.unqueued.clearNodes l.clock) := by
  rw [enumerate_requests l ht, hw]
  simp

/-- The clearing of the branch passes what its requesters changed. -/
theorem Work.Ends.clearNodes {u w : Work} {br : Branch} {r : Ring} {F : Work → Work} {n : Link → List Notice}
    (h : u.Ends (F (w.setRing br r)) n) (hF : Passes br F) (clock : Nat) :
    (u.setRing br ((u.ring br).clearNodes clock)).Ends (F (w.setRing br (r.clearNodes clock))) n := by
  have hpassed := hF.change (φ := fun y => y.clearNodes clock) (Ring.clearNodes_withdraw clock) (w.setRing br r)
  rw [Work.ring_setRing, Work.setRing_setRing] at hpassed
  rw [h.ring, ← hpassed]
  exact h.setRing br _

/-- RESTART_BRANCH of a branch that is not DOWN (R158). -/
theorem restartBranch_begins {br : Branch} {s : State} (hdown : (s.work.ring br).state ≠ .down) :
    restartBranch br.code s =
      ⟨s.mapWork fun w => branchNotice s.loop br .enumerating .restart (enumerate s.loop br w), .accepted, []⟩ := by
  have hbr : Branch.ofCode br.code = some br := branch_ofCode_eq_some.2 rfl
  simp only [restartBranch, hbr, hdown, if_false]

/-- A branch's news joins what the event ends with. -/
theorem Work.Ends.branchNotice {u w : Work} {n : Link → List Notice} (h : u.Ends w n) (l : Loop) (br : Branch)
    (x : BranchState) (c : BranchCause) :
    (branchNotice l br x c u).Ends w fun k =>
      .branch br x c (w.ring br).online (linkOnline l br (w.ring br)) :: n k := by
  rw [branchNotice_eq, h.ring]
  refine (h.posting _).congr fun k => ?_
  rw [noticesTo_both]
  rfl

/-- RESTART_BRANCH of a branch that is not DOWN: the answer, and the end of the event (R158). -/
theorem exec_restartBranch {s : State} (ht : s.Takes .console) {rtag : Nat} (hr : rtag ≠ 0) {br : Branch}
    (hdown : (s.work.ring br).state ≠ .down) :
    exec (.restartBranch rtag br.code) s = .next (State.settle (State.answered
      { s with work := branchNotice s.loop br .enumerating .restart (enumerate s.loop br s.work) } .console rtag
      (.restartBranch br.code) .accepted [])) := by
  refine congrArg Host.Outcome.next ((serve_takes ht hr (.restartBranch br.code) (restartBranch br.code)).trans ?_)
  rw [restartBranch_begins hdown]
  rfl

/-- BRANCH of a branch whose nodes were cleared (R144, R145). -/
theorem branch_cleared (l : Loop) (br : Branch) {u y : Ring} {clock : Nat} (hu : u.nodes = (y.clearNodes clock).nodes)
    (c : BranchCause) :
    Notice.branch br .enumerating c u.online (linkOnline l br u) = .branch br .enumerating c 0
      (l.tracker.geometry.bind fun (g : Geometry) => if g.linkBranch = br then some false else none) := by
  obtain ⟨honline, hlink⟩ := linkOnline_congr l br hu
  obtain ⟨hnone, hoff⟩ := Ring.clearNodes_online l br y clock
  rw [honline, hlink, hnone, hoff]

/-- The end of an event that follows the answer to a command of the console. -/
theorem Work.Ends.settle_answered {u w : Work} {n : Link → List Notice} (h : u.Ends w n) (s : State) (rtag : Nat)
    (q : Request) (x : Status) (b : List Field) :
    (State.answered { s with work := w } .console rtag q x b).Posted
      (State.answered { s with work := u } .console rtag q x b).settle (n .line) (n .console) :=
  h.settle (s.answered .console rtag q x b)

end Sys2Proof.Machine

open Sys2Proof Sys2Proof.Machine

/-- Settles O52: the branch goes DOWN, and its one request is resolved on a branch that takes no other. -/
theorem signalLossTakesTheBranchDown : Obligations.SignalLossTakesTheBranchDown := by
  unfold Obligations.SignalLossTakesTheBranchDown
  intro br s r bad down change hq hsignal
  have hdown : r.lost = down := rfl
  have hchange (u : Ring) (hu : u.nodes = r.nodes) :
      Notice.branch br .down .signalLost u.online (linkOnline s.loop br u) = change := by
    obtain ⟨honline, hlink⟩ := linkOnline_congr s.loop br hu
    rw [honline, hlink]
    rfl
  have hlost := signalLost_eq s.loop hsignal
  refine ⟨fun hnone => congrArg Host.Outcome.next ?_, fun q hone => ?_⟩
  · rw [State.mapWork, hlost, hnone, List.foldl_nil, branchNotice_eq, Work.ring_setRing,
      hchange (s.work.ring br).lost rfl]
    exact State.settle_posting_both (s := { s with work := s.work.setRing br down }) (hq.of_work (by simp) (by simp))
      _ _
  · refine State.requestFails_setRing hq (r := down) (by simp [down]) fun F n hF hends => ⟨_, rfl, ?_⟩
    rw [State.mapWork, hlost, hone, List.foldl_cons, List.foldl_nil]
    have hsettles := (hends.branchNotice s.loop br .down .signalLost).settle s
    rw [hchange _ (by rw [hF.nodes, Work.ring_setRing])] at hsettles
    exact hsettles

/-- Settles O51: ENUMERATE clears the branch, whose one request was resolved on a branch that takes no other. -/
theorem enumerationBegins : Obligations.EnumerationBegins := by
  unfold Obligations.EnumerationBegins
  refine ⟨fun s rtag n ht hr h1 h2 => ?_, ?_⟩
  · have hnone : Branch.ofCode n = none := Option.eq_none_iff_forall_ne_some.2 fun br hbr => by
      rw [branch_ofCode_eq_some] at hbr
      cases br <;> contradiction
    refine congrArg Host.Outcome.next (serve_answers ht hr (.restartBranch n) (restartBranch n) ?_)
    simp only [restartBranch, hnone]
    rfl
  intro br s rtag hr r begun link
  have hbegun (ht : r.table = []) : r.startEnumeration.unqueued.clearNodes s.loop.clock = begun := by
    simp only [Ring.clearNodes, Ring.transmit, Ring.unqueued, Ring.startEnumeration, begun, ht]
    rfl
  have hnews {u y : Ring} (hu : u.nodes = (y.clearNodes s.loop.clock).nodes) (c : BranchCause) :
      Notice.branch br .enumerating c u.online (linkOnline s.loop br u) = .branch br .enumerating c 0 link :=
    branch_cleared s.loop br hu c
  have restarts (ht : s.Takes .console) (hdown : r.state ≠ .down) := exec_restartBranch ht hr hdown
  refine ⟨fun ht hdown => ?_, fun ht hdown htable hnone => ?_, fun q ht hdown htable hone => ?_,
    fun hq hsignal htable hnone => ?_⟩
  · refine congrArg Host.Outcome.next (serve_answers ht hr (.restartBranch br.code) (restartBranch br.code) ?_)
    have hbr : Branch.ofCode br.code = some br := branch_ofCode_eq_some.2 rfl
    simp only [restartBranch, hbr, show (s.work.ring br).state = .down from hdown, if_true]
    rfl
  · rw [restarts ht hdown, enumerate_nothing s.loop htable hnone, hbegun htable, branchNotice_eq, Work.ring_setRing,
      hnews (u := begun) (y := r.startEnumeration.unqueued) (by rw [hbegun htable])]
    have hquiet : State.Quiet { s with work := s.work.setRing br begun } := ht.1.of_work (by simp) (by simp)
    exact congrArg Host.Outcome.next (State.settle_posting_both (hquiet.answered .console rtag _ .accepted []) .ring _)
  · refine State.requestFails_setRing ht.1 (r := r.startEnumeration.unqueued)
      (by simp [Ring.unqueued, Ring.startEnumeration]) fun F n hF hends => ⟨_, restarts ht hdown, ?_⟩
    have hcleared := hends.clearNodes hF s.loop.clock
    rw [hbegun htable] at hcleared
    have hsettles := (hcleared.branchNotice s.loop br .enumerating .restart).settle_answered s rtag
      (.restartBranch br.code) .accepted []
    rw [hnews (y := r.startEnumeration.unqueued) (by rw [hF.nodes, Work.ring_setRing, hbegun htable])] at hsettles
    rw [enumerate_requests s.loop htable, hone]
    exact hsettles
  · have hring : (s.work.setRing br { r with signal := true }).ring br = { r with signal := true } :=
      Work.ring_setRing ..
    have hwork : signalReturned s.loop br s.work =
        branchNotice s.loop br .enumerating .signalReturned (s.work.setRing br { begun with signal := true }) := by
      rw [signalReturned, if_neg (by simpa using hsignal), enumerate_nothing s.loop (by rw [hring]; exact htable)
        (by rw [hring]; exact hnone), hring, Work.setRing_setRing, ← hbegun htable]
      rfl
    refine congrArg Host.Outcome.next ?_
    rw [State.mapWork, hwork, branchNotice_eq, Work.ring_setRing,
      hnews (u := { begun with signal := true }) (y := r.startEnumeration.unqueued) (by rw [hbegun htable])]
    exact State.settle_posting_both (s := { s with work := s.work.setRing br { begun with signal := true } })
      (hq.of_work (by simp) (by simp)) _ _
end

section
/-! ## How an entry takes the reply or the failure of its fire (R91, R92, R120, R126 to R128, R141) -/

namespace Sys2Proof.Machine

/-! ### Discharges and entries whose trial has left -/

/-- What ends a discharge at a result (R91, R92). -/
def ItemReply.discharged : ItemReply → DischargeOutcome
  | .doneGone => .delivered
  | .doneKept => .beltFault
  | .fault => .beltFault
  | .timeout => .noReply
  | .ringRestart => .noReply

section
variable (l : Loop) {w : Work} {e : Entry} (r : ItemReply) (value : Nat)

theorem entryResult_discharge (horphan : e.orphan = false)
    (ho : e.origin = .lineDischarge ∨ e.origin = .consoleDischarge) {c : Nat} (hc : e.chute = some c)
    (hask : e.owner = .console ∨ w.ask c = none) :
    entryResult l e r value w = (w.without e r.load.unlessFaulted).posting
      [⟨e.owner, .fires, dischargeDone l e c r.discharged e.misses⟩] := by
  have hends : entryResult l e r value w = endDischarge l r.discharged e (settleLoad e.carrier r.load w) := by
    rcases ho with ho | ho <;> cases r <;> simp [entryResult, horphan, ho, dischargeResult] <;> rfl
  rw [hends, endDischarge_settled l hc hask]

variable (horphan : e.orphan = true)
include horphan

theorem entryResult_orphanItem (ho : e.origin = .chuteItem) :
    entryResult l e r value w = w.without e r.load.whereConsole := by
  rw [entryResult, if_pos horphan, orphanEffect_item ho, removeEntry_applyLoad]

theorem entryResult_orphanJog (ho : e.origin = .beltJog) :
    entryResult l e r value w = w.without e (if r = .fault then LoadState.whereEmpty else id) := by
  rw [entryResult, if_pos horphan, removeEntry_eq]
  unfold orphanEffect
  rw [ho]
  dsimp only
  by_cases hr : r = .fault
  · simp only [hr, decide_true, Bool.true_and, if_true]
    rw [loads_whereEmpty, Work.without_loads]
  · simp [hr]

end

/-! ### Chute items -/

/-- The item with the reply or failure that reached it (R127). -/
def Item.replied (i : Item) (r : ItemReply) : Item := { i with reply := some r }

section
variable (l : Loop) (t : Trial) {i : Item} {r : ItemReply} (w : Work)

/-- Without its entry verdict an item holds what is not a FAULT (R127). -/
theorem itemReply_held (hr : r ≠ .fault) (hv : i.verdict = none) :
    itemReply l t i r w = w.setTrial (t.setItem (i.replied r)) := by
  cases i
  cases hv
  cases r with
  | fault => exact absurd rfl hr
  | _ => rfl

/-- With its entry verdict it is decided by the table (R127). -/
theorem itemReply_decides {v : Verdict} (hv : i.verdict = some v) :
    itemReply l t i r w = decideItem l t.id (i.replied r) (outcomeTable r v).1 (outcomeTable r v).2 v.hitDev
      (w.setTrial (t.setItem (i.replied r))) := by
  cases i
  cases hv
  cases r <;> rfl

/-- FAULT decides it at once (R127). -/
theorem itemReply_faults (hv : i.verdict = none) :
    itemReply l t i .fault w = decideItem l t.id (i.replied .fault) .beltFault (.fault .beltFault) 0
      (removeItemWindow l t.id i.index (w.setTrial (t.setItem (i.replied .fault)))) := by
  cases i
  cases hv
  rfl

end

theorem Trial.ended_id (t : Trial) (i : Item) (o : ItemOutcome) (d : Int) : (t.ended i o d).id = t.id := by
  rw [Trial.ended_eq]
  exact Trial.counted_id ..

section
variable (l : Loop) {w : Work} {e : Entry} {t : Trial} {i : Item} (horphan : e.orphan = false)
  (ho : e.origin = .chuteItem) (hid : e.trial = some t.id) (ht : w.trial t.id = some t)
  (hi : t.item e.carrier = some i)
include horphan ho hid ht hi

theorem entryResult_item (r : ItemReply) (value : Nat) : entryResult l e r value w = itemReply l t i r w := by
  simp [entryResult, horphan, ho, hid, ht, hi]

variable (he : w.entryOf e.carrier = some e) (hgo : t.GoesOn) (hn : w.NoClaimBut e)
include he hgo hn

omit horphan ho hid in
/-- An item that holds a reply, in whatever form its trial keeps it, is decided (R128). -/
theorem decideItem_held {j : Item} (hindex : j.index = i.index) (hcarrier : j.carrier = i.carrier) (o : ItemOutcome)
    {x : LoadState} (hx : ∀ k ref dest, x ≠ .loaded k ref dest) (d : Int) :
    decideItem l t.id j o x d (w.setTrial (t.setItem j)) = (w.without e x.whereConsole).setTrial (t.ended i o d) := by
  have hfound : e.carrier = j.carrier := by
    rw [hcarrier]
    exact (by simpa [Trial.item] using List.find?_some hi : i.carrier = e.carrier).symm
  have hdecided := decideItem_eq l (w := w.setTrial (t.setItem j)) (t := t.setItem j) (i := j)
    (Work.trial_setTrial_same (t := t.setItem j) ht) (hfound ▸ he) hgo hn o hx d
  have hended : (t.setItem j).ended j o d = t.ended i o d := by
    rw [Trial.ended_setItem]
    simp only [Trial.ended, hindex]
  rw [hended] at hdecided
  exact hdecided.trans (Work.setTrial_setTrial (w.without e x.whereConsole) (t.ended_id i o d).symm)

/-- With its entry verdict an item is decided by the table of R127. -/
theorem entryResult_decided (r : ItemReply) (value : Nat) {v : Verdict} (hv : i.verdict = some v) :
    entryResult l e r value w =
      (w.without e (LoadState.whereConsole (outcomeTable r v).2)).setTrial
        (t.ended i (outcomeTable r v).1 v.hitDev) := by
  rw [entryResult_item l horphan ho hid ht hi, itemReply_decides l t w hv]
  exact decideItem_held l ht hi he hgo hn (j := i.replied r) rfl rfl _ (outcomeTable_load r v) _

end

/-! ### Jogs -/

section
variable {l : Loop} {g : Geometry} (hg : l.geometry = some g) {w : Work} {e : Entry} {t : Trial}
  (horphan : e.orphan = false) (ho : e.origin = .beltJog) (hid : e.trial = some t.id) (ht : w.trial t.id = some t)
  (htarget : t.target = e.carrier) (hgo : t.GoesOn) (he : w.entryAt e.seq = some e) (hroom : w.fires.length ≤ 256)
  (hone : ∀ z ∈ w.fires, z.carrier = e.carrier → z.seq = e.seq)
include horphan ho hid

theorem entryResult_jog (r : ItemReply) (value : Nat) : entryResult l e r value w = jogResult l e t.id r value w := by
  simp [entryResult, horphan, ho, hid]

include hg ht htarget hgo he hroom hone

/-- A jog without a reply is a fail (R141). -/
theorem entryResult_jogUnanswered {r : ItemReply} (hr : r = .timeout ∨ r = .ringRestart) (value : Nat) :
    entryResult l e r value w = (w.without e id).jogsAnew g l.tracker.v
      ((t.noted fun b => { b with noReply := b.noReply + 1 }).counted .fail) := by
  rw [entryResult_jog horphan ho hid]
  have hgone := removeEntry_eq e w
  have hcounted := jogCounted_eq hg (w := w.without e id) ht (Work.without_room he hroom id)
    (htarget ▸ Work.without_free hone id) hgo (fun b => { b with noReply := b.noReply + 1 }) .fail
  rcases hr with rfl | rfl <;> (rw [← hcounted, ← hgone]; rfl)

end

end Sys2Proof.Machine
end

section
/-! ## Transactions that end without a reply (R145, R153) -/

namespace Sys2Proof.Machine

/-- A transaction ends at its deadline or at a restart: what an item holds of it, and what a relay answers (R92, R127,
R156). -/
inductive Lapse : Resolution → ItemReply → RelayOutcome → Prop
  | timeout : Lapse .timeout .timeout .timeout
  | restart : Lapse .ringRestart .ringRestart .ringRestart

section
variable {x : Resolution} {how : ItemReply} {o : RelayOutcome} (h : Lapse x how o) (l : Loop) {w : Work}
include h

theorem Lapse.fire {e : Entry} (he : w.entryAt e.seq = some e) :
    resolve l (.fire e.seq) x w = entryResult l e how 0 w := by
  cases h <;> simp [resolve, resolveFire, he]

theorem Lapse.relay (k : Link) (rtag tag : Nat) (item : QueryItem) (route : Route) :
    resolve l (.relay k rtag tag item route) x w =
      w.posting [⟨k, .relay, .nodeReply rtag tag item route o 0⟩] := by
  cases h <;> rfl

omit l in
theorem Lapse.reply : (how = .timeout ∨ how = .ringRestart) ∧ how ≠ .fault ∧ how.load = .fault .noReply ∧
    how.discharged = .noReply := by
  cases h <;> simp [ItemReply.load, ItemReply.discharged]

end

theorem Ring.setNode_withdraw (node : Nat) (x : Node) (r : Ring) (keep : Job → Bool) :
    (r.withdraw keep).setNode node x = (r.setNode node x).withdraw keep := by
  unfold Ring.setNode
  split <;> rfl

theorem Ring.node_congr {r q : Ring} (h : r.nodes = q.nodes) (n : Nat) : r.node n = q.node n := by
  simp only [Ring.node, h]

/-- A node's timeout below the third is counted, whatever the requester changed (R153). -/
theorem Work.Ends.countTimeout {u w : Work} {br : Branch} {r : Ring} {F : Work → Work} {n : Link → List Notice}
    (h : u.Ends (F (w.setRing br r)) n) (hF : Passes br F) (l : Loop) {node : Nat} {x : Node}
    (hx : r.node node = some x) (ht : x.timeouts < 2) :
    (countTimeout l br node u).Ends (F (w.setRing br (r.setNode node { x with timeouts := x.timeouts + 1 }))) n := by
  have hnode : (u.ring br).node node = some x := by
    rw [h.ring, Ring.node_congr (hF.nodes _), Work.ring_setRing, hx]
  have hcount : Machine.countTimeout l br node u =
      u.setRing br ((u.ring br).setNode node { x with timeouts := x.timeouts + 1 }) := by
    simp only [Machine.countTimeout, hnode, show x.timeouts + 1 < 3 by omega, if_true]
  have hpassed := hF.change (φ := fun y => y.setNode node { x with timeouts := x.timeouts + 1 })
    (Ring.setNode_withdraw _ _) (w.setRing br r)
  rw [Work.ring_setRing, Work.setRing_setRing] at hpassed
  rw [hcount, h.ring, ← hpassed]
  exact h.setRing br _

/-- The deadline of a transaction that the table holds (R153). -/
theorem expireTxn_found (l : Loop) {br : Branch} {tag : Nat} {w : Work} {y : Txn}
    (hy : (w.ring br).table.find? (fun z => z.tag == tag) = some y) :
    expireTxn l br tag w =
      countTimeout l br y.node (resolve l y.job .timeout (w.setRing br ((w.ring br).dropTxn tag))) := by
  rw [expireTxn, hy]

theorem Ring.unqueued_idle {r : Ring} (h : r.waiting = []) : r.unqueued = r := by
  simp only [Ring.waiting, List.append_eq_nil_iff] at h
  obtain ⟨⟨hfire, hdrive⟩, hrelay⟩ := h
  cases r
  simp_all [Ring.unqueued]

theorem failWaiting_idle (l : Loop) (br : Branch) (x : Resolution) {w : Work} (h : (w.ring br).waiting = []) :
    failWaiting l br x (fun _ => true) w = w := by
  rw [failWaiting_all, h, Ring.unqueued_idle h]
  exact Work.setRing_ring ..

/-- An enumeration that finds one transaction and no waiting request ends the transaction (R145). -/
theorem enumerate_txn (l : Loop) {br : Branch} {w : Work} {y : Txn} {F : Work → Work} {n : Link → List Notice}
    (htable : (w.ring br).table = [y]) (hwait : (w.ring br).waiting = []) (hF : Passes br F)
    (h : (resolve l y.job .ringRestart (w.setRing br (w.ring br).startEnumeration)).Ends
      (F (w.setRing br (w.ring br).startEnumeration)) n) :
    (enumerate l br w).Ends (F (w.setRing br ((w.ring br).startEnumeration.clearNodes l.clock))) n := by
  let u := resolve l y.job .ringRestart (w.setRing br (w.ring br).startEnumeration)
  have hnone : (u.ring br).waiting = [] := by
    rw [h.ring]
    exact hF.waiting (by rw [Work.ring_setRing]; exact hwait)
  have henum : enumerate l br w = u.setRing br ((u.ring br).clearNodes l.clock) := by
    have hbegins : enumerate l br w =
        (failWaiting l br .branchDown (fun _ => true) u).setRing br
          (((failWaiting l br .branchDown (fun _ => true) u).ring br).clearNodes l.clock) := by
      rw [enumerate, htable]
      rfl
    rw [hbegins, failWaiting_idle l br _ hnone]
  rw [henum]
  exact h.clearNodes hF l.clock

/-- A relay that fails, as NODE_REPLY tells it (R156). -/
def Req.relayPost (o : RelayOutcome) (q : Req) : Option Post :=
  match q.job with
  | .relay m rtag tag item route => some ⟨m, .relay, .nodeReply rtag tag item route o 0⟩
  | _ => none

/-- What the relays of one node bring to a link. -/
theorem noticesTo_relays (j : Link) (node : Nat) (o : RelayOutcome) (qs : List Req) {f : Req → Option Notice}
    (hf : ∀ q, f q = (q.relayPost o).bind fun p => if p.link = j ∧ q.node = node then some p.notice else none) :
    noticesTo j ((qs.filter fun q => q.node == node).filterMap (Req.relayPost o)) = qs.filterMap f := by
  induction qs with
  | nil => rfl
  | cons q qs ih =>
    simp only [noticesTo, postsTo] at ih ⊢
    rw [List.filterMap_cons, hf, ← ih]
    by_cases hq : q.node = node
    · cases hp : q.relayPost o with
      | none => simp [hq, hp]
      | some p => by_cases hj : p.link = j <;> simp [hq, hp, hj]
    · cases q.relayPost o <;> simp [hq]

/-- Waiting relays fail one by one (R156). -/
theorem foldl_relays (l : Loop) {qs : List Req}
    (h : ∀ q ∈ qs, ∃ m rtag tag item route, q.job = .relay m rtag tag item route) (w : Work) :
    qs.foldl (fun w q => resolve l q.job .nodeSilent w) w = w.posting (qs.filterMap (Req.relayPost .nodeSilent)) := by
  induction qs generalizing w with
  | nil => exact (Work.posting_nil w).symm
  | cons q qs ih =>
    obtain ⟨m, rtag, tag, item, route, hq⟩ := h q (by simp)
    rw [List.foldl_cons, ih fun q hq => h q (by simp [hq])]
    simp only [hq, Req.relayPost, List.filterMap_cons, resolve, endRelay, Work.post_eq_posting, Work.posting_posting]
    rfl

/-- The third timeout of a node with relays alone waiting for it: it is SILENT, and they fail (R153). -/
theorem countTimeout_silences (l : Loop) {br : Branch} {node : Nat} {x : Node} {w : Work}
    (hx : (w.ring br).node node = some x) (ht : 2 ≤ x.timeouts) (hlive : x.state ≠ .silent)
    (hothers : ∀ q ∈ (w.ring br).fireq ++ (w.ring br).driveq, q.node ≠ node)
    (hrelays : ∀ q ∈ (w.ring br).relayq, ∃ m rtag tag item route, q.job = .relay m rtag tag item route) :
    countTimeout l br node w =
      (w.setRing br { (w.ring br).setNode node { x with state := .silent, timeouts := 3 } with
          relayq := (w.ring br).relayq.filter fun q => decide (q.node ≠ node) }).posting
        (bothPosts [(.ring, .nodeState br node .silent .timeouts)] ++
          ((w.ring br).relayq.filter fun q => q.node == node).filterMap (Req.relayPost .nodeSilent)) := by
  let r : Ring := (w.ring br).setNode node { x with state := .silent, timeouts := 3 }
  obtain ⟨hfireq, hdriveq, hrelayq⟩ :
      r.fireq = (w.ring br).fireq ∧ r.driveq = (w.ring br).driveq ∧ r.relayq = (w.ring br).relayq := by
    simp only [r, Ring.setNode]
    split <;> exact ⟨rfl, rfl, rfl⟩
  have hcount : countTimeout l br node w = failWaiting l br .nodeSilent (fun q => q.node == node)
      ((w.setRing br r).posting (bothPosts [(.ring, .nodeState br node .silent .timeouts)])) := by
    simp only [countTimeout, hx, Nat.not_lt.2 (show 3 ≤ x.timeouts + 1 by omega), hlive, if_false, nodeNotice,
      Work.postBoth_eq_posting]
    rfl
  have hnone : ∀ q ∈ (w.ring br).fireq ++ (w.ring br).driveq, (q.node == node) = false := fun q hq => by
    simpa using hothers q hq
  have hstay {qs : List Req} (h : ∀ q ∈ qs, (q.node == node) = false) : qs.filter (fun q => !(q.node == node)) = qs :=
    List.filter_eq_self.2 fun q hq => by simp [h q hq]
  have hfails : r.waiting.filter (fun q => q.node == node) =
      (w.ring br).relayq.filter fun q => q.node == node := by
    rw [Ring.waiting, hfireq, hdriveq, hrelayq, List.filter_append,
      List.filter_eq_nil_iff.2 fun q hq => by simp [hnone q hq], List.nil_append]
  rw [hcount, failWaiting]
  dsimp only
  rw [Work.posting_ring, Work.ring_setRing, hfails, foldl_relays l fun q hq => hrelays q (List.mem_of_mem_filter hq),
    Work.posting_setRing, Work.setRing_setRing, Work.posting_posting]
  refine congrArg (fun y => (w.setRing br y).posting _) ?_
  have hfire : r.fireq.filter (fun q => !(q.node == node)) = r.fireq :=
    hstay fun q hq => hnone q (List.mem_append_left _ (hfireq ▸ hq))
  have hdrive : r.driveq.filter (fun q => !(q.node == node)) = r.driveq :=
    hstay fun q hq => hnone q (List.mem_append_right _ (hdriveq ▸ hq))
  have hrelay : r.relayq.filter (fun q => !(q.node == node)) =
      (w.ring br).relayq.filter fun q => decide (q.node ≠ node) := by
    rw [hrelayq]
    exact List.filter_congr fun q _ => by simp [Bool.beq_eq_decide_eq]
  rw [hfire, hdrive, hrelay]

end Sys2Proof.Machine

open Sys2Proof Sys2Proof.Machine

/-- Settles O56: a transaction that ends without a reply leads to one change at its requester, which passes what the
branch then does: its node's count, or the enumeration. -/
theorem deadlinesExpire : Obligations.DeadlinesExpire := by
  unfold Obligations.DeadlinesExpire
  intro br s tag x y r hq
  refine ⟨fun hnone => ?_, ?_⟩
  · have hfind : (s.work.ring br).table.find? (fun z => z.tag == tag) = none :=
      List.find?_eq_none.2 fun z hz => by simpa using hnone z hz
    have hexpire : expireTxn s.loop br tag s.work = s.work := by rw [expireTxn, hfind]
    refine congrArg Host.Outcome.next ?_
    rw [State.mapWork, hexpire]
    exact hq.settle
  intro hy hx ended late begun link start only deadline restart fails
  have hended : r.dropTxn tag = ended := Ring.dropTxn_eq ..
  have hfails {z : Resolution} {how : ItemReply} {o : RelayOutcome} (hz : Lapse z how o) (q : Ring)
      {ends : (Work → Work) → (Link → List Notice) → Prop}
      (hends : ∀ (F : Work → Work) (n : Link → List Notice), Passes br F →
        (resolve s.loop y.job z (s.work.setRing br q)).Ends (F (s.work.setRing br q)) n → ends F n) :
      fails how o ends := by
    obtain ⟨a, b, hab⟩ : ∃ a b, s.work.setRing br q = s.work.withRings a b := by cases br <;> exact ⟨_, _, rfl⟩
    rw [hab] at hends
    have ho : (s.work.withRings a b).outbox = [] := hq.1
    have hd : ∀ d, (s.work.withRings a b).dist = some d → d.over = false := hq.2
    obtain ⟨hhow, hfault, hload, hdischarged⟩ := hz.reply
    refine ⟨fun k rtag ptag item route hj => hends id _ .same ?_, fun e hj he => ?_⟩
    · rw [hj, hz.relay]
      exact .of_posting ho hd _ fun j => noticesTo_one ..
    rw [hj, hz.fire s.loop (by exact he)] at hends
    refine ⟨fun c horphan hc horigin hask => hends _ _ (.without e _) ?_,
      fun horphan => ⟨fun horigin => hends _ _ (.without e _) ?_, fun horigin => hends _ _ (.without e id) ?_⟩,
      fun t i horphan horigin hid ht hi hof => ⟨fun hv => hends _ _ (.setTrial _) ?_, fun hgo hn v hv =>
        hends _ _ ((Passes.setTrial _).comp (.without e _)) ?_⟩,
      fun t g horphan horigin hid ht htarget hg hgo hroom hone =>
        hends _ _ ((Passes.jogsAnew g s.loop.tracker.v _).comp (.without e id)) ?_⟩
    · rw [entryResult_discharge s.loop how 0 horphan horigin hc (by exact hask), hload, hdischarged]
      exact .of_posting (by exact ho) (by exact hd) _ fun j => noticesTo_one ..
    · rw [entryResult_orphanItem s.loop how 0 horphan horigin, hload]
      exact .of_quiet ho hd
    · rw [entryResult_orphanJog s.loop how 0 horphan horigin, if_neg hfault]
      exact .of_quiet ho hd
    · rw [entryResult_item s.loop horphan horigin hid (by exact ht) hi, itemReply_held s.loop t _ hfault hv]
      exact .of_quiet ho hd
    · rw [entryResult_decided s.loop horphan horigin hid (by exact ht) hi (by exact hof) hgo (by exact hn) how 0 hv]
      exact .of_quiet ho hd
    · rw [entryResult_jogUnanswered hg horphan horigin hid (by exact ht) htarget hgo (by exact he) (by exact hroom)
        (by exact hone) hhow]
      exact .of_quiet ho hd
  have hexpire := expireTxn_found s.loop hy
  refine ⟨fun ht => ?_, fun hdown htable hwait => ?_, fun k rtag ptag item route hj ht hlive hothers => ?_⟩
  · refine hfails .timeout ended fun F n hF hends => ⟨_, rfl, ?_⟩
    rw [State.mapWork, hexpire, hended]
    exact (hends.countTimeout hF s.loop (node := y.node) hx ht).settle s
  · refine hfails .restart r.startEnumeration fun F n hF hends rtag hr htakes =>
      ⟨_, exec_restartBranch htakes hr hdown, ?_⟩
    have hbegun : r.startEnumeration.clearNodes s.loop.clock = begun := rfl
    have hbegins := enumerate_txn s.loop htable hwait hF hends
    have hsettles := (hbegins.branchNotice s.loop br .enumerating .restart).settle_answered s rtag
      (.restartBranch br.code) .accepted []
    rw [branch_cleared s.loop br (y := r.startEnumeration) (clock := s.loop.clock)
      (by rw [hF.nodes, Work.ring_setRing])] at hsettles
    exact hsettles
  · intro silent change others hrelays told
    refine ⟨_, rfl, ?_⟩
    let post : Post := ⟨k, .relay, .nodeReply rtag ptag item route .timeout 0⟩
    have hresolved : resolve s.loop y.job .timeout (s.work.setRing br ended) =
        (s.work.setRing br ended).posting [post] := by
      rw [hj]
      rfl
    have hsilences := countTimeout_silences s.loop (br := br) (w := (s.work.setRing br ended).posting [post])
      (node := y.node) (x := x)
    rw [Work.posting_ring, Work.ring_setRing] at hsilences
    rw [State.mapWork, hexpire, hended, hresolved, hsilences hx ht hlive hothers hrelays, Work.posting_setRing,
      Work.setRing_setRing, Work.posting_posting]
    have hends := Work.Ends.of_posting (w := s.work.setRing br silent) (by simpa using hq.1) (by simpa using hq.2)
      ([post] ++ (bothPosts [(.ring, change)] ++
        (r.relayq.filter fun q => q.node == y.node).filterMap (Req.relayPost .nodeSilent))) (n := told) fun j => ?_
    · exact hends.settle s
    · rw [noticesTo_append, noticesTo_append, noticesTo_one, noticesTo_both,
        noticesTo_relays j y.node .nodeSilent r.relayq fun q => ?_]
      · rfl
      · unfold Req.relayPost
        cases q.job <;> rfl
end

section
/-! ## A REPLY and the entry of its transaction (R91, R120, R126, R127, R141, R152) -/

namespace Sys2Proof.Machine

/-! ### REFUSED and BUSY -/

/-- The entry WAITING and requested again (R91, R152). -/
def Entry.asked (e : Entry) : Entry := { e with state := .waiting, requested := true }

/-- The entry's carrier is in FAULT(DOUBLE_LOAD) (R81). -/
def Work.Doubled (w : Work) (e : Entry) : Prop :=
  ∃ c, w.carriers[e.carrier]? = some c ∧ c.load = .fault .doubleLoad

theorem doubleLoadTakes_iff (w : Work) (e : Entry) :
    doubleLoadTakes w e = true ↔ e.origin ≠ .beltJog ∧ w.Doubled e := by
  unfold doubleLoadTakes Work.isDoubleLoaded Work.Doubled Work.carrier
  cases w.carriers[e.carrier]? <;> simp

/-- Only a chute item returns anything as its entry does. -/
theorem entryReturns_other (l : Loop) {e : Entry} (ho : e.origin ≠ .chuteItem) (w : Work) : entryReturns l e w = w := by
  unfold entryReturns
  cases h : e.origin with
  | chuteItem => exact absurd h ho
  | _ => rfl

section
variable (l : Loop) {w : Work} {e : Entry}

theorem entryRefused_orphan (horphan : e.orphan = true) : entryRefused l e w = w.without e id := by
  rw [entryRefused, if_pos horphan, removeEntry_eq]

theorem entryBusy_orphan (horphan : e.orphan = true) : entryBusy l e w = w.without e id := by
  rw [entryBusy, if_pos horphan, removeEntry_eq]

variable (horphan : e.orphan = false)
include horphan

/-- REFUSED and BUSY find the carrier of a discharge or an item in FAULT(DOUBLE_LOAD) (R91, R126). -/
theorem entry_doubled (ho : e.origin ≠ .beltJog) (hd : w.Doubled e) :
    entryRefused l e w = doubleLoadEnd l e w ∧ entryBusy l e w = doubleLoadEnd l e w := by
  have htakes := (doubleLoadTakes_iff w e).2 ⟨ho, hd⟩
  simp [entryRefused, entryBusy, horphan, htakes]

theorem entry_undoubled (h : ¬(e.origin ≠ .beltJog ∧ w.Doubled e)) :
    entryRefused l e w = missEntry l e (entryReturns l e w) ∧
    entryBusy l e w = entryReturns l e (w.setEntry e.asked) := by
  have htakes := Bool.eq_false_iff.2 (mt (doubleLoadTakes_iff w e).1 h)
  simp [entryRefused, entryBusy, horphan, htakes, Entry.asked]

end

theorem doubleLoadEnd_discharge (l : Loop) {w : Work} {e : Entry}
    (ho : e.origin = .lineDischarge ∨ e.origin = .consoleDischarge) {c : Nat} (hc : e.chute = some c)
    (hask : e.owner = .console ∨ w.ask c = none) :
    doubleLoadEnd l e w =
      (w.without e id).posting [⟨e.owner, .fires, dischargeDone l e c .cancelled e.misses⟩] := by
  have hends : doubleLoadEnd l e w = endDischarge l .cancelled e w := by
    rcases ho with ho | ho <;> simp [doubleLoadEnd, ho]
  rw [hends, endDischarge_posting l hc hask]

/-! ### Chute items that return, or are taken out -/

section
variable (l : Loop) {w : Work} {e : Entry} {t : Trial} {i : Item} (ho : e.origin = .chuteItem)
  (hid : e.trial = some t.id) (ht : w.trial t.id = some t) (hi : t.item e.carrier = some i)
  (hspace : ∀ u ∈ w.plan, u.reasons.noSpace = false)
  (hone : ∀ z ∈ w.windows, ∀ z' ∈ w.windows, z.trial = t.id → z.item = some i.index →
    z'.order = z.order ∨ (z'.trial = t.id ∧ z'.item = some i.index) → z' = z)
include ho hid ht hi hspace hone

theorem entryReturns_item :
    entryReturns l e w = (w.setTrial (t.setItem i.returned)).unwatched t.id i.index := by
  have hreturns : entryReturns l e w = itemReturns l t.id e.carrier w := by simp [entryReturns, ho, hid]
  rw [hreturns, itemReturns_eq l ht hi hspace hone]

/-- The third miss of an item that has returned (R90, R126). -/
theorem missEntry_returned (hm : 2 ≤ e.misses) (hchute : ∀ u ∈ w.plan, u.kind = .chute → u.state ≠ .active) :
    missEntry l e (entryReturns l e w) =
      ((w.without e id).setTrial (t.ended i .fireMissed 0)).unwatched t.id i.index := by
  let u : Work := (w.setTrial (t.setItem i.returned)).unwatched t.id i.index
  have hwin : ∀ z ∈ u.windows, ¬(z.trial = t.id ∧ z.item = some i.index) := fun z hz => by
    simpa [imp_iff_not_or] using (List.mem_filter.1 hz).2
  have hidle : ∀ z ∈ u.plan, z.kind = .chute → z.state ≠ .active := fun z hz => by
    rcases Work.mem_setTrial hz with rfl | ⟨hz, -⟩
    · exact hchute t (List.mem_of_find?_eq_some ht)
    · exact hchute z hz
  have htrial : u.trial t.id = some (t.setItem i.returned) := Work.trial_setTrial_same (t := t.setItem i.returned) ht
  rw [entryReturns_item l ho hid ht hi hspace hone]
  refine (missEntry_item l (w := u) (t := t.setItem i.returned) (i := i.returned) hm ho hid htrial
    (Trial.item_setItem hi rfl rfl) hwin hidle).trans ?_
  have hended : (t.setItem i.returned).ended i.returned .fireMissed 0 = t.ended i .fireMissed 0 :=
    Trial.ended_setItem t i.returned .fireMissed 0
  rw [hended]
  exact congrArg (fun x : Work => x.unwatched t.id i.index)
    (Work.setTrial_setTrial (w.without e id) (t := t.setItem i.returned) (t.ended_id i .fireMissed 0).symm)

/-- Its carrier's double load takes an item out (R126). -/
theorem doubleLoadEnd_item (hn : w.NoClaimBut e) (hd : w.Doubled e) :
    doubleLoadEnd l e w = ((w.without e id).setTrial (t.ended i .withdrawn 0)).unwatched t.id i.index := by
  obtain ⟨c, hc, hl⟩ := hd
  have hload : w.without e id = w.without e (LoadState.whereConsole .empty) :=
    congrArg (fun cs => { w.without e id with carriers := cs }) (modify_congr_at fun d hd => by
      rw [Option.some.inj (hd.symm.trans hc), hl]
      rfl)
  have hclaim (k : Nat) : (w.without e id).claimable k = false :=
    hload ▸ Work.without_unclaimable hn (by simp) k
  have hends : doubleLoadEnd l e w = itemGone l e .withdrawn (w.without e id) := by
    simp [doubleLoadEnd, ho, removeEntry_eq]
  rw [hends]
  exact itemGone_eq l (w := w.without e id) ht hid hi rfl (removeItemWindow_eq l hspace hone) rfl
    (claimPass_unclaimable l hclaim)

/-- Without its entry verdict an item is decided by a FAULT (R127). -/
theorem entryResult_faulted (horphan : e.orphan = false) (hof : w.entryOf e.carrier = some e) (hgo : t.GoesOn)
    (hn : w.NoClaimBut e) (hv : i.verdict = none) (value : Nat) :
    entryResult l e .fault value w =
      ((w.without e (LoadState.whereConsole (.fault .beltFault))).setTrial (t.ended i .beltFault 0)).unwatched
        t.id i.index := by
  have hwindow : removeItemWindow l t.id i.index (w.setTrial (t.setItem (i.replied .fault))) =
      (w.unwatched t.id i.index).setTrial (t.setItem (i.replied .fault)) :=
    removeItemWindow_eq l (Work.noSpace_setTrial ht rfl hspace) hone
  rw [entryResult_item l horphan ho hid ht hi, itemReply_faults l t w hv, hwindow]
  exact decideItem_held l (w := w.unwatched t.id i.index) ht hi hof hgo hn (j := i.replied .fault) rfl rfl _ (by simp) _

end

theorem Passes.unwatched {br : Branch} (id index : Nat) : Passes br fun v => v.unwatched id index :=
  .of_stays (fun v => by cases br <;> rfl) fun v y => by cases br <;> rfl

/-! ### Jogs that are answered -/

/-- What a jog's FAULT makes of its carrier, before or after the entry leaves. -/
theorem Work.without_loads_empty (w : Work) (e : Entry) :
    (w.without e id).loads e.carrier LoadState.whereEmpty = w.without e LoadState.whereEmpty := by
  have hload (y : LoadState) : LoadState.whereEmpty y.unbound = (LoadState.whereEmpty y).unbound := by
    cases y <;> rfl
  simp [Work.loads, Work.without, List.modify_modify_eq, Function.comp_def, hload]

section
variable {l : Loop} {g : Geometry} (hg : l.geometry = some g) {w : Work} {e : Entry} {t : Trial}
  (horphan : e.orphan = false) (ho : e.origin = .beltJog) (hid : e.trial = some t.id) (ht : w.trial t.id = some t)
  (htarget : t.target = e.carrier) (hgo : t.GoesOn) (he : w.entryAt e.seq = some e) (hroom : w.fires.length ≤ 256)
  (hone : ∀ z ∈ w.fires, z.carrier = e.carrier → z.seq = e.seq)
include hg horphan ho hid ht htarget hgo he hroom hone

/-- A jog's FAULT is a fail (R141). -/
theorem entryResult_jogFaulted (value : Nat) :
    entryResult l e .fault value w = (w.without e LoadState.whereEmpty).jogsAnew g l.tracker.v
      ((t.noted fun b => { b with faults := b.faults + 1 }).counted .fail) := by
  have hcounted := jogCounted_eq hg (w := w.without e LoadState.whereEmpty) ht (Work.without_room he hroom _)
    (htarget ▸ Work.without_free hone _) hgo (fun b => { b with faults := b.faults + 1 }) .fail
  rw [entryResult_jog horphan ho hid, ← hcounted, ← Work.without_loads_empty, ← loads_whereEmpty, ← removeEntry_eq]
  rfl

/-- The trial with the speed that a jog achieved (R141). -/
def Trial.achieving (t : Trial) (value : Nat) : Trial := { t with belt := { t.belt with achieved := some value } }

/-- A jog's DONE is a hit in band and a fail out of band (R141). -/
theorem entryResult_jogDone {b speed : Nat} (hb : t.band = some b) (hs : t.jogSpeed = some speed) {r : ItemReply}
    (hr : r = .doneGone ∨ r = .doneKept) (value : Nat) :
    entryResult l e r value w = (w.without e id).jogsAnew g l.tracker.v
      (if ((value : Int) - speed).natAbs ≤ b then
        ((t.achieving value).noted fun b => { b with inBand := b.inBand + 1 }).counted (.hit ((value : Int) - speed))
      else ((t.achieving value).noted fun b => { b with outBand := b.outBand + 1 }).counted .fail) := by
  let u : Trial := t.achieving value
  let gone : Work := w.without e id
  have htrial : gone.trial t.id = some t := ht
  have hkeep : keepAchieved t.id value gone = gone.setTrial u := by simp only [keepAchieved, htrial]; rfl
  have hcounted (f : BeltCounts → BeltCounts) (x : Evidence) :
      jogCounted l t.id f x (gone.setTrial u) = gone.jogsAnew g l.tracker.v ((u.noted f).counted x) := by
    have hnoted : (u.noted f).id = t.id := by
      unfold Trial.noted
      split <;> rfl
    refine (jogCounted_eq hg (w := gone.setTrial u) (t := u) (Work.trial_setTrial_same (t := u) ht)
      (Work.without_room he hroom id) (htarget ▸ Work.without_free hone id) hgo f x).trans ?_
    exact Work.jogsAnew_setTrial gone g l.tracker.v (by rw [Trial.counted_id, hnoted]; rfl)
  have hdone : entryResult l e r value w = jogDone l t.id value gone := by
    rw [entryResult_jog horphan ho hid]
    rcases hr with rfl | rfl <;> simp only [jogResult, removeEntry_eq] <;> rfl
  rw [hdone]
  unfold jogDone
  rw [htrial]
  simp only [hb, hs, Option.getD_some, inBand, hkeep, hcounted, decide_eq_true_eq]
  split <;> rfl

end

end Sys2Proof.Machine
end

section
/-! ## A REPLY at its branch (R147, R152) -/

namespace Sys2Proof.Machine

/-! ### The transaction -/

/-- The branch once a node was heard and its transaction has ended. -/
def Ring.replied (r : Ring) (tag node : Nat) (x : Node) : Ring :=
  { r.setNode node x.heard with table := r.table.filter fun z => decide (z.tag ≠ tag) }

theorem Ring.setNode_queues (r : Ring) (node : Nat) (x : Node) :
    (r.setNode node x).fireq = r.fireq ∧ (r.setNode node x).relayq = r.relayq ∧
    (r.setNode node x).stats = r.stats := by
  unfold Ring.setNode
  split <;> exact ⟨rfl, rfl, rfl⟩

section
variable (l : Loop) {w : Work} {br : Branch} {f : ReplyFields} {x : Node} (hx : (w.ring br).node f.node = some x)
include hx

/-- A reply without a transaction counts as an orphan (R152). -/
theorem takeReply_orphan (hnone : ∀ z ∈ (w.ring br).table, ¬(z.tag = f.tag ∧ z.node = f.node)) :
    takeReply l br f w =
      (w.setRing br { (w.ring br).setNode f.node x.heard with
        stats := { (w.ring br).stats with orphan := min ((w.ring br).stats.orphan + 1) 65535 } }).posting
        (bothPosts (heardNews br f.node x)) := by
  have hmatch : ((w.ring br).setNode f.node x.heard).matching f = none := by
    rw [Ring.matching, (Ring.setNode_frame ..).1]
    exact List.find?_eq_none.2 fun z hz => by simpa using hnone z hz
  unfold takeReply
  rw [nodeHeard_eq hx]
  dsimp only
  rw [Work.posting_ring, Work.ring_setRing, hmatch]
  dsimp only
  rw [Work.posting_setRing, Work.setRing_setRing, (Ring.setNode_queues ..).2.2]
  rfl

variable {y : Txn} (hy : (w.ring br).table.find? (fun z => z.tag == f.tag && z.node == f.node) = some y)
include hy

/-- A REPLY ends the transaction that it matches: its requester is told, or its request returns (R152). -/
theorem takeReply_txn :
    let ended := (w.ring br).replied f.tag f.node x
    let heard := bothPosts (heardNews br f.node x)
    (¬(f.status = 2 ∧ y.attempts < 4) →
      takeReply l br f w = resolve l y.job (replyResolution f) ((w.setRing br ended).posting heard)) ∧
    (f.status = 2 → y.attempts < 4 →
      takeReply l br f w =
        arbitration l br (returned l y.job ((w.setRing br (ended.join y.request)).posting heard))) := by
  intro ended heard
  obtain ⟨htable, -⟩ := Ring.setNode_frame (w.ring br) f.node x.heard
  have hmatch : ((w.ring br).setNode f.node x.heard).matching f = some y := by rw [Ring.matching, htable, hy]
  have htag : y.tag = f.tag := by
    have hfound := List.find?_some hy
    simp only [Bool.and_eq_true, beq_iff_eq] at hfound
    exact hfound.1
  have hdrop : ((w.ring br).setNode f.node x.heard).dropTxn y.tag = ended := by
    rw [Ring.dropTxn_eq, htag, htable]
    rfl
  have htake : takeReply l br f w =
      if f.status = 2 && decide (y.attempts < 4) then
        arbitration l br (returned l y.job ((w.setRing br (ended.join y.request)).posting heard))
      else resolve l y.job (replyResolution f) ((w.setRing br ended).posting heard) := by
    unfold takeReply
    rw [nodeHeard_eq hx]
    dsimp only
    rw [Work.posting_ring, Work.ring_setRing, hmatch]
    dsimp only
    rw [hdrop, Work.posting_setRing, Work.posting_setRing, Work.setRing_setRing, Work.setRing_setRing]
  rw [htake]
  exact ⟨fun h => if_neg (by simpa using h), fun hs ha => if_pos (by simp [hs, ha])⟩

end

/-- Waiting requests do not hold the downlink. -/
theorem arbitration_passes (l : Loop) {br : Branch} {F : Work → Work} (hF : Passes br F) {w : Work}
    (h : (w.ring br).downlink ≠ none) (ps : List Post) :
    arbitration l br ((F w).posting ps) = (F w).posting ps := by
  obtain ⟨keep, hring, -⟩ := hF
  refine arbitration_busy l ?_
  rw [Work.posting_ring, hring]
  exact h

/-- A request that returns, and whose entry leaves, is withdrawn again (R149). -/
theorem Work.without_returned (w : Work) (br : Branch) (r : Ring) (e : Entry) (f : LoadState → LoadState) {q : Req}
    (hq : q.job = .fire e.seq) :
    (w.setRing br { r with fireq := r.fireq ++ [q] }).without e f = (w.setRing br r).without e f := by
  have hring : Ring.withdraw { r with fireq := r.fireq ++ [q] } (fun j => decide (j ≠ .fire e.seq)) =
      r.withdraw fun j => decide (j ≠ .fire e.seq) := by
    simp [Ring.withdraw, hq]
  cases br <;> simp only [Work.setRing, Work.without, hring]

section
variable (l : Loop) {w : Work} {br : Branch} {f : ReplyFields} {x : Node} {y : Txn} {k : Link} {rtag ptag : Nat}
  {item : QueryItem} {route : Route} (hx : (w.ring br).node f.node = some x)
  (hy : (w.ring br).table.find? (fun z => z.tag == f.tag && z.node == f.node) = some y)
  (hj : y.job = .relay k rtag ptag item route)
include hx hy hj

/-- The reply that ends a relay (R156). -/
theorem takeReply_relay (h : f.status ≠ 2 ∨ 4 ≤ y.attempts) :
    takeReply l br f w = (w.setRing br ((w.ring br).replied f.tag f.node x)).posting
      (bothPosts (heardNews br f.node x) ++ [⟨k, .relay, .nodeReply rtag ptag item route
        (relayOutcome (replyResolution f)).1 (relayOutcome (replyResolution f)).2⟩]) := by
  rw [(takeReply_txn l hx hy).1 (by omega), hj, resolve, endRelay, Work.post_eq_posting, Work.posting_posting]

/-- BUSY returns a relay to the end of its queue; on a busy downlink it waits on (R152). -/
theorem takeReply_relayBusy (h2 : f.status = 2) (ha : y.attempts < 4) (hfree : (w.ring br).downlink ≠ none) :
    takeReply l br f w = (w.setRing br { (w.ring br).replied f.tag f.node x with
      relayq := (w.ring br).relayq ++ [y.request] }).posting (bothPosts (heardNews br f.node x)) := by
  obtain ⟨-, hrelayq, -⟩ := (w.ring br).setNode_queues f.node x.heard
  have hjoin : ((w.ring br).replied f.tag f.node x).join y.request =
      { (w.ring br).replied f.tag f.node x with relayq := (w.ring br).relayq ++ [y.request] } := by
    rw [Ring.join, show y.request.job.requester = .relay by rw [Txn.request, hj]; rfl, ← hrelayq]
    rfl
  have hdownlink : ((w.ring br).replied f.tag f.node x).downlink = (w.ring br).downlink :=
    ((w.ring br).setNode_frame f.node x.heard).2.2.1
  rw [(takeReply_txn l hx hy).2 h2 ha, hjoin, hj, returned, arbitration_busy]
  rwa [Work.posting_ring, Work.ring_setRing, hdownlink]

end

/-- The branch as a fire's request returns to the end of its queue, marked to yield (R149, R152). -/
def Ring.returned (r : Ring) (tag node : Nat) (x : Node) (y : Txn) : Ring :=
  { r.replied tag node x with fireq := r.fireq ++ [y.request] }

section
variable (l : Loop) {w : Work} {br : Branch} {f : ReplyFields} {x : Node} {y : Txn} {e : Entry}
  (hx : (w.ring br).node f.node = some x)
  (hy : (w.ring br).table.find? (fun z => z.tag == f.tag && z.node == f.node) = some y)
  (hj : y.job = .fire e.seq) (he : w.entryAt e.seq = some e)
include hx hy hj he

/-- The reply that ends a fire's transaction reaches its entry (R91, R152). -/
theorem takeReply_fire :
    let v := (w.setRing br ((w.ring br).replied f.tag f.node x)).posting (bothPosts (heardNews br f.node x))
    (f.status = 1 → takeReply l br f w = entryResult l e (if f.loadGone then .doneGone else .doneKept) f.value v) ∧
    (f.status = 4 → takeReply l br f w = entryResult l e .fault f.value v) ∧
    (f.status = 3 ∨ f.status = 2 ∧ 4 ≤ y.attempts → takeReply l br f w = entryRefused l e v) := by
  intro v
  have hentry : v.entryAt e.seq = some e := by
    cases br <;> exact he
  have hends {z : Resolution} (h : f.status ≠ 2 ∨ 4 ≤ y.attempts) (hz : replyResolution f = z) :
      takeReply l br f w = resolveFire l e.seq z v := by
    rw [(takeReply_txn l hx hy).1 (by omega), hj, hz]
    rfl
  refine ⟨fun hs => ?_, fun hs => ?_, fun hs => ?_⟩
  · rw [hends (z := .done f.value f.loadGone) (by omega) (by simp [replyResolution, hs])]
    simp only [resolveFire, hentry]
  · rw [hends (z := .fault f.value) (by omega) (by simp [replyResolution, hs])]
    simp only [resolveFire, hentry]
  · rcases hs with hs | ⟨hs, ha⟩
    · rw [hends (z := .refused f.value) (by omega) (by simp [replyResolution, hs])]
      simp only [resolveFire, hentry]
    · rw [hends (z := .busy) (.inr ha) (by simp [replyResolution, hs])]
      simp only [resolveFire, hentry]

/-- BUSY returns a fire's request, and its entry is told; on a busy downlink it waits on (R152). -/
theorem takeReply_busy (h2 : f.status = 2) (ha : y.attempts < 4) (hfree : (w.ring br).downlink ≠ none)
    {F : Work → Work} (hF : Passes br F) {ps : List Post}
    (h : entryBusy l e ((w.setRing br ((w.ring br).returned f.tag f.node x y)).posting
        (bothPosts (heardNews br f.node x))) =
      (F (w.setRing br ((w.ring br).returned f.tag f.node x y))).posting ps) :
    takeReply l br f w = (F (w.setRing br ((w.ring br).returned f.tag f.node x y))).posting ps := by
  have hjoin : ((w.ring br).replied f.tag f.node x).join y.request = (w.ring br).returned f.tag f.node x y := by
    rw [Ring.join, show y.request.job.requester = .fire by rw [Txn.request, hj]; rfl, Ring.returned,
      ← ((w.ring br).setNode_queues f.node x.heard).1]
    rfl
  have hdownlink : ((w.ring br).returned f.tag f.node x y).downlink = (w.ring br).downlink :=
    ((w.ring br).setNode_frame f.node x.heard).2.2.1
  have hreturned (v : Work) (hv : v.entryAt e.seq = some e) : returned l y.job v = entryBusy l e v := by
    rw [hj, Machine.returned, hv]
  rw [(takeReply_txn l hx hy).2 h2 ha, hjoin, hreturned _ (by cases br <;> exact he), h,
    arbitration_passes l hF (by rwa [Work.ring_setRing, hdownlink])]

/-- A reply at which the entry leaves, whether its transaction ends or its request was to return (R91, R120). -/
theorem takeReply_leaves {F : Work → Work} (hF : Passes br F) {ps : List Post}
    (hsame : F (w.setRing br ((w.ring br).returned f.tag f.node x y)) =
      F (w.setRing br ((w.ring br).replied f.tag f.node x)))
    (hrefused : entryRefused l e ((w.setRing br ((w.ring br).replied f.tag f.node x)).posting
        (bothPosts (heardNews br f.node x))) = (F (w.setRing br ((w.ring br).replied f.tag f.node x))).posting ps)
    (hbusy : entryBusy l e ((w.setRing br ((w.ring br).returned f.tag f.node x y)).posting
        (bothPosts (heardNews br f.node x))) = (F (w.setRing br ((w.ring br).returned f.tag f.node x y))).posting ps)
    (h : f.status = 3 ∨ (f.status = 2 ∧ 4 ≤ y.attempts) ∨
      (f.status = 2 ∧ y.attempts < 4 ∧ (w.ring br).downlink ≠ none)) :
    takeReply l br f w = (F (w.setRing br ((w.ring br).replied f.tag f.node x))).posting ps := by
  obtain ⟨-, -, hends⟩ := takeReply_fire l hx hy hj he
  rcases h with h | h | ⟨h2, ha, hfree⟩
  · rw [hends (.inl h), hrefused]
  · rw [hends (.inr h), hrefused]
  · rw [takeReply_busy l hx hy hj he h2 ha hfree hF hbusy, hsame]

end

/-! ### What the frame gives -/

/-- A frame that leaves the core as `w` and posts, besides NODE_STATE(HEARD), from one block: what `FrameGives` says. -/
theorem frameGives_posts {s : State} {c : Instr} {br : Branch} {node : Nat} {x : Node} {w : Work} {ps : List Post}
    {b : Block} (hq : ({ s with work := w } : State).Quiet) (hb : ∀ p ∈ ps, p.block = b)
    (h : exec c s = .next ({ s with work := w.posting (bothPosts (heardNews br node x) ++ ps) } : State).settle) :
    s.FrameGives c br node x w (noticesTo .line ps) (noticesTo .console ps) := by
  have hnews (k : Link) : noticesTo k (bothPosts (heardNews br node x)) = heardNotices br node x := by
    simp [noticesTo, notices_bothPosts, heardNews, Function.comp_def]
  refine ⟨fun hs => ?_, fun hs => ⟨_, h, ?_⟩⟩
  · have hnone : bothPosts (heardNews br node x) = [] := by simp [heardNews, heardNotices, hs, bothPosts]
    rw [h, hnone, List.nil_append]
    exact congrArg Host.Outcome.next (State.settle_posting_one hq (fun p hp => hb p (List.mem_of_mem_filter hp))
      fun p hp => hb p (List.mem_of_mem_filter hp))
  · have hends := Work.Ends.of_posting hq.1 hq.2 (bothPosts (heardNews br node x) ++ ps)
      (n := fun k => heardNotices br node x ++ noticesTo k ps) fun k => by rw [noticesTo_append, hnews]
    exact hends.settle s

section
variable {s : State} {br : Branch} {f : ReplyFields} {x : Node} {w : Work} (hdown : (s.work.ring br).state ≠ .down)
  (hpasses : f.passes = true) (ho : w.outbox = s.work.outbox) (hd : w.dist = s.work.dist) (hq : s.Quiet)
include hdown hpasses ho hd hq

/-- A REPLY that leaves the core as `w` and tells nobody else. -/
theorem replyFrame_leaves (h : takeReply s.loop br f s.work = w.posting (bothPosts (heardNews br f.node x))) :
    s.FrameGives (.replyFrame br f) br f.node x w [] [] :=
  frameGives_posts (b := .ring) (ps := []) (hq.of_work ho hd) (by simp)
    ((exec_replyFrame hdown hpasses).trans (by rw [State.mapWork, h, List.append_nil]))

/-- A REPLY that leaves the core as `w` and tells one link of it. -/
theorem replyFrame_tells {k : Link} {b : Block} {n : Notice}
    (h : takeReply s.loop br f s.work = w.posting (bothPosts (heardNews br f.node x) ++ [⟨k, b, n⟩])) :
    s.FrameGives (.replyFrame br f) br f.node x w (if k = .line then [n] else []) (if k = .line then [] else [n]) := by
  have hgives := frameGives_posts (b := b) (ps := [⟨k, b, n⟩]) (hq.of_work ho hd) (by simp)
    ((exec_replyFrame hdown hpasses).trans (by rw [State.mapWork, h]))
  rw [noticesTo_one, noticesTo_one] at hgives
  cases k <;> exact hgives

end

end Sys2Proof.Machine

open Sys2Proof Sys2Proof.Machine

/-- Settles O55: the reply ends its transaction, and each requester's part is a change of the core that the branch
passes. -/
theorem repliesEndTransactions : Obligations.RepliesEndTransactions := by
  unfold Obligations.RepliesEndTransactions
  refine ⟨fun d => ⟨rfl, ?_⟩, ?_⟩
  · simp [outcomeTable]
  intro br s tag node status value loadGone x r reply hq h1 h126 hs1 hs4 hdown hx heard gives
  let f : ReplyFields := ⟨tag, node, status, value, loadGone⟩
  have hpasses : f.passes = true := by simp [ReplyFields.passes, within, f, h1, h126, hs1, hs4]
  let hs := bothPosts (heardNews br node x)
  have tells {w : Work} {k : Link} (b : Block) {n : Notice} (ho : w.outbox = s.work.outbox) (hd : w.dist = s.work.dist)
      (h : takeReply s.loop br f s.work = w.posting (hs ++ [⟨k, b, n⟩])) : gives w k [n] :=
    replyFrame_tells hdown hpasses ho hd hq h
  have leaves {w : Work} (ho : w.outbox = s.work.outbox) (hd : w.dist = s.work.dist)
      (h : takeReply s.loop br f s.work = w.posting hs) : gives w .line [] :=
    replyFrame_leaves hdown hpasses ho hd hq h
  refine ⟨fun hnone => leaves (Work.setRing_outbox ..) (Work.setRing_dist ..) (takeReply_orphan s.loop hx hnone), ?_⟩
  intro y hy ended final again request
  refine ⟨fun k rtag ptag item route hj => ?_, fun e hj he => ?_⟩
  · intro ends
    have hends (h : status ≠ 2 ∨ 4 ≤ y.attempts) := tells .relay (Work.setRing_outbox ..) (Work.setRing_dist ..)
      (takeReply_relay s.loop (f := f) hx hy hj h)
    refine ⟨?_, ?_, ?_, ?_, fun ⟨h2, ha, hfree⟩ => leaves (Work.setRing_outbox ..) (Work.setRing_dist ..)
      (takeReply_relayBusy s.loop (f := f) hx hy hj h2 ha hfree)⟩
    · rintro rfl
      exact hends (.inl (by simp))
    · rintro rfl
      exact hends (.inl (by simp))
    · rintro rfl
      exact hends (.inl (by simp))
    · rintro ⟨rfl, ha⟩
      exact hends (.inr ha)
  · intro w back does double missed asked
    have hwithout (G : LoadState → LoadState) : back.without e G = w.without e G := by
      have hsame := Work.without_returned s.work br ended e G (q := request) hj
      rwa [show ended.fireq = r.fireq from (r.setNode_queues node x.heard).1] at hsame
    obtain ⟨hdone, hfault, hrefused⟩ :
        (status = 1 → takeReply s.loop br f s.work =
          entryResult s.loop e (if loadGone then .doneGone else .doneKept) value (w.posting hs)) ∧
        (status = 4 → takeReply s.loop br f s.work = entryResult s.loop e .fault value (w.posting hs)) ∧
        (status = 3 ∨ final → takeReply s.loop br f s.work = entryRefused s.loop e (w.posting hs)) :=
      takeReply_fire s.loop (f := f) hx hy hj he
    have hbusy (h : again) {F : Work → Work} {ps : List Post} (hF : Passes br F)
        (hb : entryBusy s.loop e (back.posting hs) = (F back).posting ps) :
        takeReply s.loop br f s.work = (F back).posting ps :=
      takeReply_busy s.loop (f := f) hx hy hj he h.1 h.2.1 h.2.2 hF hb
    have hleaves {F : Work → Work} {ps : List Post} (hF : Passes br F) (hsame : F back = F w)
        (hr : entryRefused s.loop e (w.posting hs) = (F w).posting ps)
        (hb : entryBusy s.loop e (back.posting hs) = (F back).posting ps) (h : status = 3 ∨ final ∨ again) :
        takeReply s.loop br f s.work = (F w).posting ps :=
      takeReply_leaves s.loop (f := f) hx hy hj he hF hsame hr hb h
    obtain ⟨a, b, hw⟩ : ∃ a b, w = s.work.withRings a b := by cases br <;> exact ⟨_, _, rfl⟩
    obtain ⟨a', b', hb⟩ : ∃ a b, back = s.work.withRings a b := by cases br <;> exact ⟨_, _, rfl⟩
    clear_value w back
    subst hw hb
    have told {a b : Ring} {G : LoadState → LoadState} {ps : List Post} :
        (((s.work.withRings a b).posting hs).without e G).posting ps =
          ((s.work.withRings a b).without e G).posting (hs ++ ps) :=
      Work.posting_posting ((s.work.withRings a b).without e G) hs ps
    have undoubled (a b : Ring) (horphan : e.orphan = false) (h : ¬(e.origin ≠ .beltJog ∧ double)) :=
      entry_undoubled s.loop (w := (s.work.withRings a b).posting hs) horphan h
    have doubled (a b : Ring) (horphan : e.orphan = false) (hnot : e.origin ≠ .beltJog) (h : double) :=
      entry_doubled s.loop (w := (s.work.withRings a b).posting hs) horphan hnot h
    refine ⟨fun c horphan hc ho hask => ?_, fun horphan => ?_, ?_, ?_⟩
    · intro goes
      have hlands {k : ItemReply} {v : Nat} (h : takeReply s.loop br f s.work =
          entryResult s.loop e k v ((s.work.withRings a b).posting hs)) :
          goes k.discharged e.misses k.load.unlessFaulted :=
        tells .fires rfl rfl (h.trans ((entryResult_discharge s.loop k v horphan ho hc (by exact hask)).trans told))
      have hother : e.origin ≠ .chuteItem := by rcases ho with ho | ho <;> simp [ho]
      refine ⟨fun h hg => ?_, fun h => ?_, fun hdouble h => ?_, fun hdouble h => ?_, fun hdouble h => ?_⟩
      · subst hg
        exact hlands (k := .doneGone) (hdone h)
      · rcases h with ⟨h, rfl⟩ | h
        · exact hlands (k := .doneKept) (hdone h)
        · exact hlands (k := .fault) (hfault h)
      · have hmiss := (hrefused h).trans (undoubled a b horphan fun hd => hdouble hd.2).1
        rw [entryReturns_other s.loop hother] at hmiss
        refine ⟨fun hm => leaves rfl rfl (hmiss.trans (missEntry_stays s.loop hm)), fun hm => tells .fires rfl rfl
          (hmiss.trans ((missEntry_discharge s.loop hm ho hc (by exact hask)).trans told))⟩
      · refine leaves rfl rfl (hbusy h (.setEntry asked) ?_)
        rw [(undoubled a' b' horphan fun hd => hdouble hd.2).2, entryReturns_other s.loop hother]
        rfl
      · have hnot : e.origin ≠ .beltJog := by rcases ho with ho | ho <;> simp [ho]
        refine tells .fires rfl rfl (hleaves (.without e id) (hwithout id) ?_ ?_ h)
        · exact (doubled a b horphan hnot hdouble).1.trans
            ((doubleLoadEnd_discharge s.loop ho hc (by exact hask)).trans told)
        · exact (doubled a' b' horphan hnot hdouble).2.trans
            ((doubleLoadEnd_discharge s.loop ho hc (by exact hask)).trans told)
    · refine ⟨fun ho h hg => ?_, fun ho h => ?_, fun ho h => ?_, fun ho h => ?_, fun h => ?_⟩
      · subst hg
        exact leaves rfl rfl ((hdone h).trans (entryResult_orphanItem s.loop .doneGone value horphan ho))
      · rcases h with ⟨h, rfl⟩ | h
        · exact leaves rfl rfl ((hdone h).trans (entryResult_orphanItem s.loop .doneKept value horphan ho))
        · exact leaves rfl rfl ((hfault h).trans (entryResult_orphanItem s.loop .fault value horphan ho))
      · refine leaves rfl rfl ((hdone h).trans ((entryResult_orphanJog s.loop _ value horphan ho).trans ?_))
        rw [if_neg (by cases loadGone <;> simp)]
        rfl
      · exact leaves rfl rfl ((hfault h).trans (entryResult_orphanJog s.loop .fault value horphan ho))
      · exact leaves rfl rfl (hleaves (.without e id) (hwithout id) (entryRefused_orphan s.loop horphan)
          (entryBusy_orphan s.loop horphan) h)
    · intro t i horphan ho hid ht hi hof hspace hone takes returned unwatched kept decided
      let W : Work := (s.work.withRings a b).posting hs
      let W' : Work := (s.work.withRings a' b').posting hs
      have hnot : e.origin ≠ .beltJog := by simp [ho]
      have hitem (k : ItemReply) (v : Nat) := entryResult_item s.loop (w := W) horphan ho hid ht hi k v
      refine ⟨fun h hv => ?_, fun hgo hn v hv => ⟨fun h => ?_, fun h => ?_⟩, fun hgo hn hv h => ?_,
        fun hdouble h => ⟨fun hm => ?_, fun hm hchute => ?_⟩, fun hdouble h => ?_, fun hdouble hn h => ?_⟩
      · have hkept : kept ≠ .fault := by cases hg : loadGone <;> simp [kept, hg]
        exact leaves rfl rfl ((hdone h).trans ((hitem kept value).trans (itemReply_held s.loop t W hkept hv)))
      · exact leaves rfl rfl ((hdone h).trans
          (entryResult_decided s.loop (w := W) horphan ho hid ht hi hof hgo hn kept value hv))
      · exact leaves rfl rfl ((hfault h).trans
          (entryResult_decided s.loop (w := W) horphan ho hid ht hi hof hgo hn .fault value hv))
      · exact leaves rfl rfl ((hfault h).trans
          (entryResult_faulted s.loop (w := W) ho hid ht hi hspace hone horphan hof hgo hn hv value))
      · refine leaves rfl rfl ((hrefused h).trans ((undoubled a b horphan fun hd => hdouble hd.2).1.trans ?_))
        rw [entryReturns_item s.loop (w := W) ho hid ht hi hspace hone, missEntry_stays s.loop hm]
        rfl
      · exact leaves rfl rfl ((hrefused h).trans ((undoubled a b horphan fun hd => hdouble hd.2).1.trans
          (missEntry_returned s.loop (w := W) ho hid ht hi hspace hone hm hchute)))
      · exact leaves rfl rfl (hbusy h
          ((Passes.unwatched t.id i.index).comp ((Passes.setTrial returned).comp (.setEntry asked)))
          ((undoubled a' b' horphan fun hd => hdouble hd.2).2.trans
            (entryReturns_item s.loop (w := W'.setEntry e.asked) ho hid ht hi hspace hone)))
      · refine leaves rfl rfl (hleaves
          ((Passes.unwatched t.id i.index).comp ((Passes.setTrial (t.ended i .withdrawn 0)).comp (.without e id)))
          (by rw [hwithout]) ?_ ?_ h)
        · exact (doubled a b horphan hnot hdouble).1.trans
            (doubleLoadEnd_item s.loop (w := W) ho hid ht hi hspace hone hn hdouble)
        · exact (doubled a' b' horphan hnot hdouble).2.trans
            (doubleLoadEnd_item s.loop (w := W') ho hid ht hi hspace hone hn hdouble)
    · intro t g band speed horphan ho hid ht htarget hg hband hspeed hgo hroom hone v d heardOf
      let W : Work := (s.work.withRings a b).posting hs
      have hother : e.origin ≠ .chuteItem := by simp [ho]
      have hjog : ¬(e.origin ≠ .beltJog ∧ double) := fun hd => hd.1 ho
      have hachieved := entryResult_jogDone hg (w := W) horphan ho hid ht htarget hgo he hroom hone hband hspeed
        (r := if loadGone then .doneGone else .doneKept) (by cases loadGone <;> simp) value
      have hmiss (h : status = 3 ∨ final) := (hrefused h).trans (undoubled a b horphan hjog).1
      rw [entryReturns_other s.loop hother] at hmiss
      refine ⟨fun h hd => ?_, fun h hd => ?_, fun h => ?_, fun h => ⟨fun hm => ?_, fun hm => ?_⟩, fun h => ?_⟩
      · rw [if_pos hd] at hachieved
        exact leaves rfl rfl ((hdone h).trans hachieved)
      · rw [if_neg (Nat.not_le.2 hd)] at hachieved
        exact leaves rfl rfl ((hdone h).trans hachieved)
      · exact leaves rfl rfl ((hfault h).trans
          (entryResult_jogFaulted hg (w := W) horphan ho hid ht htarget hgo he hroom hone value))
      · exact leaves rfl rfl ((hmiss h).trans (missEntry_stays s.loop hm))
      · exact leaves rfl rfl ((hmiss h).trans (missEntry_jog s.loop (w := W) hm hg ho he hid ht htarget hroom hone))
      · refine leaves rfl rfl (hbusy h (.setEntry asked) ((undoubled a' b' horphan hjog).2.trans ?_))
        rw [entryReturns_other s.loop hother]
        rfl
end
